-- ==== Sys2Proof/Word.lean ====
section
/-!
DEFINITION. The plain words of the part: bytes, node ids and the index types of its fixed banks.
-/

namespace Sys2Proof

/-- One byte of packet memory or of a record (chapter 12: offsets are in bytes). -/
abbrev Byte := BitVec 8

/-- A 16-bit mesh node id; R2 gives the meaning of 0x0000 and 0xFFFF. -/
abbrev NodeId := BitVec 16

/-- The index of one of the sixteen link records (R41). -/
abbrev LinkIx := Fin 16

/-- A tag: the index of one of the 512 frame entries (R16). -/
abbrev Tag := Fin 512

/-- A position of the route table (R88). -/
abbrev RoutePos := Fin 256

/-- A slot of a superframe (R128). -/
abbrev SlotIx := Fin 64

/-- One of the 22 own-frame buffers of the frame area (R10): 0 and 1 are the beacon buffers, 2 + n is
probe buffer n and 18 + i is reply buffer i. -/
abbrev BufIx := Fin 22

/-- A bank of `n` like places (a register file, a table, a set of buffers). -/
abbrev Bank (α : Type) (n : Nat) := Vector α n

/-- 0x0000: no node (R2). -/
def nodeNone : NodeId := 0x0000#16

/-- 0xFFFF: all nodes (R2). -/
def nodeAll : NodeId := 0xFFFF#16

end Sys2Proof
end

