-- ==== Sys2Proof/Machine/Bytes.lean ====
section
/-!
DEFINITION. Byte order (multi-byte fields are little-endian, chapter 12), bit fields, and the cutting of a
byte range into naturally aligned accesses (R163).
-/

namespace Sys2Proof.Machine

/-- The byte at offset `i` of a record; a record shorter than its layout reads 0 there. -/
def byteAt (r : List Byte) (i : Nat) : Byte := r.getD i 0

/-- The two-byte field at offset `i`, little-endian. -/
def half (r : List Byte) (i : Nat) : BitVec 16 := byteAt r (i + 1) ++ byteAt r i

/-- The four-byte field at offset `i`, little-endian. -/
def word (r : List Byte) (i : Nat) : BitVec 32 := half r (i + 2) ++ half r i

/-- The two bytes of a 16-bit value, low byte first. -/
def halfBytes (w : BitVec 16) : List Byte := [w.extractLsb' 0 8, w.extractLsb' 8 8]

/-- The four bytes of a 32-bit value, low byte first. -/
def wordBytes (w : BitVec 32) : List Byte :=
  halfBytes (w.extractLsb' 0 16) ++ halfBytes (w.extractLsb' 16 16)

/-- A number as one byte. -/
def toByte (n : Nat) : Byte := BitVec.ofNat 8 n

/-- A number as a two-byte field. -/
def natHalf (n : Nat) : List Byte := halfBytes (BitVec.ofNat 16 n)

/-- A number as a four-byte field. -/
def natWord (n : Nat) : List Byte := wordBytes (BitVec.ofNat 32 n)

/-- A flag as a number: 1 when set. -/
def bit (b : Bool) : Nat := if b then 1 else 0

/-- Bit `i` of a byte. -/
def bitOf (b : Byte) (i : Nat) : Bool := b.getLsbD i

/-- The number in bits `lo + n - 1 : lo` of a byte. -/
def field (b : Byte) (lo n : Nat) : Nat := (b.extractLsb' lo n).toNat

/-- The record `r` with the bytes `v` laid over it from offset `i` on. -/
def overlay (r : List Byte) (i : Nat) (v : List Byte) : List Byte :=
  r.take i ++ v ++ r.drop (i + v.length)

/-- A number clamped into a range: below the range the lowest value, above it the highest (R37). -/
def clamp (lo hi n : Nat) : Nat := max lo (min hi n)

/-- A signed number clamped into a range. -/
def clampInt (lo hi n : Int) : Int := max lo (min hi n)

/-- Division rounding up (R77, R78). -/
def ceilDiv (a b : Nat) : Nat := (a + b - 1) / b

/-- The sizes an access may have: the powers of two 1..64 (R163). -/
def accessSizes : List Nat := [1, 2, 4, 8, 16, 32, 64]

/-- An access of `len` bytes at `addr` is naturally aligned, 1..64 bytes long and inside the address space
(R163). Such an access lies within one 64-byte block. -/
def accessOk (addr len : Nat) : Bool :=
  accessSizes.contains len && addr % len == 0 && decide (addr + len ≤ 4294967296)

/-- The bytes from `addr` to the end of its 64-byte block. -/
def blockRest (addr : Nat) : Nat := 64 - addr % 64

/-- The longest naturally aligned access that starts at `addr` and is no longer than `rest` (R163). -/
def writeSize (addr rest : Nat) : Nat :=
  ([64, 32, 16, 8, 4, 2].find? fun p => decide (p ≤ rest) && addr % p == 0).getD 1

/-- R163, writes: the range of `data` at `addr` cut at every 64-byte block and covered from its low address
upward. `fuel` is the number of bytes. -/
def writeRunAux : Nat → Nat → List Byte → List (Nat × List Byte)
  | 0, _, _ => []
  | fuel + 1, addr, data =>
    if data.isEmpty then []
    else
      let n := writeSize addr (min data.length (blockRest addr))
      (addr, data.take n) :: writeRunAux fuel (addr + n) (data.drop n)

/-- R163, writes: the accesses that write `data` at `addr`. -/
def writeRun (addr : Nat) (data : List Byte) : List (Nat × List Byte) :=
  writeRunAux data.length addr data

/-- One read access of a run: the access's address and length, and the bytes of it that are used. -/
structure ReadPiece where
  addr : Nat
  len : Nat
  skip : Nat
  take : Nat
deriving DecidableEq, Repr

/-- R163, reads: the shortest naturally aligned access that contains the `n` bytes at `addr`, which lie in
one 64-byte block. -/
def readPiece (addr n : Nat) : ReadPiece :=
  let p := (accessSizes.find? fun p => addr / p == (addr + n - 1) / p).getD 64
  { addr := addr / p * p, len := p, skip := addr % p, take := n }

/-- R163, reads: the range of `n` bytes at `addr` cut at every 64-byte block, one access a piece. `fuel`
is the number of bytes. -/
def readRunAux : Nat → Nat → Nat → List ReadPiece
  | 0, _, _ => []
  | fuel + 1, addr, n =>
    if n = 0 then []
    else
      let k := min n (blockRest addr)
      readPiece addr k :: readRunAux fuel (addr + k) (n - k)

/-- R163, reads: the accesses that read `n` bytes at `addr`. -/
def readRun (addr n : Nat) : List ReadPiece := readRunAux n addr n

/-- Two byte ranges share a byte. -/
def overlaps (a n b m : Nat) : Bool := decide (a < b + m) && decide (b < a + n)

/-- The range of `n` bytes at `a` lies inside the range of `m` bytes at `b`. -/
def inside (a n b m : Nat) : Bool := decide (b ≤ a) && decide (a + n ≤ b + m)

end Sys2Proof.Machine
end

