-- ==== Sys2Proof/Config.lean ====
section
/-!
DEFINITION. What the part fixes (sizes, limits, default values) and the one value the manual leaves open.
-/

namespace Sys2Proof.Config

/-- The injection queue has 16 entries (R171). -/
def injectionEntries : Nat := 16

/-- The completion queue has room for 32 records (R146). -/
def completionEntries : Nat := 32

/-- The Frame Pool has 512 entries (R16). -/
def poolEntries : Nat := 512

/-- At most 4 probe replies are pending (R51). -/
def pendingReplyLimit : Nat := 4

/-- A beacon carries at most 23 entries beside the own entry (R106). -/
def beaconEntries : Nat := 23

/-- Each slot opens with a guard of 10 µs (R128). -/
def guardTime : Nat := 10

/-- The saturated cost and the unreachable metric (R78, R90). -/
def saturated : Nat := 65535

/-- A VALID entry turns STALE at age 32 (R102). -/
def staleAge : Nat := 32

/-- A VALID or STALE entry is poisoned at age 128 (R102). -/
def poisonAge : Nat := 128

/-- A poisoned entry is advertised in 4 own beacons (R96). -/
def poisonCount : Nat := 4

/-- The own sequence rises once in 16 boundaries (R105). -/
def sequencePeriod : Nat := 16

/-- The fourth outlier in a row ends the lock (R158). -/
def outlierLimit : Nat := 4

/-- An offset beyond 500 µs is an outlier (R158). -/
def outlierBound : Int := 500

/-- A correction is at most 8 µs either way (R158). -/
def correctionBound : Int := 8

/-- Eight silent superframes lead to HOLDOVER (R159). -/
def silenceLimit : Nat := 8

/-- Sixty-four boundaries in HOLDOVER lead to SEEKING (R160). -/
def holdoverLimit : Nat := 64

/-- A sighting deeper than 13 is not eligible (R155). -/
def eligibleDepth : Nat := 13

/-- The depth of a SEEKING node (R154). -/
def seekingDepth : Nat := 15

/-- The quiesce limit of 64 boundaries (R190). -/
def quiesceLimit : Nat := 64

/-- The end of the 32-bit address space (R163, R175). -/
def addressSpace : Nat := 4294967296

/-- FREE VALUE. The elapsed time E of R157 where the manual gives it no value: the recorded low 8 bits are
those of no superframe the part has begun since its commit, or the receive time lies after the present.
It is applied to a counter of the state (`State.freeIndex`), so that each use is a fresh value; nothing in
the model constrains it. Log entry 5. -/
opaque unstatedElapsed : Nat → Nat

end Sys2Proof.Config
end

