-- ==== Sys2Proof/Syntax.lean ====
section
/-!
DEFINITION. The commands of the part: one constructor for each row of spec/opcode_table.json.

A row that is a system-side access carries its address and its bytes; a row that is a software command
carries the command record's sequence and arguments as they are read (Table 12-8), unclamped; a row that is
an event of the part itself carries nothing but what the manual leaves to the moment (the straps, the order
in which the blocks take a boundary).
-/

namespace Sys2Proof

/-- The blocks to which the Timing Unit hands a superframe boundary (R151). -/
inductive Block where
  | framePool
  | linkTable
  | routeTable
  | slotScheduler
  | engine
deriving DecidableEq, Repr

/-- The value fields of LINK_TUNE (Table 12-8, offsets 8 to 19), as read. -/
structure TuneValues where
  floor : Byte
  ceiling : Byte
  attempts : Byte
  budget : Byte
  weight : Byte
  upStep : Byte
  downStep : Byte
  blockThreshold : Byte
  blockHold : Byte
  queueCap : BitVec 16
deriving DecidableEq, Repr

/-- A command of the part. -/
inductive Instr where
  /-- RESET_N asserted (R188). -/
  | pinReset
  /-- RESET_N released with these ANCHOR_SEL straps (R173). -/
  | resetNRelease (anchorSel : BitVec 2)
  /-- A system-side write into the anchor window (R174). -/
  | anchorWrite (addr : BitVec 32) (data : List Byte)
  /-- A system-side write covering a byte of the commit field (R174, R175). -/
  | anchorCommit (addr : BitVec 32) (data : List Byte)
  /-- A system-side write with no special window action (R166). -/
  | systemWrite (addr : BitVec 32) (data : List Byte)
  /-- A system-side write into a window the part owns (R166). -/
  | droppedWrite (addr : BitVec 32) (data : List Byte)
  /-- A receive completion record write (R167). -/
  | receiveCompletionWrite (addr : BitVec 32) (data : List Byte)
  /-- The answer to a header read run of the Classifier (R113). -/
  | headerReadDone
  /-- The answer to a beacon body read run (R113). -/
  | beaconBodyReadDone
  /-- The Classifier's claim (R114). -/
  | claim
  /-- The outlier count has reached 4 (R158). -/
  | outlierLimit
  /-- The hold budget runs out before a claim (R115). -/
  | holdBudgetExpiry
  /-- The port takes a held write released unchanged (R167). -/
  | heldWriteTaken
  /-- The port takes the injected rewrite of a claimed record (R167). -/
  | rewriteTaken
  /-- A transmit completion record write (R168). -/
  | transmitCompletionWrite (addr : BitVec 32) (data : List Byte)
  /-- The Completion Unit takes the head of its queue (R146). -/
  | completionProcess
  /-- A system-side read of `len` bytes of the transmit ring (R170). -/
  | descriptorFetch (addr : BitVec 32) (len : Nat)
  /-- The port takes an injected descriptor write (R170). -/
  | descriptorWriteTaken
  /-- An injected SKIP write reaches the port (R144, R170). -/
  | skipWriteTaken
  /-- A write of the command post word (R177). -/
  | commandPostWord (addr : BitVec 32) (data : List Byte)
  /-- A write of the local post word (R185). -/
  | localPostWord (addr : BitVec 32) (data : List Byte)
  /-- A write of the report consumed word (R182). -/
  | reportConsumedWord (addr : BitVec 32) (data : List Byte)
  /-- The IDLE Command Unit issues the read of the next command record (R178). -/
  | commandFetch
  /-- The fetched record is NOP (R179). -/
  | nop (seq : BitVec 16)
  /-- The fetched record's code names no command (R179). -/
  | unknownCommand (code : Byte) (seq : BitVec 16)
  /-- The fetched record is LINK_OPEN (R47). -/
  | linkOpen (seq : BitVec 16) (link : Byte) (node : NodeId) (floor ceiling attempts : Byte)
  /-- The fetched record is LINK_TUNE (R64). -/
  | linkTune (seq : BitVec 16) (link : Byte) (selection : BitVec 16) (values : TuneValues)
  /-- The fetched record is LINK_DRAIN (R60). -/
  | linkDrain (seq : BitVec 16) (link : Byte)
  /-- The fetched record is LINK_CUT (R62). -/
  | linkCut (seq : BitVec 16) (link : Byte)
  /-- The fetched record is LINK_CLEAR (R63). -/
  | linkClear (seq : BitVec 16) (link : Byte)
  /-- The fetched record is LINK_QUERY (R68). -/
  | linkQuery (seq : BitVec 16) (link : Byte)
  /-- The fetched record is LINK_CLIMB (R83). -/
  | linkClimb (seq : BitVec 16) (link : Byte) (act : Byte)
  /-- The fetched record is ROUTE_PIN (R107). -/
  | routePin (seq : BitVec 16) (dest : NodeId) (link : Byte) (metric : BitVec 16)
  /-- The fetched record is ROUTE_UNPIN (R108). -/
  | routeUnpin (seq : BitVec 16) (dest : NodeId)
  /-- The fetched record is ROUTE_QUERY (R109); `value` is the destination or the position. -/
  | routeQuery (seq : BitVec 16) (selector : Byte) (value : BitVec 16)
  /-- The fetched record is PLAN_WRITE (R130); `entries` are its 16 slot entry bytes. -/
  | planWrite (seq : BitVec 16) (context first count : Byte) (entries : List Byte)
  /-- The fetched record is PLAN_SWITCH (R131). -/
  | planSwitch (seq : BitVec 16) (context : Byte)
  /-- The fetched record is PLAN_CANCEL (R133). -/
  | planCancel (seq : BitVec 16)
  /-- The fetched record is TIMING_SET (R153). -/
  | timingSet (seq : BitVec 16) (role propagation : Byte)
  /-- The fetched record is ENGINE_RESET (R189). -/
  | engineReset (seq : BitVec 16) (mode : Byte)
  /-- The quiesce count has reached 64 with descriptors in flight (R190). -/
  | quiesceLimit
  /-- The three conditions of R191 hold. -/
  | quiesceEnd
  /-- The IDLE Local Intake issues the read of the next local send entry (R122). -/
  | localEntryFetch
  /-- The local send entry is answered (R122). -/
  | localEntryReadDone
  /-- The local frame's header run is answered (R123). -/
  | localHeaderReadDone
  /-- The judged local frame is routed and admitted (R124). -/
  | localAdmission
  /-- A STALLED Intake takes a signal of the pool (R125). -/
  | localIntakeRetry
  /-- A HANDING Intake hands its tagless item over (R126). -/
  | taglessHandover
  /-- The Report Writer writes one report (R183). -/
  | reportWrite
  /-- The timebase reaches the superframe end (R151); the blocks take the boundary in this order. -/
  | superframeBoundary (order : List Block)
  /-- The next entry over its maximum age is released AGED (R32). -/
  | agedRelease
  /-- The next HELD entry at its hold timeout is released NO_ROUTE (R33). -/
  | holdTimeout
  /-- The next link at its beacon miss limit fails (R58). -/
  | beaconLoss
  /-- The next PROBING link with its open timer at 0 fails (R48). -/
  | openTimeout
  /-- The next BLOCKED link with its block-hold timer at 0 fails (R56). -/
  | blockHoldExpiry
  /-- The next VALID entry of age 32 turns STALE (R102). -/
  | routeStale
  /-- The next entry of age 128 is poisoned (R102). -/
  | routeAgePoison
  /-- The boundary count has reached 16 (R105). -/
  | ownSequenceAdvance
  /-- The silence count has reached 8 (R159). -/
  | silenceLimit
  /-- The holdover count has reached 64 (R160). -/
  | holdoverTimeout
  /-- The next slot of the superframe starts (R135). -/
  | slotStart
  /-- The next POISONED entry whose count has reached 0 is freed (R106). -/
  | poisonCountExpiry
  /-- The port takes a plain injected write from the head of the queue (R171). -/
  | injectedWriteTaken
deriving DecidableEq, Repr

end Sys2Proof
end

