-- ==== Sys2Proof/Machine/State.lean ====
section
/-!
DEFINITION. The state of the part and of the packet memory behind it, as plain data, and its value after a
pin reset. Every field's docstring names the rule that gives it; INVENTORY.md lists them with their reset
values.
-/

namespace Sys2Proof.Machine

/-- Why a step stops with a fault. -/
inductive Fault where
  /-- Raised by the rows that are a system-side access when the access has not the shape R163 gives every
  access (a power of two of 1..64 bytes, naturally aligned, inside the 32-bit address space): no such access
  exists on either port. Safe: the model stops. Log entry 3. -/
  | malformedAccess
deriving DecidableEq, Repr

/-- Why a command is refused. -/
inductive Refusal where
  /-- Raised by `exec` for a row that has no meaning yet; no row is left so. Safe: the model stops. -/
  | notModelled (mnemonic : String)
deriving DecidableEq, Repr

/-! ### Memory -/

/-- Packet memory behind the memory-side port, as (address, byte) pairs: addresses strictly rising, no entry
equal to 0, which is what an unlisted address reads as (log entry 4). -/
abbrev Memory := List Host.Cell

/-! ### Memory Path (chapter 9) -/

/-- The mode of an ENGINE_RESET (R187). -/
inductive ResetMode where
  | keep
  | unanchor
deriving DecidableEq, Repr

/-- The engine state; while QUIESCING also the quiesce mode and the quiesce count 0..64 (R187). -/
inductive EngineState where
  | unanchored
  | running
  | quiescing (mode : ResetMode) (count : Nat)
deriving DecidableEq, Repr

/-- The window table: bases, and sizes in entries (R165). -/
structure Windows where
  rxBase : Nat
  rxSize : Nat
  txBase : Nat
  txcBase : Nat
  txSize : Nat
  localBase : Nat
  localSize : Nat
  cmdBase : Nat
  cmdSize : Nat
  repBase : Nat
  repSize : Nat
  frameBase : Nat
  cmdPost : Nat
  localPost : Nat
  repConsumed : Nat
deriving DecidableEq, Repr

/-- The held-write slot (R167, R168). -/
inductive HeldSlot where
  /-- EMPTY. -/
  | empty
  /-- DECIDING: a receive completion record, with what is left of its hold budget in µs. -/
  | deciding (addr : Nat) (data : List Byte) (timer : Nat)
  /-- CLAIMED: the claim named a release, by rewrite or unchanged. -/
  | claimed (addr : Nat) (data : List Byte) (byRewrite : Bool)
  /-- A record released unchanged without a claim, which the port has not taken yet (log entry 6). -/
  | released (addr : Nat) (data : List Byte)
  /-- WAITING: a transmit completion record written at ring position `pos`. -/
  | waiting (addr : Nat) (data : List Byte) (pos : Nat)
deriving DecidableEq, Repr

/-- A system-side access that waits (R164). -/
inductive Access where
  | write (addr : Nat) (data : List Byte)
  | read (addr len : Nat)
deriving DecidableEq, Repr

/-- Who issued an injected read (R171). -/
inductive Reader where
  | classifierHeader
  | classifierBody
  | intakeEntry
  | intakeHeader
  | command
deriving DecidableEq, Repr

/-- What an injected write is (R171). -/
inductive Writer where
  | patch
  | ownFrame
  | report
  | anchorStatus
  | rewrite
  | descriptor (pos : Nat)
  | skip (pos : Nat)
deriving DecidableEq, Repr

/-- An injected access (R171). A read carries which bytes of its answer are used (R163), whether it is the
last of its run, and whether its issuer still wants the answer (R115). -/
inductive Injected where
  | read (who : Reader) (addr len skip take : Nat) (last live : Bool)
  | write (what : Writer) (addr : Nat) (data : List Byte)
deriving DecidableEq, Repr

/-- A fetch mark (R170). -/
inductive Mark where
  | none
  | written
  | fetched
deriving DecidableEq, Repr

/-- The Memory Path's state (chapter 9). -/
structure MemoryPath where
  /-- The engine state (R187). -/
  engine : EngineState
  /-- The own id the anchor supplies (R2, R175). -/
  ownId : NodeId
  /-- The window table, present from a successful commit (R165). -/
  windows : Option Windows
  /-- The held-write slot (R167). -/
  slot : HeldSlot
  /-- The system-side accesses that wait, oldest first (R164). -/
  waiting : List Access
  /-- The hold budget in µs (R115). -/
  holdBudget : Nat
  /-- The injection queue, head first, at most 16 (R171). -/
  queue : List Injected
  /-- The tails that issuers of runs keep while the queue is full, in the order they will enter (R171). -/
  tails : List Injected
  /-- One fetch mark per transmit ring position (R170). -/
  marks : Bank Mark 256
  /-- The anchor staging (R174). -/
  staging : List Byte
deriving DecidableEq, Repr

/-! ### Receive Classifier (chapter 6) -/

/-- How far a decision has gathered its frame (R113). -/
inductive Gather where
  /-- The header run is outstanding; the bytes answered so far. -/
  | header (got : List Byte)
  /-- The beacon body run is outstanding; the header and the body bytes answered so far. -/
  | body (header got : List Byte)
  /-- Ready to complete as MALFORMED, with the header and the beacon body as far as they were read: both empty
  when the frame length failed its test, the body empty when the header did. -/
  | malformed (header body : List Byte)
  /-- Ready to be judged; the body is empty unless the frame is a beacon. -/
  | ready (header body : List Byte)
deriving DecidableEq, Repr

/-- The Receive Classifier (R112). -/
inductive Classifier where
  | idle
  | deciding (buffer length : Nat) (gather : Gather)
deriving DecidableEq, Repr

/-! ### Frame Pool (chapter 2) -/

/-- The four traffic classes in class order (R1). -/
inductive TrafficClass where
  | expedited
  | interactive
  | bulk
  | background
deriving DecidableEq, Repr

/-- Who originated a frame (R16). -/
inductive Origin where
  | forward
  | localSend
deriving DecidableEq, Repr

/-- The routing mode (R3). -/
inductive RoutingMode where
  | table
  | via
deriving DecidableEq, Repr

/-- A release status (Table 2-5, Table 12-10). -/
inductive ReleaseStatus where
  | sent
  | undelivered
  | expired
  | aged
  | cut
  | noRoute
  | quiesced
  | abandoned
  | malformed
deriving DecidableEq, Repr

/-- The state of an entry that is not FREE, with the fields present only in it (R16, R17). -/
inductive Place where
  | held
  | queued (link : LinkIx)
  | inRing (link : LinkIx) (desc : Nat)
  | fetched (link : LinkIx) (desc : Nat)
  | releasing (status : ReleaseStatus)
deriving DecidableEq, Repr

/-- A frame entry that is not FREE (R16). -/
structure Frame where
  origin : Origin
  buffer : Nat
  length : Nat
  dest : NodeId
  cls : TrafficClass
  mode : RoutingMode
  place : Place
  /-- Requeue budget left, absent until the entry first joins a class queue. -/
  budget : Option Nat
  expiry : Nat
  age : Nat
deriving DecidableEq, Repr

/-- The four class queues of a link (R20). -/
structure ClassQueues where
  expedited : List Tag
  interactive : List Tag
  bulk : List Tag
  background : List Tag
deriving DecidableEq, Repr

/-- An item of the release backlog (R22). -/
inductive ReleaseItem where
  | entry (tag : Tag)
  | tagless (buffer : Nat) (status : ReleaseStatus)
deriving DecidableEq, Repr

/-- The Frame Pool (chapter 2). An entry that is `none` is FREE. -/
structure Pool where
  /-- The 512 frame entries (R16, R17). -/
  entries : Bank (Option Frame) 512
  /-- The class queues of the sixteen links (R20). -/
  queues : Bank ClassQueues 16
  /-- The held list (R21). -/
  heldList : List Tag
  /-- The release backlog (R22). -/
  backlog : List ReleaseItem
  /-- The parameters of Table 2-6. -/
  heldLimit : Nat
  reserve : Nat
  maxAgeExpedited : Nat
  maxAgeInteractive : Nat
  maxAgeBulk : Nat
  maxAgeBackground : Nat
  holdTimeout : Nat
deriving DecidableEq, Repr

/-! ### Local Intake (chapter 6) -/

/-- A local send entry as read (Table 12-6). -/
structure LocalEntry where
  buffer : Nat
  length : Nat
deriving DecidableEq, Repr

/-- The intake stage (R122). FETCHING is split by what is outstanding: the entry read, the header run, or
nothing but the room for the patch run (R124). -/
inductive IntakeStage where
  | idle
  | fetchingEntry
  | fetchingHeader (entry : LocalEntry) (got : List Byte)
  | fetched (entry : LocalEntry) (header : List Byte)
  /-- STALLED on a link; `signalled` holds a signal of the pool not yet taken (R125). -/
  | stalled (entry : LocalEntry) (header : List Byte) (link : LinkIx) (signalled : Bool)
  /-- HANDING a tagless item (R126) with the entry in hand; the header is what had been read of it. -/
  | handing (entry : LocalEntry) (header : List Byte) (status : ReleaseStatus)
deriving DecidableEq, Repr

/-- The Local Intake (R122). -/
structure Intake where
  index : Nat
  post : Nat
  stage : IntakeStage
deriving DecidableEq, Repr

/-! ### Link Table (chapters 3 and 4) -/

/-- A failure reason (R41). -/
inductive FailureReason where
  | openTimeout
  | beaconLoss
  | blockage
deriving DecidableEq, Repr

/-- A link state, with the state timer or the failure reason present in it (R41, R44). -/
inductive LinkState where
  | empty
  | probing (timer : Nat)
  | active
  | blocked (timer : Nat)
  | draining
  | silent
  | failed (reason : FailureReason)
deriving DecidableEq, Repr

/-- The act of a climb (R83). -/
inductive ClimbAct where
  | keep
  | returnRate
deriving DecidableEq, Repr

/-- A climb record (R71, R83). -/
structure Climb where
  act : ClimbAct
  start : Nat
  mark : Nat
  run : Nat
deriving DecidableEq, Repr

/-- The sticky flags (R67). -/
structure Sticky where
  everUndelivered : Bool
  everExpired : Bool
  hitFloor : Bool
  costSaturated : Bool
  blockedSeen : Bool
deriving DecidableEq, Repr

/-- An attention kind (R65). -/
inductive Attention where
  | linkUp
  | adopted
  | blocked
  | unblocked
  | failed
  | drained
  | climbDone
  | planSeen
deriving DecidableEq, Repr

/-- A neighbour's plan pair (R134). -/
structure PlanPair where
  generation : Byte
  announce : Bool
deriving DecidableEq, Repr

/-- A neighbour's timing pair (R57). -/
structure TimingPair where
  depth : Nat
  holdover : Bool
deriving DecidableEq, Repr

/-- A link record (R41, Table 3-1). AT_FLOOR and AT_CEILING follow r, floor and ceiling (R66) and the
in-flight count follows the in-flight table (R52): they are computed, not stored. -/
structure LinkRec where
  neighbour : Option NodeId
  state : LinkState
  floor : Nat
  ceiling : Nat
  attempts : Nat
  /-- The rate index r. -/
  rate : Nat
  /-- The pace p. -/
  pace : Nat
  /-- The delivery estimate D. -/
  estimate : Nat
  /-- The cost C. -/
  cost : Nat
  /-- Consecutive undelivered k. -/
  undelivered : Nat
  missCount : Nat
  heard : Bool
  probeSent : Bool
  defaultBudget : Nat
  /-- The moving-average weight W. -/
  weight : Nat
  upStep : Nat
  downStep : Nat
  blockThreshold : Nat
  blockHold : Nat
  queueCap : Nat
  interleave : Nat
  climb : Option Climb
  lastDelivered : Bool
  lastRetried : Bool
  climbing : Bool
  sticky : Sticky
  /-- The attention set, one bit a kind (R65, chapter 12). -/
  attention : Byte
  planPair : Option PlanPair
  timingPair : Option TimingPair
deriving DecidableEq, Repr

/-- The Link Table (chapter 3). -/
structure LinkTable where
  links : Bank LinkRec 16
  /-- The pending replies, oldest first (R51). -/
  pendingReplies : List NodeId
  /-- The anchor parameters of Table 3-2. -/
  openTimeout : Nat
  missLimit : Nat
  acceptUnsolicited : Bool
deriving DecidableEq, Repr

/-! ### Route Table (chapter 5) -/

/-- A next hop: a link and the end-to-end metric through it (R88). -/
structure Hop where
  link : LinkIx
  metric : Nat
deriving DecidableEq, Repr

/-- The kind and state of a route entry, with the fields present in it (R88). -/
inductive RouteBody where
  | pinned (hop : Hop)
  /-- LEARNED, VALID or STALE. -/
  | live (stale : Bool) (primary : Hop) (alternate : Option Hop) (seq : BitVec 16) (age : Nat)
  /-- LEARNED, POISONED. -/
  | poisoned (seq : BitVec 16) (age count : Nat)
deriving DecidableEq, Repr

/-- A route entry (R88). -/
structure RouteEntry where
  dest : NodeId
  body : RouteBody
deriving DecidableEq, Repr

/-- The Route Table (chapter 5). A position that is `none` is free. -/
structure RouteTable where
  entries : Bank (Option RouteEntry) 256
  /-- The beacon cursor (R106). -/
  cursor : Nat
  /-- The own sequence and its boundary count (R105). -/
  ownSeq : BitVec 16
  boundaryCount : Nat
  /-- Hop penalty H, hysteresis Y and start sequence (R110). -/
  penalty : Nat
  hysteresis : Nat
  startSeq : BitVec 16
deriving DecidableEq, Repr

/-! ### Slot Scheduler and Completion Unit (chapter 7) -/

/-- A slot entry (R129). -/
inductive SlotEntry where
  | idle
  | shared
  | beacon
  | tx (link : LinkIx)
deriving DecidableEq, Repr

/-- A plan context's contents (R129). -/
structure Plan where
  slots : Bank SlotEntry 64
  generation : Byte
deriving DecidableEq, Repr

/-- A plan context (R129). -/
inductive PlanContext where
  | a
  | b
deriving DecidableEq, Repr

/-- The switch stage, with the pending context (R129). -/
inductive SwitchStage where
  | none
  | accepted (pending : PlanContext)
  | announced (pending : PlanContext)
deriving DecidableEq, Repr

/-- What an in-flight descriptor carries (R137, R140). -/
inductive Carried where
  | data (tag : Tag) (link : LinkIx)
  | beacon (buf : BufIx)
  | probe (buf : BufIx) (link : LinkIx) (node : NodeId)
  | reply (buf : BufIx) (link : LinkIx) (node : NodeId)
deriving DecidableEq, Repr

/-- An in-flight record (R137, R140, R142). -/
structure InFlight where
  pos : Nat
  carried : Carried
  lap : Bool
  fetched : Bool
  recalled : Bool
deriving DecidableEq, Repr

/-- The Slot Scheduler (chapter 7). -/
structure Scheduler where
  planA : Plan
  planB : Plan
  active : PlanContext
  stage : SwitchStage
  /-- The slot factor k (R128). -/
  slotFactor : Nat
  /-- The transmit ring size N, absent until the first commit (R150). -/
  ringSize : Option Nat
  producer : Nat
  lap : Bool
  /-- The in-flight table, oldest record first (R142). -/
  inFlight : List InFlight
  /-- The 22 own-frame buffer records: the ring index while busy (R10). -/
  buffers : Bank (Option Nat) 22
  /-- The next beacon buffer, 0 or 1: true for 1 (R10). -/
  nextBeacon : Bool
  /-- The probe rotation pointer (R136). -/
  probePointer : LinkIx
deriving DecidableEq, Repr

/-- A transmit completion record in the completion queue, with the ring position it was written at (R168). -/
structure CompletionItem where
  pos : Nat
  record : List Byte
deriving DecidableEq, Repr

/-- The Completion Unit (R146). -/
structure CompletionUnit where
  queue : List CompletionItem
  consumer : Nat
deriving DecidableEq, Repr

/-! ### Timing Unit (chapter 8) -/

/-- The role (R153). -/
inductive Role where
  | root
  | follower
deriving DecidableEq, Repr

/-- The timing state with its parent (link index and node id) and depth (R154). -/
inductive TimingState where
  | root
  | seeking
  | locked (parent : LinkIx) (node : NodeId) (depth : Nat)
  | holdover (parent : LinkIx) (node : NodeId) (depth : Nat)
deriving DecidableEq, Repr

/-- A sighting (R155): the beacon's fields and its receive time. -/
structure Sighting where
  depth : Nat
  holdover : Bool
  superframe : BitVec 32
  offset : Nat
  receiveSuperframe : Byte
  receiveOffset : Nat
deriving DecidableEq, Repr

/-- A step's end and the number of the superframe that begins there (R157). -/
structure StepEnd where
  time : Nat
  number : BitVec 32
deriving DecidableEq, Repr

/-- When a superframe began, by the low 8 bits of its number (R157 reads it to find E). -/
structure Start where
  low : Byte
  time : Nat
deriving DecidableEq, Repr

/-- The Timing Unit (chapter 8). -/
structure Timing where
  /-- The timebase in µs (R151). -/
  timebase : Nat
  /-- The superframe number (R151). -/
  number : BitVec 32
  /-- The adjustment A (R151). -/
  adjust : Int
  stepEnd : Option StepEnd
  role : Role
  /-- A pending change to ROOT (R153). -/
  pendingRoot : Bool
  propagation : Nat
  state : TimingState
  outliers : Nat
  silence : Nat
  holdover : Nat
  /-- The parent heard flag (R158, R159). -/
  heard : Bool
  /-- The sighting table (R155). -/
  sightings : Bank (Option Sighting) 16
  /-- The next slot to start in this superframe, 64 when all have (R151). -/
  nextSlot : Nat
  /-- The µs counted from the commit to the start of this superframe: the time R157 measures E in. -/
  epoch : Nat
  /-- When the superframes so far began, the latest for each value of the low 8 bits (R157). -/
  starts : List Start
deriving DecidableEq, Repr

/-! ### Command Unit and Report Writer (chapter 10) -/

/-- A response status (Table 10-1). -/
inductive Status where
  | done
  | refusedBusy
  | refusedState
  | refusedFull
  | badArgument
  | badPlan
  | unknownCommand
deriving DecidableEq, Repr

/-- The Command Unit's stage with the command in progress (R178). -/
inductive CommandStage where
  | idle
  | fetching
  /-- APPLYING, which lasts only for an ENGINE_RESET (R180). -/
  | applying (code : Byte) (seq : BitVec 16)
  /-- RESPONDING; the payload is empty but for a query answered DONE (R179). -/
  | responding (code : Byte) (seq : BitVec 16) (status : Status) (payload : List Byte)
deriving DecidableEq, Repr

/-- The Command Unit (R177). -/
structure CommandUnit where
  consumer : Nat
  post : Nat
  stage : CommandStage
  /-- The arguments of the command in progress as read, bytes 4 to 31 of its record; empty while no command is
  in progress. -/
  args : List Byte
deriving DecidableEq, Repr

/-- A PLAN_ACTIVE notice (R132). -/
structure PlanNotice where
  context : PlanContext
  generation : Byte
  superframe : BitVec 32
deriving DecidableEq, Repr

/-- A TIMING notice (R154): the state and parent as they stand after the change; the depth follows. -/
structure TimingNotice where
  state : TimingState
deriving DecidableEq, Repr

/-- Which of the waiting reports the Report Writer has chosen (R181, R183). -/
inductive ReportChoice where
  | response
  | release
  | attention (link : LinkIx)
  | planActive
  | timing
deriving DecidableEq, Repr

/-- The Report Writer (R181). -/
structure ReportWriter where
  /-- The producer index P. -/
  producer : Nat
  phase : Bool
  /-- The consumed value C. -/
  consumed : Nat
  planLatch : Option PlanNotice
  timingLatch : Option TimingNotice
  /-- The interrupt enable (R186). -/
  intEnable : Bool
  /-- The report chosen while the injection queue was full, which the writer waits with (R181). -/
  chosen : Option ReportChoice
deriving DecidableEq, Repr

/-! ### Pins -/

/-- The pins that hold a value of their own. INT and TICK are computed (Flags.lean, log entry 7). -/
structure Pins where
  /-- RESET_N is asserted (R188). -/
  resetAsserted : Bool
  /-- The straps sampled at the last release of RESET_N since the last pin reset (R173). -/
  anchorSel : Option (BitVec 2)
  /-- The levels SFS still has to show, one a µs, the present one first (R152). -/
  sfs : List Bool
deriving DecidableEq, Repr

/-! ### What is left of an event -/

/-- A consequence that a threshold has made due and that its own row carries out. -/
inductive Consequence where
  | agedRelease (tag : Tag)
  | holdTimeout (tag : Tag)
  | beaconLoss (link : LinkIx)
  | openTimeout (link : LinkIx)
  | blockHoldExpiry (link : LinkIx)
  | routeStale (pos : RoutePos)
  | routeAgePoison (pos : RoutePos)
  | ownSequenceAdvance
  | silenceLimit
  | holdoverTimeout
  | poisonCountExpiry (pos : RoutePos)
  | quiesceLimit
  | outlierLimit
deriving DecidableEq, Repr

/-- A piece of an event that is still to be carried out before any other event is taken: a block that has
yet to take the boundary, or a consequence that is due (log entry 8). -/
inductive Work where
  | take (block : Block)
  | due (consequence : Consequence)
deriving DecidableEq, Repr

/-! ### The whole state -/

/-- The machine: the twelve blocks, the pins, packet memory, and the model's own fields (`pending`, `work`,
`freeIndex`). -/
structure State where
  /-- The commands that are waiting, first in, first out (the model's own). -/
  pending : List Instr
  /-- Packet memory. -/
  mem : Memory
  pins : Pins
  path : MemoryPath
  classifier : Classifier
  intake : Intake
  pool : Pool
  linkTable : LinkTable
  routes : RouteTable
  sched : Scheduler
  completion : CompletionUnit
  timing : Timing
  command : CommandUnit
  reports : ReportWriter
  /-- What is left of the event in progress (the model's own, log entry 8). -/
  work : List Work
  /-- The counter the free value is applied to (the model's own, log entry 5). -/
  freeIndex : Nat
deriving DecidableEq, Repr

/-! ### Values after a pin reset -/

/-- All four class queues empty (R38). -/
def ClassQueues.reset : ClassQueues := ⟨[], [], [], []⟩

/-- The pin-reset values of Table 2-7 and Table 2-6. -/
def Pool.reset : Pool :=
  { entries := Vector.replicate 512 none, queues := Vector.replicate 16 ClassQueues.reset,
    heldList := [], backlog := [], heldLimit := 32, reserve := 32, maxAgeExpedited := 4,
    maxAgeInteractive := 8, maxAgeBulk := 64, maxAgeBackground := 255, holdTimeout := 8 }

/-- All sticky flags clear. -/
def Sticky.reset : Sticky := ⟨false, false, false, false, false⟩

/-- The pin-reset values of Table 3-5. -/
def LinkRec.reset : LinkRec :=
  { neighbour := none, state := .empty, floor := 0, ceiling := 7, attempts := 4, rate := 0, pace := 0,
    estimate := 16384, cost := 4072, undelivered := 0, missCount := 0, heard := false,
    probeSent := false, defaultBudget := 1, weight := 4, upStep := 4, downStep := 1,
    blockThreshold := 2, blockHold := 16, queueCap := 96, interleave := 0, climb := none,
    lastDelivered := false, lastRetried := false, climbing := false, sticky := Sticky.reset,
    attention := 0, planPair := none, timingPair := none }

/-- The pin-reset values of R51, R43 and Table 3-5. -/
def LinkTable.reset : LinkTable :=
  { links := Vector.replicate 16 LinkRec.reset, pendingReplies := [], openTimeout := 16, missLimit := 8,
    acceptUnsolicited := false }

/-- The pin-reset values of Table 5-4 and Table 5-3. -/
def RouteTable.reset : RouteTable :=
  { entries := Vector.replicate 256 none, cursor := 0, ownSeq := 0, boundaryCount := 0, penalty := 40,
    hysteresis := 20, startSeq := 0 }

/-- The default plan: slot 0 BEACON, slots 1..63 SHARED, generation 0 (R129). -/
def Plan.reset : Plan :=
  { slots := (Vector.replicate 64 SlotEntry.shared).set 0 SlotEntry.beacon, generation := 0 }

/-- The pin-reset values of R129, R10 and Table 7-2. -/
def Scheduler.reset : Scheduler :=
  { planA := Plan.reset, planB := Plan.reset, active := .a, stage := .none, slotFactor := 4,
    ringSize := none, producer := 0, lap := false, inFlight := [], buffers := Vector.replicate 22 none,
    nextBeacon := false, probePointer := 15 }

/-- The pin-reset values of Table 8-3. -/
def Timing.reset : Timing :=
  { timebase := 0, number := 0, adjust := 0, stepEnd := none, role := .follower, pendingRoot := false,
    propagation := 2, state := .seeking, outliers := 0, silence := 0, holdover := 0, heard := false,
    sightings := Vector.replicate 16 none, nextSlot := 1, epoch := 0, starts := [] }

/-- The pin-reset values of R165 and R115. The own id has no reset value in the manual (log entry 9). -/
def MemoryPath.reset : MemoryPath :=
  { engine := .unanchored, ownId := nodeNone, windows := none, slot := .empty, waiting := [],
    holdBudget := 4, queue := [], tails := [], marks := Vector.replicate 256 .none,
    staging := List.replicate 256 0 }

/-- The machine right after a pin reset, with RESET_N still asserted and the straps not yet sampled (R188,
R173; log entry 10): every block at its pin-reset values, memory with nothing listed. -/
def State.reset : State :=
  { pending := [], mem := [], pins := ⟨true, none, []⟩, path := MemoryPath.reset, classifier := .idle,
    intake := ⟨0, 0, .idle⟩, pool := Pool.reset, linkTable := LinkTable.reset, routes := RouteTable.reset,
    sched := Scheduler.reset, completion := ⟨[], 0⟩, timing := Timing.reset, command := ⟨0, 0, .idle, []⟩,
    reports := ⟨0, false, 0, none, none, false, none⟩, work := [], freeIndex := 0 }

end Sys2Proof.Machine
end

