-- ==== Sys2Proof/Machine/Ops.lean ====
section
/-!
DEFINITION. The named operations over banks, memory, the injection queue and the blocks' records, which every
meaning goes through.
-/

namespace Sys2Proof.Machine

/-! ### Banks -/

/-- The value at a place of a bank. -/
def bankGet (b : Bank α n) (i : Fin n) : α := b.get i

/-- The bank with one place set. -/
def bankPut (b : Bank α n) (i : Fin n) (v : α) : Bank α n := b.set i v

/-- The bank with every place changed by a function of its index and value. -/
def bankMap (f : Fin n → α → β) (b : Bank α n) : Bank β n :=
  ⟨⟨(List.finRange n).map fun i => f i (b.get i)⟩, by simp⟩

/-- The first place, in index order, whose value meets a test. -/
def bankFind (p : Fin n → α → Bool) (b : Bank α n) : Option (Fin n) :=
  (List.finRange n).find? fun i => p i (b.get i)

/-- The places, in index order, whose values meet a test. -/
def bankFilter (p : Fin n → α → Bool) (b : Bank α n) : List (Fin n) :=
  (List.finRange n).filter fun i => p i (b.get i)

/-- The place of a bank a number names, if it has one. -/
def index? (n i : Nat) : Option (Fin n) := if h : i < n then some ⟨i, h⟩ else none

/-! ### Memory -/

/-- What an address nothing has written reads as (log entry 4). -/
def unwritten : Byte := 0

/-- The byte at an address. -/
def memByte : Memory → Nat → Byte
  | [], _ => unwritten
  | (x, c) :: m, a => if a = x then c else memByte m a

/-- Memory with one byte written. The canonical form is kept: addresses rise and no entry holds what an
unlisted address reads as. -/
def memPut : Memory → Nat → Byte → Memory
  | [], a, b => if b = unwritten then [] else [(a, b)]
  | (x, c) :: m, a, b =>
    if a < x then (if b = unwritten then (x, c) :: m else (a, b) :: (x, c) :: m)
    else if a = x then (if b = unwritten then m else (a, b) :: m)
    else (x, c) :: memPut m a b

/-- Memory with bytes written from an address upward. Addresses are 32 bits wide (R163; log entry 11). -/
def memWrite (m : Memory) (a : Nat) : List Byte → Memory
  | [] => m
  | b :: bs => memWrite (memPut m (a % 4294967296) b) (a + 1) bs

/-- The `n` bytes from an address upward. -/
def memRead (m : Memory) (a : Nat) : Nat → List Byte
  | 0 => []
  | n + 1 => memByte m (a % 4294967296) :: memRead m (a + 1) n

/-- The canonical form of memory: addresses rise strictly and no entry reads as an unlisted address does. -/
def Memory.wf : Memory → Bool
  | [] => true
  | [(_, c)] => c != unwritten
  | (x, c) :: (y, d) :: m => c != unwritten && decide (x < y) && Memory.wf ((y, d) :: m)

/-- The state with bytes written to packet memory. -/
def State.store (s : State) (a : Nat) (data : List Byte) : State := { s with mem := memWrite s.mem a data }

/-! ### The injection queue (R171) -/

/-- The queue holds the first 16 of the accesses that are to be injected; the rest are the tails their
issuers keep. -/
def MemoryPath.fill (p : MemoryPath) (all : List Injected) : MemoryPath :=
  { p with queue := all.take Config.injectionEntries, tails := all.drop Config.injectionEntries }

/-- A block issues accesses: those that find a free entry enter the queue, the rest wait at the issuer. -/
def State.issue (s : State) (xs : List Injected) : State :=
  { s with path := s.path.fill (s.path.queue ++ s.path.tails ++ xs) }

/-- The head of the queue is completed and its entry is freed for the first of the tails. -/
def State.dropHead (s : State) : State := { s with path := s.path.fill (s.path.queue.tail ++ s.path.tails) }

/-- The queue has room for `k` more accesses. -/
def State.room (s : State) (k : Nat) : Bool :=
  decide (s.path.queue.length + s.path.tails.length + k ≤ Config.injectionEntries)

/-- The queue is full (R172). -/
def State.queueFull (s : State) : Bool := decide (Config.injectionEntries ≤ s.path.queue.length)

/-- A run of injected writes of `data` at `addr` (R7, R163). -/
def writeAccesses (what : Writer) (addr : Nat) (data : List Byte) : List Injected :=
  (writeRun addr data).map fun w => .write what w.1 w.2

/-- Marks the last access of a read run. -/
def readAccessesAux (who : Reader) : List ReadPiece → List Injected
  | [] => []
  | [p] => [.read who p.addr p.len p.skip p.take true true]
  | p :: q :: ps => .read who p.addr p.len p.skip p.take false true :: readAccessesAux who (q :: ps)

/-- A run of injected reads of `n` bytes at `addr` (R7, R163). -/
def readAccesses (who : Reader) (addr n : Nat) : List Injected := readAccessesAux who (readRun addr n)

/-! ### Engine state -/

/-- The engine is RUNNING. -/
def State.isRunning (s : State) : Bool := s.path.engine == .running

/-- The engine is QUIESCING. -/
def State.isQuiescing (s : State) : Bool :=
  match s.path.engine with
  | .quiescing _ _ => true
  | _ => false

/-- The engine is UNANCHORED. -/
def State.isUnanchored (s : State) : Bool := s.path.engine == .unanchored

/-! ### Link records -/

/-- The record of link `n`. -/
def State.link (s : State) (n : LinkIx) : LinkRec := bankGet s.linkTable.links n

/-- The state with link `n`'s record replaced. -/
def State.setLink (s : State) (n : LinkIx) (l : LinkRec) : State :=
  { s with linkTable := { s.linkTable with links := bankPut s.linkTable.links n l } }

/-- The record is ACTIVE or BLOCKED: the link is usable (R44). -/
def LinkRec.usable (l : LinkRec) : Bool :=
  match l.state with
  | .active => true
  | .blocked _ => true
  | _ => false

/-- The record is ACTIVE. -/
def LinkRec.isActive (l : LinkRec) : Bool := l.state == .active

/-- The record is BLOCKED. -/
def LinkRec.isBlocked (l : LinkRec) : Bool :=
  match l.state with
  | .blocked _ => true
  | _ => false

/-- The record is in ACTIVE, BLOCKED or DRAINING: its outcomes are measured and its beacons count (R53, R57,
R73). -/
def LinkRec.carrying (l : LinkRec) : Bool := l.usable || l.state == .draining

/-- The record is in EMPTY, SILENT or FAILED (R47, R64). -/
def LinkRec.closed (l : LinkRec) : Bool :=
  match l.state with
  | .empty => true
  | .silent => true
  | .failed _ => true
  | _ => false

/-- The record holds a node id as its neighbour (R42). -/
def LinkRec.holds (l : LinkRec) (node : NodeId) : Bool := l.state != .empty && l.neighbour == some node

/-- The link a node id names (R42). -/
def State.linkOf (s : State) (node : NodeId) : Option LinkIx :=
  bankFind (fun _ l => l.holds node) s.linkTable.links

/-- The usable link a node id names (R42, R44). -/
def State.usableLinkOf (s : State) (node : NodeId) : Option LinkIx :=
  match s.linkOf node with
  | some n => if (s.link n).usable then some n else none
  | none => none

/-- A source node id that identifies a neighbour: not 0x0000, not 0xFFFF and not the own id (R2). -/
def State.identifies (s : State) (node : NodeId) : Bool :=
  node != nodeNone && node != nodeAll && node != s.path.ownId

/-! ### In-flight table and counts -/

/-- The in-flight record at a ring position, if one is there (R142). -/
def State.inFlightAt (s : State) (pos : Nat) : Option InFlight :=
  s.sched.inFlight.find? fun r => r.pos == pos

/-- The transmit ring has a free position (R142). -/
def State.ringFree (s : State) : Bool := decide (s.sched.inFlight.length < s.sched.ringSize.getD 0)

/-- An in-flight record carries a data frame of link `n`. -/
def InFlight.dataOf (r : InFlight) (n : LinkIx) : Bool :=
  match r.carried with
  | .data _ m => m == n
  | _ => false

/-- An in-flight record names link `n`: a data frame, a probe or a reply of it (R144). -/
def InFlight.names (r : InFlight) (n : LinkIx) : Bool :=
  match r.carried with
  | .data _ m => m == n
  | .probe _ m _ => m == n
  | .reply _ m _ => m == n
  | .beacon _ => false

/-- The in-flight count of link `n` (R52). -/
def State.inFlightCount (s : State) (n : LinkIx) : Nat := s.sched.inFlight.countP fun r => r.dataOf n

/-! ### Class queues -/

/-- The queue of a class. -/
def ClassQueues.get (q : ClassQueues) : TrafficClass → List Tag
  | .expedited => q.expedited
  | .interactive => q.interactive
  | .bulk => q.bulk
  | .background => q.background

/-- The queues with one class's queue replaced. -/
def ClassQueues.put (q : ClassQueues) (c : TrafficClass) (ts : List Tag) : ClassQueues :=
  match c with
  | .expedited => { q with expedited := ts }
  | .interactive => { q with interactive := ts }
  | .bulk => { q with bulk := ts }
  | .background => { q with background := ts }

/-- All tags of the four queues, in class order and each from head to tail (R29). -/
def ClassQueues.all (q : ClassQueues) : List Tag :=
  q.expedited ++ q.interactive ++ q.bulk ++ q.background

/-- The class queues of link `n`. -/
def State.queuesOf (s : State) (n : LinkIx) : ClassQueues := bankGet s.pool.queues n

/-- The state with link `n`'s class queues replaced. -/
def State.setQueues (s : State) (n : LinkIx) (q : ClassQueues) : State :=
  { s with pool := { s.pool with queues := bankPut s.pool.queues n q } }

/-- The queued count of link `n` (R20). -/
def State.queuedCount (s : State) (n : LinkIx) : Nat := (s.queuesOf n).all.length

/-! ### Frame entries -/

/-- The entry of a tag; `none` is FREE. -/
def State.frame (s : State) (t : Tag) : Option Frame := bankGet s.pool.entries t

/-- The state with a tag's entry replaced. -/
def State.setFrame (s : State) (t : Tag) (f : Option Frame) : State :=
  { s with pool := { s.pool with entries := bankPut s.pool.entries t f } }

/-- The lowest FREE tag (R18). -/
def State.lowestFree (s : State) : Option Tag := bankFind (fun _ f => f.isNone) s.pool.entries

/-- The free count (R18). -/
def State.freeCount (s : State) : Nat := s.pool.entries.toList.countP fun f => f.isNone

/-! ### The held-write slot and the decision in progress -/

/-- The state with the held-write slot replaced. -/
def State.setSlot (s : State) (h : HeldSlot) : State := { s with path := { s.path with slot := h } }

/-- A queued read of the Classifier loses its issuer: it goes to memory and its answer is discarded (R115). -/
def Injected.orphan : Injected → Injected
  | .read .classifierHeader a n k t l _ => .read .classifierHeader a n k t l false
  | .read .classifierBody a n k t l _ => .read .classifierBody a n k t l false
  | x => x

/-- An access is a read of the Classifier. -/
def Injected.ofClassifier : Injected → Bool
  | .read .classifierHeader _ _ _ _ _ _ => true
  | .read .classifierBody _ _ _ _ _ _ => true
  | _ => false

/-- R115: the queue once the decision in progress is abandoned. The tail of its read run that has found no
queue entry yet is dropped (DESIGN CHOICE, log entry 33). -/
def MemoryPath.abandon (p : MemoryPath) : MemoryPath :=
  { p with queue := p.queue.map Injected.orphan, tails := p.tails.filter fun x => !x.ofClassifier }

/-- R115: the decision in progress is abandoned whole and the Classifier is IDLE. What the manual leaves open
of its read run is settled as log entry 33 says. -/
def State.abandon (s : State) : State := { s with classifier := .idle, path := s.path.abandon }

/-- R167: a DECIDING slot releases its write unchanged and the decision is abandoned, as at the entry to
QUIESCING (R121). -/
def State.releaseHeld (s : State) : State :=
  match s.path.slot with
  | .deciding a d _ => (s.setSlot (.released a d)).abandon
  | _ => s

/-- R115: a hold budget that runs is used up when `d` µs pass. -/
def MemoryPath.expires (p : MemoryPath) (d : Nat) : Bool :=
  match p.slot with
  | .deciding _ _ t => decide (t ≤ d)
  | _ => false

/-- R115, R167: `d` µs pass for the held-write slot: the timer falls, and when it reaches 0 the held write is
released unchanged and the decision abandoned. -/
def MemoryPath.pass (p : MemoryPath) (d : Nat) : MemoryPath :=
  match p.slot with
  | .deciding a r t =>
    if t ≤ d then MemoryPath.abandon { p with slot := .released a r } else { p with slot := .deciding a r (t - d) }
  | _ => p

/-! ### Fetch marks -/

/-- The fetch mark of a ring position (R170). -/
def State.mark (s : State) (pos : Nat) : Mark :=
  match index? 256 pos with
  | some i => bankGet s.path.marks i
  | none => .none

/-- The state with a ring position's fetch mark set. -/
def State.setMark (s : State) (pos : Nat) (m : Mark) : State :=
  match index? 256 pos with
  | some i => { s with path := { s.path with marks := bankPut s.path.marks i m } }
  | none => s

end Sys2Proof.Machine
end

