-- ==== Sys2Proof/Machine/Records.lean ====
section
/-!
DEFINITION. The record layouts of chapter 12: reading the fields of a record, and writing the records of the
part.
-/

namespace Sys2Proof.Machine

/-! ### Mesh header (Table 12-1) and its tests -/

/-- The kind. -/
def hdrKind (h : List Byte) : Nat := (byteAt h 0).toNat
/-- The hop limit. -/
def hdrHopLimit (h : List Byte) : Nat := field (byteAt h 1) 0 5
/-- The traffic class (Table 1-2). -/
def hdrClass (h : List Byte) : TrafficClass :=
  match field (byteAt h 1) 5 2 with
  | 0 => .expedited
  | 1 => .interactive
  | 2 => .bulk
  | _ => .background
/-- The via count. -/
def hdrViaCount (h : List Byte) : Nat := (byteAt h 2).toNat
/-- The via index. -/
def hdrViaIndex (h : List Byte) : Nat := (byteAt h 3).toNat
/-- The source node id. -/
def hdrSource (h : List Byte) : NodeId := half h 4
/-- The destination node id. -/
def hdrDest (h : List Byte) : NodeId := half h 6
/-- The last-hop node id. -/
def hdrLastHop (h : List Byte) : NodeId := half h 8
/-- The payload length. -/
def hdrPayload (h : List Byte) : Nat := (half h 10).toNat
/-- The node id at a position of the via list. -/
def hdrVia (h : List Byte) (i : Nat) : NodeId := half h (12 + 2 * i)

/-- DATA, BEACON, PROBE and PROBE_REPLY (Table 1-1). -/
def kindData : Nat := 1
/-- BEACON (Table 1-1). -/
def kindBeacon : Nat := 2
/-- PROBE (Table 1-1). -/
def kindProbe : Nat := 3
/-- PROBE_REPLY (Table 1-1). -/
def kindReply : Nat := 4

/-- Test 5 of R5 passes. -/
def lengthOk (n : Nat) : Bool := decide (20 ≤ n) && decide (n ≤ 2048)

/-- Tests 1 to 4 of R5 pass for a header and a frame length. -/
def headerOk (h : List Byte) (length : Nat) : Bool :=
  decide (1 ≤ hdrKind h) && decide (hdrKind h ≤ 4) && decide (hdrViaCount h ≤ 4) &&
    decide (hdrViaIndex h ≤ hdrViaCount h) && hdrPayload h + 20 == length

/-- The three beacon tests of R6 pass. -/
def beaconOk (h : List Byte) : Bool :=
  hdrDest h == nodeAll && decide (10 ≤ hdrPayload h) && decide (hdrPayload h ≤ 154) &&
    (hdrPayload h - 10) % 6 == 0

/-- The routing mode of a DATA header (R3). -/
def hdrMode (h : List Byte) : RoutingMode := if hdrViaIndex h < hdrViaCount h then .via else .table

/-- The next hop of a VIA-mode header (R3). -/
def hdrNextHop (h : List Byte) : NodeId := hdrVia h (hdrViaIndex h)

/-- A header with the changes of a patch (R8, R9, R193): the given hop limit, the own id as last hop, and the
via index advanced in VIA mode. Every other bit stays as it was read. -/
def patchedHeader (h : List Byte) (hopLimit : Nat) (ownId : NodeId) : List Byte :=
  let via := if hdrMode h = .via then byteAt h 3 + 1 else byteAt h 3
  let flags := (byteAt h 1 &&& 0xE0#8) ||| (toByte hopLimit &&& 0x1F#8)
  overlay (overlay (overlay h 1 [flags]) 3 [via]) 8 (halfBytes ownId)

/-! ### Beacon body (Table 12-2) -/

/-- One advertised route entry (Table 1-3). -/
structure Advert where
  dest : NodeId
  metric : Nat
  seq : BitVec 16
deriving DecidableEq, Repr

/-- The sender's superframe number. -/
def bodySuperframe (b : List Byte) : BitVec 32 := word b 0
/-- The sender's launch offset. -/
def bodyOffset (b : List Byte) : Nat := (half b 4).toNat
/-- The sender's timing depth. -/
def bodyDepth (b : List Byte) : Nat := field (byteAt b 6) 0 4
/-- The holdover flag. -/
def bodyHoldover (b : List Byte) : Bool := bitOf (byteAt b 6) 4
/-- The plan generation. -/
def bodyGeneration (b : List Byte) : Byte := byteAt b 7
/-- The announce flag. -/
def bodyAnnounce (b : List Byte) : Bool := bitOf (byteAt b 8) 0
/-- The entry count. -/
def bodyCount (b : List Byte) : Nat := (byteAt b 9).toNat
/-- Route entry `i`. -/
def bodyEntry (b : List Byte) (i : Nat) : Advert :=
  { dest := half b (10 + 6 * i), metric := (half b (12 + 6 * i)).toNat, seq := half b (14 + 6 * i) }
/-- The route entries in order of position. -/
def bodyEntries (b : List Byte) : List Advert := (List.range (bodyCount b)).map (bodyEntry b)

/-- The entry count agrees with the payload length (R6). -/
def bodyOk (h b : List Byte) : Bool := bodyCount b == (hdrPayload h - 10) / 6

/-- The bytes of one advertised entry. -/
def advertBytes (a : Advert) : List Byte := halfBytes a.dest ++ natHalf a.metric ++ halfBytes a.seq

/-! ### Own frames (R11) -/

/-- The header of an own frame (R11). -/
def ownHeader (kind : Nat) (ownId dest : NodeId) (payload : Nat) : List Byte :=
  [toByte kind, 1, 0, 0] ++ halfBytes ownId ++ halfBytes dest ++ halfBytes ownId ++ natHalf payload ++
    List.replicate 8 0

/-! ### Receive completion record (Table 12-3) -/

/-- The buffer address. -/
def rxBuffer (r : List Byte) : Nat := (word r 0).toNat
/-- The frame length. -/
def rxLength (r : List Byte) : Nat := (half r 4).toNat
/-- The status. -/
def rxStatus (r : List Byte) : Byte := byteAt r 6
/-- The low 8 bits of the receive superframe. -/
def rxSuperframe (r : List Byte) : Byte := byteAt r 10
/-- The receive offset. -/
def rxOffset (r : List Byte) : Nat := (half r 12).toNat

/-- RX_OK. -/
def statusRxOk : Byte := 0x01

/-- A discard reason (Table 12-3). -/
inductive Discard where
  | malformed
  | hopLimit
  | loop
  | unknownSender
  | noRoute
  | congested
deriving DecidableEq, Repr

/-- The code of a discard reason. -/
def Discard.code : Discard → Byte
  | .malformed => 1
  | .hopLimit => 2
  | .loop => 3
  | .unknownSender => 4
  | .noRoute => 5
  | .congested => 6

/-- What a completed decision makes of the record (Table 6-1). -/
inductive Verdict where
  | delivered
  | consumed
  | discarded (reason : Discard)
  | forwarded (tag : Tag)
deriving DecidableEq, Repr

/-- The rewritten record (R120, R193): status, reason and tag set, every other byte as the MAC wrote it. An
absent reason is 0 and an absent tag 0xFFFF. -/
def rewrittenRecord (r : List Byte) : Verdict → List Byte
  | .delivered => r
  | .consumed => overlay r 6 ([0x11, 0] ++ natHalf 0xFFFF)
  | .discarded reason => overlay r 6 ([0x12, reason.code] ++ natHalf 0xFFFF)
  | .forwarded tag => overlay r 6 ([0x10, 0] ++ natHalf tag.val)

/-! ### Transmit descriptors (Table 12-4) -/

/-- The fields of a FRAME descriptor. -/
structure Descriptor where
  lap : Bool
  rate : Nat
  attempts : Nat
  launchSuperframe : BitVec 32
  buffer : Nat
  length : Nat
  dest : NodeId
  launch : Nat
  deadline : Nat
deriving DecidableEq, Repr

/-- A FRAME descriptor's 16 bytes; reserved bits are 0 (R193). -/
def descriptorBytes (d : Descriptor) : List Byte :=
  [toByte (1 + 128 * bit d.lap), toByte (d.rate % 8 + 16 * (d.attempts % 16)),
   d.launchSuperframe.extractLsb' 0 8, 0] ++ natWord d.buffer ++ natHalf d.length ++ halfBytes d.dest ++
    natHalf d.launch ++ natHalf d.deadline

/-- A SKIP write's 16 bytes (R193). -/
def skipBytes (lap : Bool) : List Byte := toByte (2 + 128 * bit lap) :: List.replicate 15 0

/-! ### Transmit completion record (Table 12-5) -/

/-- A transmit outcome. -/
inductive TxOutcome where
  | delivered
  | undelivered
  | expired
  | aborted
deriving DecidableEq, Repr

/-- The descriptor index. -/
def txcIndex (r : List Byte) : Nat := (half r 0).toNat
/-- The outcome; a code outside the four is taken as UNDELIVERED (R146). -/
def txcOutcome (r : List Byte) : TxOutcome :=
  match (byteAt r 2).toNat with
  | 1 => .delivered
  | 3 => .expired
  | 4 => .aborted
  | _ => .undelivered
/-- The attempts used: 0 is taken as 1 and above 8 as 8 (R75). -/
def txcAttempts (r : List Byte) : Nat := clamp 1 8 (byteAt r 3).toNat
/-- The lap. -/
def txcLap (r : List Byte) : Bool := bitOf (byteAt r 5) 0

/-! ### Local send entry (Table 12-6) -/

/-- A local send entry. -/
def readLocalEntry (r : List Byte) : LocalEntry := { buffer := (word r 0).toNat, length := (half r 4).toNat }

/-! ### Plan slot entries (12.4) -/

/-- A slot entry byte; none for an unknown code (R130). -/
def slotOfByte (b : Byte) : Option SlotEntry :=
  let low := field b 0 6
  match field b 6 2 with
  | 0 => if low = 0 then some .idle else none
  | 1 => if low = 0 then some .shared else none
  | 2 => if low = 0 then some .beacon else none
  | _ => (index? 16 low).map SlotEntry.tx

/-! ### Codes of the reports (12.5) -/

/-- The code of a response status. -/
def Status.code : Status → Byte
  | .done => 0
  | .refusedBusy => 1
  | .refusedState => 2
  | .refusedFull => 3
  | .badArgument => 4
  | .badPlan => 5
  | .unknownCommand => 6

/-- The code of a release status. -/
def ReleaseStatus.code : ReleaseStatus → Byte
  | .sent => 1
  | .undelivered => 2
  | .expired => 3
  | .aged => 4
  | .cut => 5
  | .noRoute => 6
  | .quiesced => 7
  | .abandoned => 8
  | .malformed => 9

/-- The code of an origin. -/
def Origin.code : Origin → Byte
  | .forward => 1
  | .localSend => 2

/-- The code of a link state. -/
def LinkState.code : LinkState → Nat
  | .empty => 0
  | .probing _ => 1
  | .active => 2
  | .blocked _ => 3
  | .draining => 4
  | .silent => 5
  | .failed _ => 6

/-- The code of a failure reason; 0 outside FAILED. -/
def LinkState.reasonCode : LinkState → Nat
  | .failed .openTimeout => 1
  | .failed .beaconLoss => 2
  | .failed .blockage => 3
  | _ => 0

/-- The state timer, 0 when absent (R68). -/
def LinkState.timer : LinkState → Nat
  | .probing t => t
  | .blocked t => t
  | _ => 0

/-- The code of a plan context (12.4). -/
def PlanContext.code : PlanContext → Byte
  | .a => 0
  | .b => 1

/-- The code of a timing state (Table 12-10). -/
def TimingState.code : TimingState → Byte
  | .root => 0
  | .seeking => 1
  | .locked _ _ _ => 2
  | .holdover _ _ _ => 3

/-- A link index as a byte, 0xFF when absent (R193). -/
def linkByte : Option LinkIx → Byte
  | some n => toByte n.val
  | none => 0xFF

/-- A report's 32 bytes: the phase, the kind, and the body padded with zeros (Table 12-9, R193). -/
def reportBytes (phase : Bool) (kind : Byte) (body : List Byte) : List Byte :=
  [toByte (bit phase), kind, 0, 0] ++ body ++ List.replicate (28 - body.length) 0

end Sys2Proof.Machine
end

