-- ==== Sys2Proof/Machine/Flags.lean ====
section
/-!
DEFINITION. Flags and outputs: the current and sticky flags of a link record (R66, R67), its attention set
(R65), and the pins INT, TICK and SFS (R186, R152).
-/

namespace Sys2Proof.Machine

/-- AT_FLOOR: r equals the rate floor (R66). -/
def LinkRec.atFloor (l : LinkRec) : Bool := l.rate == l.floor

/-- AT_CEILING: r equals the rate ceiling (R66). -/
def LinkRec.atCeiling (l : LinkRec) : Bool := l.rate == l.ceiling

/-- The current flags as LINK_QUERY shows them (Table 12-11). -/
def LinkRec.currentByte (l : LinkRec) : Byte :=
  toByte (bit l.lastDelivered + 2 * bit l.lastRetried + 4 * bit l.atFloor + 8 * bit l.atCeiling +
    16 * bit l.climbing)

/-- The sticky flags as LINK_QUERY shows them (Table 12-11). -/
def Sticky.byte (f : Sticky) : Byte :=
  toByte (bit f.everUndelivered + 2 * bit f.everExpired + 4 * bit f.hitFloor + 8 * bit f.costSaturated +
    16 * bit f.blockedSeen)

/-- The bit of an attention kind (12.5). -/
def Attention.bit : Attention → Byte
  | .linkUp => 1
  | .adopted => 2
  | .blocked => 4
  | .unblocked => 8
  | .failed => 16
  | .drained => 32
  | .climbDone => 64
  | .planSeen => 128

/-- The record with an attention kind added; one already in the set changes nothing (R65). -/
def LinkRec.attend (l : LinkRec) (k : Attention) : LinkRec := { l with attention := l.attention ||| k.bit }

/-- The current flags after a DELIVERED outcome (R66). -/
def LinkRec.flagDelivered (l : LinkRec) (attempts : Nat) : LinkRec :=
  { l with lastDelivered := true, lastRetried := decide (1 < attempts) }

/-- The current and sticky flags after an UNDELIVERED outcome (R66, R67). -/
def LinkRec.flagUndelivered (l : LinkRec) (attempts : Nat) : LinkRec :=
  { l with lastDelivered := false, lastRetried := decide (1 < attempts),
           sticky := { l.sticky with everUndelivered := true } }

/-- The sticky flag of an EXPIRED data-frame outcome (R67). -/
def LinkRec.flagExpired (l : LinkRec) : LinkRec := { l with sticky := { l.sticky with everExpired := true } }

/-- INT (R186). -/
def State.int (s : State) : Bool :=
  !s.isUnanchored && s.reports.intEnable && s.reports.producer != s.reports.consumed

/-- The pulses TICK has given since the commit: one for each µs of the timebase (R152). -/
def State.ticks (s : State) : Nat := s.timing.epoch + s.timing.timebase

/-- The level of SFS (R152). -/
def State.sfs (s : State) : Bool := s.pins.sfs.headD false

/-- What SFS shows from a boundary on: the pulse, then the low 8 bits of the new superframe's number, least
significant first (R152). -/
def sfsLevels (number : BitVec 32) : List Bool := true :: (List.range 8).map fun i => number.getLsbD i

end Sys2Proof.Machine
end

