-- ==== Sys2Proof/Machine/Metric.lean ====
section
/-!
DEFINITION. The Metric Unit (chapter 4): airtime, cost, delivery sample, moving average, pace and climb. It
holds no state of its own: each operation changes the link record whose event it handles (R71).
-/

namespace Sys2Proof.Machine

/-- b_r, the rate in bits per µs (Table 4-6). -/
def rateBits : Nat → Nat
  | 0 => 6
  | 1 => 12
  | 2 => 24
  | 3 => 48
  | 4 => 96
  | 5 => 144
  | 6 => 192
  | _ => 288

/-- T(r, L), the airtime of a frame of L bytes at rate index r (R77). -/
def airtime (r length : Nat) : Nat := 36 + ceilDiv (8 * length) (rateBits r)

/-- The cost for a rate index and a delivery estimate (R78). -/
def costOf (r estimate : Nat) : Nat :=
  if estimate = 0 then Config.saturated
  else min Config.saturated (ceilDiv (airtime r 1500 * 32768) estimate)

/-- The record with its cost recomputed; a result of 65535 sets COST_SATURATED (R78). -/
def LinkRec.recost (l : LinkRec) : LinkRec :=
  let c := costOf l.rate l.estimate
  { l with cost := c,
           sticky := { l.sticky with costSaturated := l.sticky.costSaturated || c == Config.saturated } }

/-- The record with r written and the cost recomputed (R78). -/
def LinkRec.writeRate (l : LinkRec) (r : Nat) : LinkRec := LinkRec.recost { l with rate := r }

/-- The delivery sample of a DELIVERED outcome: 32768 / a rounded to nearest, halves up (R75). -/
def deliverySample (attempts : Nat) : Nat := (2 * 32768 + attempts) / (2 * attempts)

/-- The moving average: D + floor(((s - D) W + 8) / 16), clamped into 0..32768 (R76). -/
def average (estimate sample weight : Nat) : Nat :=
  (clampInt 0 32768
    ((estimate : Int) + (((sample : Int) - (estimate : Int)) * (weight : Int) + 8) / 16)).toNat

/-- The record with a sample applied and the cost recomputed (R76, R78). -/
def LinkRec.applySample (l : LinkRec) (sample : Nat) : LinkRec :=
  LinkRec.recost { l with estimate := average l.estimate sample l.weight }

/-- HIT_FLOOR is set when r stands at the floor after an UNDELIVERED data-frame outcome (R81, R85). -/
def LinkRec.markFloor (l : LinkRec) : LinkRec :=
  if l.atFloor then { l with sticky := { l.sticky with hitFloor := true } } else l

/-- The pace rule for a DELIVERED data-frame outcome (R81). -/
def LinkRec.paceDelivered (l : LinkRec) (attempts : Nat) : LinkRec :=
  if attempts = 1 then
    if 64 ≤ l.pace + l.upStep then
      if l.rate < l.ceiling then LinkRec.writeRate { l with pace := 0 } (l.rate + 1)
      else { l with pace := 0 }
    else { l with pace := l.pace + l.upStep }
  else l

/-- The pace rule for an UNDELIVERED data-frame outcome (R81). -/
def LinkRec.paceUndelivered (l : LinkRec) : LinkRec :=
  (LinkRec.writeRate { l with pace := 0 } (max l.floor (l.rate - l.downStep))).markFloor

/-- The climb record with another run count. -/
def LinkRec.setRun (l : LinkRec) (run : Nat) : LinkRec :=
  { l with climb := l.climb.map fun c => { c with run := run } }

/-- A DELIVERED data-frame outcome during a climb (R84). -/
def LinkRec.climbDelivered (l : LinkRec) (attempts : Nat) : LinkRec :=
  match l.climb with
  | none => l
  | some c =>
    if attempts = 1 then
      if c.run + 1 < 4 then { l with climb := some { c with run := c.run + 1 } }
      else if l.rate < l.ceiling then
        LinkRec.writeRate { l with climb := some { c with mark := l.rate, run := 0 } } (l.rate + 1)
      else
        LinkRec.attend { l with climb := some { c with mark := l.rate, run := 0 }, pace := 0,
                                climbing := false } .climbDone
    else { l with climb := some { c with run := 0 } }

/-- An UNDELIVERED data-frame outcome ends a climb by loss with its act applied (R85). -/
def LinkRec.climbLost (l : LinkRec) : LinkRec :=
  match l.climb with
  | none => l
  | some c =>
    let l := { l with climb := some { c with run := 0 }, pace := 0, climbing := false }
    let l := match c.act with
      | .keep => LinkRec.writeRate { l with ceiling := c.mark } c.mark
      | .returnRate => LinkRec.writeRate l c.start
    (l.attend .climbDone).markFloor

/-- A climb that ends because the link leaves ACTIVE, with neither act applied (R86). -/
def LinkRec.climbEnded (l : LinkRec) : LinkRec :=
  if l.climbing then LinkRec.setRun { l with climbing := false } 0 else l

/-- The Metric Unit's part of a data-frame outcome on a link in ACTIVE, BLOCKED or DRAINING (Table 4-2). -/
def LinkRec.measureData (l : LinkRec) (o : TxOutcome) (attempts : Nat) : LinkRec :=
  match o with
  | .delivered =>
    let l := l.applySample (deliverySample attempts)
    if l.climbing then l.climbDelivered attempts else l.paceDelivered attempts
  | .undelivered =>
    let l := l.applySample 0
    if l.climbing then l.climbLost else l.paceUndelivered
  | .expired => l
  | .aborted => l

/-- The Metric Unit's part of the outcome of an own probe or reply (Table 4-2). -/
def LinkRec.measureOwn (l : LinkRec) (o : TxOutcome) (attempts : Nat) : LinkRec :=
  match o with
  | .delivered => l.applySample (deliverySample attempts)
  | .undelivered => l.applySample 0
  | .expired => l
  | .aborted => l

end Sys2Proof.Machine
end

