-- ==== Sys2Proof/Machine/Operands.lean ====
section
/-!
DEFINITION. The forms a system-side access takes: the windows, the sorting of an access by the window its
bytes fall in (R165, R166), and the fields of the anchor staging (Table 12-13).
-/

namespace Sys2Proof.Machine

/-! ### Windows -/

/-- The ranges of the windows, as base and bytes (R165). -/
def Windows.ranges (w : Windows) : List (Nat × Nat) :=
  [(w.rxBase, 16 * w.rxSize), (w.txBase, 16 * w.txSize), (w.txcBase, 16 * w.txSize),
   (w.localBase, 16 * w.localSize), (w.cmdBase, 32 * w.cmdSize), (w.repBase, 32 * w.repSize),
   (w.frameBase, 4096), (w.cmdPost, 4), (w.localPost, 4), (w.repConsumed, 4)]

/-- A write of `n` bytes at `a` touches a window whose writes are dropped: the transmit ring, the report ring
or the frame area (Table 9-1). -/
def Windows.owns (w : Windows) (a n : Nat) : Bool :=
  overlaps a n w.txBase (16 * w.txSize) || overlaps a n w.repBase (32 * w.repSize) ||
    overlaps a n w.frameBase 4096

/-- The anchor window's base for the straps (R173). -/
def anchorBase (sel : BitVec 2) : Nat :=
  match sel.toNat with
  | 0 => 0x0FFFFF00
  | 1 => 0x1FFFFF00
  | 2 => 0x3FFFFF00
  | _ => 0x7FFFFF00

/-- Which post word a write is of (R169). -/
inductive PostWord where
  | command
  | localSend
  | consumed
deriving DecidableEq, Repr

/-- What happens to a system-side write (Table 9-1). -/
inductive WriteAction where
  | passes
  | dropped
  | held
  | copied (pos : Nat)
  | captured (word : PostWord)
  | anchor (offset : Nat)
deriving DecidableEq, Repr

/-- The action on a write while RUNNING or QUIESCING (Table 9-1). A write that touches an owned window is
dropped whole; any other action needs the write to be a whole record or word of one window (R166). -/
def Windows.action (w : Windows) (running : Bool) (a : Nat) (data : List Byte) : WriteAction :=
  let n := data.length
  if w.owns a n then .dropped
  else if n = 16 ∧ inside a n w.rxBase (16 * w.rxSize) then
    if running ∧ rxStatus data = statusRxOk then .held else .passes
  else if n = 16 ∧ inside a n w.txcBase (16 * w.txSize) then .copied ((a - w.txcBase) / 16)
  else if n = 4 ∧ a = w.cmdPost then .captured .command
  else if n = 4 ∧ a = w.localPost then .captured .localSend
  else if n = 4 ∧ a = w.repConsumed then .captured .consumed
  else .passes

/-- The action on a system-side write for the engine state at that moment (R166). -/
def State.writeAction (s : State) (a : Nat) (data : List Byte) : WriteAction :=
  match s.path.engine with
  | .unanchored =>
    match s.pins.anchorSel with
    | some sel =>
      if inside a data.length (anchorBase sel) 256 then .anchor (a - anchorBase sel) else .passes
    | none => .passes
  | .running =>
    match s.path.windows with
    | some w => w.action true a data
    | none => .passes
  | .quiescing _ _ =>
    match s.path.windows with
    | some w => w.action false a data
    | none => .passes

/-- The transmit ring positions whose first 8 bytes a read covers. A read that is not wholly inside the ring
marks none (R166, R170). -/
def State.fetchedPositions (s : State) (a n : Nat) : List Nat :=
  match s.path.engine, s.path.windows with
  | .unanchored, _ => []
  | _, none => []
  | _, some w =>
    if inside a n w.txBase (16 * w.txSize) then
      (List.range w.txSize).filter fun p => inside (w.txBase + 16 * p) 8 a n
    else []

/-! ### Anchor staging (Table 12-13) -/

/-- A one-byte field of the staging. -/
def stagedByte (st : List Byte) (i : Nat) : Nat := (byteAt st i).toNat
/-- A two-byte field of the staging. -/
def stagedHalf (st : List Byte) (i : Nat) : Nat := (half st i).toNat
/-- A four-byte field of the staging. -/
def stagedWord (st : List Byte) (i : Nat) : Nat := (word st i).toNat

/-- The window table the staging describes (R165, Table 12-13). -/
def stagedWindows (st : List Byte) : Windows :=
  { rxBase := stagedWord st 0x04, rxSize := stagedHalf st 0x08, txBase := stagedWord st 0x0C,
    txcBase := stagedWord st 0x10, txSize := stagedHalf st 0x14, localBase := stagedWord st 0x18,
    localSize := stagedHalf st 0x1C, cmdBase := stagedWord st 0x20, cmdSize := stagedHalf st 0x24,
    repBase := stagedWord st 0x28, repSize := stagedHalf st 0x2C, frameBase := stagedWord st 0x30,
    cmdPost := stagedWord st 0x34, localPost := stagedWord st 0x38, repConsumed := stagedWord st 0x3C }

/-- The offset of the status word in the anchor record. -/
def statusOffset : Nat := 0xF8

/-- A write at an offset of the anchor window covers a byte of the commit field (R174). -/
def coversCommit (offset n : Nat) : Bool := overlaps offset n 0xFC 4

/-- A commit status (R175). -/
inductive CommitStatus where
  | ok
  | badNodeId
  | badSize
  | badAlign
  | overlap
deriving DecidableEq, Repr

/-- The code of a commit status (Table 12-13). -/
def CommitStatus.code : CommitStatus → Nat
  | .ok => 1
  | .badNodeId => 2
  | .badSize => 3
  | .badAlign => 4
  | .overlap => 5

/-- The ring sizes lie in their ranges (R165). -/
def Windows.sizesOk (w : Windows) : Bool :=
  decide (16 ≤ w.rxSize) && decide (w.rxSize ≤ 1024) && decide (16 ≤ w.txSize) && decide (w.txSize ≤ 256) &&
  decide (16 ≤ w.localSize) && decide (w.localSize ≤ 1024) && decide (16 ≤ w.cmdSize) &&
  decide (w.cmdSize ≤ 256) && decide (32 ≤ w.repSize) && decide (w.repSize ≤ 1024)

/-- No window runs past address 0xFFFFFFFF (R175). -/
def Windows.fits (w : Windows) : Bool := w.ranges.all fun r => decide (r.1 + r.2 ≤ Config.addressSpace)

/-- Every base is a multiple of its alignment (R165). -/
def Windows.aligned (w : Windows) : Bool :=
  [w.rxBase, w.txBase, w.txcBase, w.localBase, w.cmdBase, w.repBase].all (fun b => b % 64 == 0) &&
  w.frameBase % 512 == 0 && [w.cmdPost, w.localPost, w.repConsumed].all fun b => b % 4 == 0

/-- No two ranges of a list share a byte. -/
def disjointRanges : List (Nat × Nat) → Bool
  | [] => true
  | r :: rs => (rs.all fun q => !overlaps r.1 r.2 q.1 q.2) && disjointRanges rs

/-- Validation of a staging, the first failing test giving the status (R175). -/
def validate (sel : BitVec 2) (st : List Byte) : CommitStatus :=
  let w := stagedWindows st
  let own := half st 0
  if own = nodeNone ∨ own = nodeAll then .badNodeId
  else if !(w.sizesOk && w.fits) then .badSize
  else if !w.aligned then .badAlign
  else if !disjointRanges ((anchorBase sel, 256) :: w.ranges) then .overlap
  else .ok

end Sys2Proof.Machine
end

