-- ==== Sys2Proof/Machine/Routes.lean ====
section
/-!
DEFINITION. The Route Table (chapter 5): sequence comparison, learning from beacons, aging, loss of next hops,
lookup, advertising, pins and queries.
-/

namespace Sys2Proof.Machine

/-! ### Entries -/

/-- The metric a route entry stands for: the primary metric, or 65535 in POISONED (R88). -/
def RouteBody.metric : RouteBody → Nat
  | .pinned h => h.metric
  | .live _ p _ _ _ => p.metric
  | .poisoned _ _ _ => Config.saturated

/-- The entry at a position of the route table, if one is there. -/
def RouteTable.entry (rt : RouteTable) (p : RoutePos) : Option RouteEntry := bankGet rt.entries p

/-- The table with one position set. -/
def RouteTable.setEntry (rt : RouteTable) (p : RoutePos) (e : Option RouteEntry) : RouteTable :=
  { rt with entries := bankPut rt.entries p e }

/-- The position whose entry holds a destination (R88). -/
def RouteTable.posOf (rt : RouteTable) (dest : NodeId) : Option RoutePos :=
  bankFind (fun _ e => match e with
    | some e => e.dest == dest
    | none => false) rt.entries

/-- The entry that holds a destination. -/
def RouteTable.find (rt : RouteTable) (dest : NodeId) : Option RouteEntry :=
  (rt.posOf dest).bind rt.entry

/-- The lowest free position (R88). -/
def RouteTable.lowestFree (rt : RouteTable) : Option RoutePos := bankFind (fun _ e => e.isNone) rt.entries

/-- The count of occupied positions (R88). -/
def RouteTable.occupied (rt : RouteTable) : Nat := rt.entries.toList.countP fun e => e.isSome

/-- A POISONED entry's body with a poison count of 4 and age 0 (R96, R97, R102, R103). -/
def RouteBody.poison (seq : BitVec 16) : RouteBody := .poisoned seq 0 Config.poisonCount

/-! ### Sequence comparison -/

/-- An advertised sequence against a held one (R92). -/
inductive SeqOrder where
  | equal
  | newer
  | older
deriving DecidableEq, Repr

/-- Serial comparison of an advertised sequence `s` with a held one `e` (R92). -/
def seqCompare (s e : BitVec 16) : SeqOrder :=
  let d := (s - e).toNat
  if d = 0 then .equal else if d ≤ 32767 then .newer else .older

/-! ### Learning from beacons -/

/-- The candidate metric of an advertised metric through a link of cost `cost` (R94). -/
def candidate (metric cost penalty : Nat) : Nat :=
  if metric = Config.saturated then Config.saturated else min Config.saturated (metric + cost + penalty)

/-- The POISONED entry with the lowest poison count, the lowest position among equals (R95). -/
def RouteTable.poisonedVictim (rt : RouteTable) : Option RoutePos :=
  ((List.finRange 256).foldl (fun best p =>
    match rt.entry p, best with
    | some ⟨_, .poisoned _ _ c⟩, none => some (p, c)
    | some ⟨_, .poisoned _ _ c⟩, some (q, d) => if c < d then some (p, c) else some (q, d)
    | _, best => best) (none : Option (RoutePos × Nat))).map Prod.fst

/-- The live LEARNED entry with the largest primary metric, then the greatest age, then the lowest position,
with that metric (R95). -/
def RouteTable.liveVictim (rt : RouteTable) : Option (RoutePos × Nat) :=
  ((List.finRange 256).foldl (fun best p =>
    match rt.entry p, best with
    | some ⟨_, .live _ h _ _ a⟩, none => some (p, h.metric, a)
    | some ⟨_, .live _ h _ _ a⟩, some (q, m, b) =>
      if m < h.metric ∨ (m = h.metric ∧ b < a) then some (p, h.metric, a) else some (q, m, b)
    | _, best => best) (none : Option (RoutePos × Nat × Nat))).map fun v => (v.1, v.2.1)

/-- R95: the position a new learned entry of metric `cand` takes: the lowest free one, else a POISONED
entry's, else the worst live entry's when `cand` is smaller. -/
def RouteTable.placeFor (rt : RouteTable) (cand : Nat) : Option RoutePos :=
  match rt.lowestFree with
  | some p => some p
  | none =>
    match rt.poisonedVictim with
    | some p => some p
    | none =>
      match rt.liveVictim with
      | some (p, m) => if cand < m then some p else none
      | none => none

/-- A fresh VALID entry's body (R95, R96). -/
def RouteBody.fresh (n : LinkIx) (cand : Nat) (seq : BitVec 16) : RouteBody := .live false ⟨n, cand⟩ none seq 0

/-- R95: no entry holds the destination. -/
def RouteTable.learnNew (rt : RouteTable) (n : LinkIx) (cand : Nat) (a : Advert) : RouteTable × Bool :=
  if cand = Config.saturated then (rt, false)
  else
    match rt.placeFor cand with
    | some p => (rt.setEntry p (some ⟨a.dest, .fresh n cand a.seq⟩), true)
    | none => (rt, false)

/-- R97: the primary's own path is advertised again at an equal sequence. -/
def refreshPrimary (stale : Bool) (primary : Hop) (alternate : Option Hop) (seq : BitVec 16) (age cand hyst : Nat) :
    RouteBody :=
  if cand < Config.saturated then
    match alternate with
    | some q =>
      if q.metric + hyst < cand then .live false q (some ⟨primary.link, cand⟩) seq 0
      else .live false ⟨primary.link, cand⟩ (some q) seq 0
    | none => .live false ⟨primary.link, cand⟩ none seq 0
  else
    match alternate with
    | some q => .live stale q none seq age
    | none => .poison seq

/-- R98: the alternate's path is advertised again at an equal sequence. -/
def refreshAlternate (stale : Bool) (primary : Hop) (n : LinkIx) (seq : BitVec 16) (age cand : Nat) : RouteBody :=
  if cand < Config.saturated then .live stale primary (some ⟨n, cand⟩) seq age
  else .live stale primary none seq age

/-- R99: a third link advertises at an equal sequence. -/
def offerThird (stale : Bool) (primary : Hop) (alternate : Option Hop) (n : LinkIx) (seq : BitVec 16)
    (age cand hyst : Nat) : RouteBody :=
  if cand + hyst < primary.metric then .live false ⟨n, cand⟩ (some primary) seq 0
  else if cand < Config.saturated then
    match alternate with
    | none => .live stale primary (some ⟨n, cand⟩) seq age
    | some q => if cand < q.metric then .live stale primary (some ⟨n, cand⟩) seq age
                else .live stale primary alternate seq age
  else .live stale primary alternate seq age

/-- R96 to R100: an entry's body after an advertisement through link `n`, and whether a POISONED entry was
revived by it. -/
def RouteBody.learn (b : RouteBody) (n : LinkIx) (cand hyst : Nat) (seq : BitVec 16) : RouteBody × Bool :=
  match b with
  | .pinned h => (.pinned h, false)
  | .poisoned held age count =>
    match seqCompare seq held with
    | .newer => if cand < Config.saturated then (.fresh n cand seq, true) else (.poison seq, false)
    | .equal => (.poisoned held age count, false)
    | .older => (.poisoned held age count, false)
  | .live stale p q held age =>
    match seqCompare seq held with
    | .newer => if cand < Config.saturated then (.fresh n cand seq, false) else (.poison seq, false)
    | .older => (.live stale p q held age, false)
    | .equal =>
      if p.link = n then (refreshPrimary stale p q held age cand hyst, false)
      else if q.map Hop.link = some n then (refreshAlternate stale p n held age cand, false)
      else (offerThird stale p q n held age cand hyst, false)

/-- R93 to R100: one advertised entry, received from link `n` of cost `cost`. The flag says that an entry was
created or revived (R101). -/
def RouteTable.learn (rt : RouteTable) (ownId : NodeId) (n : LinkIx) (cost : Nat) (a : Advert) :
    RouteTable × Bool :=
  if a.dest = nodeNone ∨ a.dest = nodeAll ∨ a.dest = ownId then (rt, false)
  else
    let cand := candidate a.metric cost rt.penalty
    match rt.posOf a.dest with
    | none => rt.learnNew n cand a
    | some p =>
      match rt.entry p with
      | none => (rt, false)
      | some e =>
        let r := e.body.learn n cand rt.hysteresis a.seq
        (rt.setEntry p (some ⟨e.dest, r.1⟩), r.2)

/-- R93, R101: the entries of a beacon one by one, and whether any created or revived an entry. -/
def RouteTable.learnAll (ownId : NodeId) (n : LinkIx) (cost : Nat) :
    List Advert → RouteTable × Bool → RouteTable × Bool
  | [], r => r
  | a :: as, r =>
    let r' := r.1.learn ownId n cost a
    RouteTable.learnAll ownId n cost as (r'.1, r.2 || r'.2)

/-! ### Aging and loss of next hops -/

/-- An age raised by one, leaving 255 (R32, R102). -/
def raiseAge (a : Nat) : Nat := if a < 255 then a + 1 else a

/-- An entry's body with its age raised; PINNED entries hold none (R102). -/
def RouteBody.older : RouteBody → RouteBody
  | .pinned h => .pinned h
  | .live stale p q s a => .live stale p q s (raiseAge a)
  | .poisoned s a c => .poisoned s (raiseAge a) c

/-- R102: the ages of every LEARNED entry raised. -/
def RouteTable.raiseAges (rt : RouteTable) : RouteTable :=
  { rt with entries := bankMap (fun _ e => e.map fun e => ⟨e.dest, e.body.older⟩) rt.entries }

/-- R102: what the raised ages make due, in order of position: an entry whose age has just become 128 or more
is poisoned, a VALID one whose age has just become 32 or more turns STALE. `rt` is the table before the
raise, since an age left at 255 is not tested. -/
def RouteTable.agingDue (rt : RouteTable) : List Consequence :=
  (List.finRange 256).filterMap fun p =>
    match rt.entry p with
    | some ⟨_, .live stale _ _ _ a⟩ =>
      if a < 255 ∧ Config.poisonAge ≤ a + 1 then some (.routeAgePoison p)
      else if a < 255 ∧ stale = false ∧ Config.staleAge ≤ a + 1 then some (.routeStale p)
      else none
    | _ => none

/-- R102: the entry at a position turns STALE. -/
def RouteTable.turnStale (rt : RouteTable) (p : RoutePos) : RouteTable :=
  match rt.entry p with
  | some ⟨d, .live _ h q s a⟩ => rt.setEntry p (some ⟨d, .live true h q s a⟩)
  | _ => rt

/-- R102: the entry at a position is poisoned by age. -/
def RouteTable.agePoison (rt : RouteTable) (p : RoutePos) : RouteTable :=
  match rt.entry p with
  | some ⟨d, .live _ _ _ s _⟩ => rt.setEntry p (some ⟨d, .poison s⟩)
  | _ => rt

/-- R103: an entry's body after link `n` has become unusable. -/
def RouteBody.dropLink (b : RouteBody) (n : LinkIx) : RouteBody :=
  match b with
  | .pinned h => .pinned h
  | .poisoned s a c => .poisoned s a c
  | .live stale p q s a =>
    if p.link = n then
      match q with
      | some q => .live stale q none s a
      | none => .poison s
    else if q.map Hop.link = some n then .live stale p none s a
    else .live stale p q s a

/-- R103: the whole table after link `n` has become unusable. -/
def RouteTable.dropLink (rt : RouteTable) (n : LinkIx) : RouteTable :=
  { rt with entries := bankMap (fun _ e => e.map fun e => ⟨e.dest, e.body.dropLink n⟩) rt.entries }

/-- R105: the boundary count rises by one. -/
def RouteTable.countBoundary (rt : RouteTable) : RouteTable := { rt with boundaryCount := rt.boundaryCount + 1 }

/-- R105: the count returns to 0 and the own sequence rises. -/
def RouteTable.advanceSequence (rt : RouteTable) : RouteTable :=
  { rt with boundaryCount := 0, ownSeq := rt.ownSeq + 1 }

/-! ### Lookup -/

/-- The lookup of a destination: a link or no route (R104). -/
def State.lookup (s : State) (dest : NodeId) : Option LinkIx :=
  if !s.identifies dest then none
  else match s.routes.find dest with
  | some ⟨_, .live _ p q _ _⟩ =>
    if (s.link p.link).isActive then some p.link
    else
      match q with
      | some q => if (s.link q.link).isActive then some q.link else some p.link
      | none => some p.link
  | some ⟨_, .pinned h⟩ => if (s.link h.link).usable then some h.link else none
  | some ⟨_, .poisoned _ _ _⟩ => s.usableLinkOf dest
  | none => s.usableLinkOf dest

/-! ### Advertising -/

/-- An entry is LEARNED. -/
def RouteEntry.learned (e : RouteEntry) : Bool :=
  match e.body with
  | .pinned _ => false
  | _ => true

/-- The positions from the beacon cursor on, wrapping from 255 to 0 (R106). -/
def RouteTable.lap (rt : RouteTable) : List RoutePos :=
  (List.range 256).map fun i => Fin.ofNat 256 (rt.cursor + i)

/-- R106: the positions a beacon's entries are chosen from, up to 23. -/
def RouteTable.chosen (rt : RouteTable) : List RoutePos :=
  (rt.lap.filter fun p => (rt.entry p).any RouteEntry.learned).take Config.beaconEntries

/-- How an entry is advertised (R106). -/
def RouteEntry.advert (e : RouteEntry) : Advert :=
  match e.body with
  | .pinned h => ⟨e.dest, h.metric, 0⟩
  | .live _ p _ s _ => ⟨e.dest, p.metric, s⟩
  | .poisoned s _ _ => ⟨e.dest, Config.saturated, s⟩

/-- R106: a beacon's route entries, the own entry first. -/
def RouteTable.adverts (rt : RouteTable) (ownId : NodeId) : List Advert :=
  ⟨ownId, 0, rt.ownSeq⟩ :: rt.chosen.filterMap fun p => (rt.entry p).map RouteEntry.advert

/-- R106: a chosen POISONED entry's count is lowered by one. -/
def RouteBody.countDown : RouteBody → RouteBody
  | .poisoned s a c => .poisoned s a (c - 1)
  | b => b

/-- R106: the table after a beacon has carried its chosen entries: the cursor stands after the last of them
and the counts of the POISONED ones are lowered. -/
def RouteTable.afterBeacon (rt : RouteTable) : RouteTable :=
  let ps := rt.chosen
  { rt with
    cursor := match ps.getLast? with
      | some p => (p.val + 1) % 256
      | none => rt.cursor
    entries := bankMap (fun p e =>
      if ps.contains p then e.map fun e => ⟨e.dest, e.body.countDown⟩ else e) rt.entries }

/-- R106: the chosen entries whose count the beacon brings to 0, in the order chosen. -/
def RouteTable.poisonDue (rt : RouteTable) : List Consequence :=
  rt.chosen.filterMap fun p =>
    match rt.entry p with
    | some ⟨_, .poisoned _ _ c⟩ => if c ≤ 1 then some (.poisonCountExpiry p) else none
    | _ => none

/-- R106: a POISONED entry whose count has reached 0 is freed. -/
def RouteTable.freePoisoned (rt : RouteTable) (p : RoutePos) : RouteTable :=
  match rt.entry p with
  | some ⟨_, .poisoned _ _ c⟩ => if c = 0 then rt.setEntry p none else rt
  | _ => rt

/-! ### Pins and queries -/

/-- R107: the position a new pin takes: a free one, else as R95 but with no comparison of metrics. -/
def RouteTable.placeForPin (rt : RouteTable) : Option RoutePos :=
  match rt.lowestFree with
  | some p => some p
  | none =>
    match rt.poisonedVictim with
    | some p => some p
    | none => rt.liveVictim.map Prod.fst

/-- R107: the destination pinned to a link; none when every position is PINNED to another destination. -/
def RouteTable.pin (rt : RouteTable) (dest : NodeId) (n : LinkIx) (metric : Nat) : Option RouteTable :=
  let place := match rt.posOf dest with
    | some p => some p
    | none => rt.placeForPin
  place.map fun p => rt.setEntry p (some ⟨dest, .pinned ⟨n, clamp 0 65534 metric⟩⟩)

/-- The entry that holds a destination is PINNED. -/
def RouteTable.pinnedAt (rt : RouteTable) (dest : NodeId) : Option RoutePos :=
  match rt.posOf dest with
  | some p =>
    match rt.entry p with
    | some ⟨_, .pinned _⟩ => some p
    | _ => none
  | none => none

/-- The kind and state bits of a ROUTE_QUERY payload for a found entry (Table 12-12, offset 8). -/
def RouteBody.queryBits : RouteBody → Nat
  | .pinned _ => 1 + 2
  | .live stale _ q _ _ => 1 + 4 * bit stale + 16 * bit q.isSome + 32
  | .poisoned _ _ _ => 1 + 4 * 2 + 32 + 64

/-- The bytes 12 to 21 of a ROUTE_QUERY payload for a found entry (Table 12-12, R193). -/
def RouteBody.queryBytes : RouteBody → List Byte
  | .pinned h => [toByte h.link.val, 0xFF] ++ natHalf h.metric ++ natHalf 0 ++ natHalf 0 ++ [0, 0]
  | .live _ p q s a =>
    [toByte p.link.val, linkByte (q.map Hop.link)] ++ natHalf p.metric ++
      natHalf ((q.map Hop.metric).getD 0) ++ halfBytes s ++ [toByte a, 0]
  | .poisoned s a c =>
    [0xFF, 0xFF] ++ natHalf Config.saturated ++ natHalf 0 ++ halfBytes s ++ [toByte a, toByte c]

/-- The same bytes when no entry is found. -/
def noEntryBytes : List Byte := [0xFF, 0xFF] ++ natHalf 0 ++ natHalf 0 ++ natHalf 0 ++ [0, 0]

/-- A ROUTE_QUERY payload (Table 12-12, R109): what was found and where, the destination, the lookup result,
and the table-wide fields. -/
def RouteTable.queryPayload (rt : RouteTable) (found : Option (RoutePos × RouteEntry)) (dest : NodeId)
    (result : Option LinkIx) : List Byte :=
  let front := match found with
    | some (p, e) => [toByte e.body.queryBits, toByte p.val] ++ halfBytes e.dest ++ e.body.queryBytes
    | none => [0, 0] ++ halfBytes dest ++ noEntryBytes
  front ++ [linkByte result, 0] ++ halfBytes rt.ownSeq ++ [toByte rt.cursor, 0] ++ natHalf rt.occupied ++ [0, 0]

end Sys2Proof.Machine
end

