-- ==== Sys2Proof/Machine/TimingOps.lean ====
section
/-!
DEFINITION. The Timing Unit (chapter 8): slot geometry, notices, the handling of beacons, and its own work at
a boundary.
-/

namespace Sys2Proof.Machine

/-! ### Geometry and time -/

/-- L_s, the slot length in µs (R128). -/
def State.slotLength (s : State) : Nat := 125 * s.sched.slotFactor

/-- S, the nominal superframe length in µs (R151). -/
def State.nominal (s : State) : Nat := 64 * s.slotLength

/-- The slot budget L_s - 10 (R128). -/
def State.slotBudget (s : State) : Nat := s.slotLength - Config.guardTime

/-- The timebase value at which the current superframe ends: the step end, else S + A (R151). -/
def State.superframeEnd (s : State) : Nat :=
  match s.timing.stepEnd with
  | some e => e.time
  | none => ((s.nominal : Int) + s.timing.adjust).toNat

/-- The depth a timing state gives (R154). -/
def TimingState.depth : TimingState → Nat
  | .root => 0
  | .seeking => Config.seekingDepth
  | .locked _ _ d => d
  | .holdover _ _ d => d

/-- The parent link of a timing state (R154). -/
def TimingState.parent : TimingState → Option LinkIx
  | .locked p _ _ => some p
  | .holdover p _ _ => some p
  | _ => none

/-- The holdover flag own beacons carry (R154). -/
def TimingState.holdoverFlag : TimingState → Bool
  | .holdover _ _ _ => true
  | _ => false

/-- `d` µs pass on the timebase: SFS shows its next levels, and a hold budget that runs is used up by as much,
which ends the decision when nothing is left of it (R151, R152, R115, R167). -/
def State.elapse (s : State) (d : Nat) : State :=
  { s with
    timing := { s.timing with timebase := s.timing.timebase + d }
    pins := { s.pins with sfs := s.pins.sfs.drop d }
    path := s.path.pass d
    classifier := if s.path.expires d then .idle else s.classifier }

/-! ### Notices -/

/-- The state with the timing state changed and a TIMING notice latched; it replaces a notice not yet
written (R154, R184). -/
def State.setTiming (s : State) (t : TimingState) : State :=
  { s with timing := { s.timing with state := t }
           reports := { s.reports with timingLatch := some ⟨t⟩ } }

/-- R161: link `n` has become unusable. The parent is told by its link index alone, also where the index has
been reopened toward another neighbour since a quiesce with KEEP (DESIGN CHOICE, log entry 35). -/
def State.timingLinkLost (s : State) (n : LinkIx) : State :=
  if s.timing.state.parent = some n then
    ({ s with timing := { s.timing with adjust := 0 } }).setTiming .seeking
  else s

/-! ### Beacons -/

/-- A sighting that may be followed, its link being usable (R155). -/
def State.eligible (s : State) (n : LinkIx) (g : Sighting) : Bool :=
  decide (g.depth ≤ Config.eligibleDepth) && !g.holdover && (s.link n).usable

/-- R157: the eligible sighting of the lowest depth, the lowest link among equals. -/
def State.bestSighting (s : State) : Option (LinkIx × Sighting) :=
  (List.finRange 16).foldl (fun best n =>
    match bankGet s.timing.sightings n, best with
    | some g, none => if s.eligible n g then some (n, g) else none
    | some g, some (m, b) => if s.eligible n g ∧ g.depth < b.depth then some (n, g) else some (m, b)
    | none, best => best) none

/-- R156: the offset of a beacon, wrapped into -S/2 .. S/2 - 1. -/
def offsetOf (receive transmit propagation nominal : Nat) : Int :=
  let o := (receive : Int) - ((transmit : Int) + (propagation : Int))
  (o + (nominal : Int) / 2) % (nominal : Int) - (nominal : Int) / 2

/-- R158: the correction for an offset: a quarter, truncated toward zero, clamped into -8..+8. -/
def correction (o : Int) : Int :=
  clampInt (-Config.correctionBound) Config.correctionBound (o.tdiv 4)

/-- When the superframe of a receive time began, in µs from the commit: the latest superframe, not after the
current one, whose number has the recorded low 8 bits (R157). -/
def State.receiveStart (s : State) (low : Byte) : Option Nat :=
  if s.timing.number.extractLsb' 0 8 = low then some s.timing.epoch
  else (s.timing.starts.find? fun b => b.low == low).map Start.time

/-- R157: E, the µs elapsed from a sighting's receive time to now; none where the manual gives it no value. -/
def State.elapsedSince (s : State) (g : Sighting) : Option Nat :=
  match s.receiveStart g.receiveSuperframe with
  | some t =>
    if t + g.receiveOffset ≤ s.timing.epoch + s.timing.timebase then
      some (s.timing.epoch + s.timing.timebase - (t + g.receiveOffset))
    else none
  | none => none

/-- R157: the step to the sighting `g` of link `m`, with E given. -/
def State.stepTo (s : State) (m : LinkIx) (g : Sighting) (elapsed : Nat) : State :=
  let p := g.offset + s.timing.propagation + elapsed
  let number := g.superframe + BitVec.ofNat 32 (p / s.nominal)
  let stop : StepEnd := ⟨s.timing.timebase + s.nominal - p % s.nominal, number + 1⟩
  let s := { s with timing := { s.timing with stepEnd := some stop, adjust := 0, outliers := 0, silence := 0,
                                              heard := true } }
  s.setTiming (.locked m ((s.link m).neighbour.getD nodeNone) (g.depth + 1))

/-- R157: an eligible beacon in SEEKING chooses a parent and steps. Where E is not stated it is the free
value (log entry 5). -/
def State.seekingBeacon (s : State) : State :=
  match s.bestSighting with
  | none => s
  | some (m, g) =>
    match s.elapsedSince g with
    | some e => s.stepTo m g e
    | none => ({ s with freeIndex := s.freeIndex + 1 }).stepTo m g (Config.unstatedElapsed s.freeIndex)

/-- R158: a parent beacon in LOCKED. The fourth outlier in a row is left for OUTLIER_LIMIT. -/
def State.lockedBeacon (s : State) (parent : LinkIx) (node : NodeId) (depth : Nat) (g : Sighting) : State :=
  if Config.eligibleDepth < g.depth ∨ g.holdover = true then s
  else
    let s := { s with timing := { s.timing with heard := true } }
    let s := if g.depth + 1 ≠ depth then s.setTiming (.locked parent node (g.depth + 1)) else s
    let o := offsetOf g.receiveOffset g.offset s.timing.propagation s.nominal
    if Config.outlierBound < o.natAbs then
      { s with timing := { s.timing with outliers := s.timing.outliers + 1 } }
    else
      { s with timing := { s.timing with
          outliers := 0
          adjust := clampInt (-Config.correctionBound) Config.correctionBound
            (s.timing.adjust + correction o) } }

/-- R160: a parent beacon in HOLDOVER. -/
def State.holdoverBeacon (s : State) (parent : LinkIx) (node : NodeId) (g : Sighting) : State :=
  if Config.eligibleDepth < g.depth ∨ g.holdover = true then s
  else
    let o := offsetOf g.receiveOffset g.offset s.timing.propagation s.nominal
    let s := { s with timing := { s.timing with adjust := correction o, outliers := 0, silence := 0,
                                                holdover := 0, heard := true } }
    s.setTiming (.locked parent node (g.depth + 1))

/-- R155: a beacon handed to the Timing Unit by a completed receive decision. -/
def State.timingBeacon (s : State) (source : NodeId) (g : Sighting) : State :=
  match s.usableLinkOf source with
  | none => s
  | some n =>
    if s.timing.state = .root ∨ s.timing.role = .root then s
    else
      let s := { s with timing := { s.timing with sightings := bankPut s.timing.sightings n (some g) } }
      match s.timing.state with
      | .root => s
      | .seeking => if s.eligible n g then s.seekingBeacon else s
      | .locked p node d => if p = n ∧ node = source then s.lockedBeacon p node d g else s
      | .holdover p node _ => if p = n ∧ node = source then s.holdoverBeacon p node g else s

/-! ### The boundary at the Timing Unit -/

/-- The starts of past superframes with the ended one added, one for each value of the low 8 bits. -/
def Timing.endedStarts (t : Timing) : List Start :=
  let low : Byte := t.number.extractLsb' 0 8
  ⟨low, t.epoch⟩ :: t.starts.filter fun b => b.low != low

/-- R151, steps 1 to 3: the superframe ends at `stop`, the new one begins, and SFS is pulsed. A step of the number
(R157) may end a superframe within 8 µs of its boundary, while SFS still shows its number; the manual does not say what
becomes of the bits that remain. They are dropped for the new pulse and the new bits (DESIGN CHOICE, log entry 36). -/
def State.newSuperframe (s : State) (stop : Nat) : State :=
  let number := match s.timing.stepEnd with
    | some e => e.number
    | none => s.timing.number + 1
  let s := s.elapse (stop - s.timing.timebase)
  { s with
    timing := { s.timing with timebase := 0, adjust := 0, stepEnd := none, number := number, nextSlot := 1,
                              epoch := s.timing.epoch + stop, starts := s.timing.endedStarts,
                              sightings := Vector.replicate 16 none }
    pins := { s.pins with sfs := sfsLevels number } }

/-- R153: a pending change to ROOT takes effect. -/
def State.applyPendingRoot (s : State) : State :=
  if s.timing.pendingRoot then
    ({ s with timing := { s.timing with role := .root, pendingRoot := false } }).setTiming .root
  else s

/-- R159, R160: the silence or holdover count at a boundary. While QUIESCING they do not advance (R162); a
parent heard flag is cleared and returns the silence count to 0 there too. -/
def State.countSilence (s : State) : State :=
  match s.timing.state with
  | .locked _ _ _ =>
    if s.timing.heard then { s with timing := { s.timing with heard := false, silence := 0 } }
    else if s.isRunning then { s with timing := { s.timing with silence := s.timing.silence + 1 } }
    else s
  | .holdover _ _ _ =>
    if s.isRunning then { s with timing := { s.timing with holdover := s.timing.holdover + 1 } } else s
  | _ => s

/-- R159, R160: what the counts make due. -/
def State.silenceDue (s : State) : List Consequence :=
  if s.isRunning then
    match s.timing.state with
    | .locked _ _ _ => if Config.silenceLimit ≤ s.timing.silence then [.silenceLimit] else []
    | .holdover _ _ _ => if Config.holdoverLimit ≤ s.timing.holdover then [.holdoverTimeout] else []
    | _ => []
  else []

/-- R159: LOCKED gives way to HOLDOVER; the parent and the depth are kept. -/
def State.enterHoldover (s : State) : State :=
  match s.timing.state with
  | .locked p n d => ({ s with timing := { s.timing with holdover := 0 } }).setTiming (.holdover p n d)
  | _ => s

/-- R160: HOLDOVER gives way to SEEKING. -/
def State.endHoldover (s : State) : State :=
  match s.timing.state with
  | .holdover _ _ _ => s.setTiming .seeking
  | _ => s

/-- R158: the fourth outlier takes the node to SEEKING. -/
def State.giveUpParent (s : State) : State :=
  match s.timing.state with
  | .locked _ _ _ => ({ s with timing := { s.timing with adjust := 0 } }).setTiming .seeking
  | _ => s

/-- R158: the outlier count has reached 4. -/
def State.outlierDue (s : State) : List Consequence :=
  match s.timing.state with
  | .locked _ _ _ => if Config.outlierLimit ≤ s.timing.outliers then [.outlierLimit] else []
  | _ => []

end Sys2Proof.Machine
end

