-- ==== Sys2Proof/Machine/PoolOps.lean ====
section
/-!
DEFINITION. The Frame Pool (chapter 2): admission, moves, aging and release, with the signals a falling queued
count gives (R20) and the drain test it leads to (R61).
-/

namespace Sys2Proof.Machine

/-! ### Requests of a link that leaves the usable set, and the drain test -/

/-- R45, request 1: the Route Table is told that link `n` is unusable (R103). -/
def State.routeLinkLost (s : State) (n : LinkIx) : State := { s with routes := s.routes.dropLink n }

/-- R45, request 5: the pending reply for link `n`'s neighbour is removed (R51). -/
def State.dropReply (s : State) (n : LinkIx) : State :=
  { s with linkTable := { s.linkTable with
      pendingReplies := s.linkTable.pendingReplies.filter fun x => some x != (s.link n).neighbour } }

/-- R61: a DRAINING link that holds nothing enters SILENT with attention DRAINED; no pool request is made. -/
def State.enterDrained (s : State) (n : LinkIx) : State :=
  let s := s.setLink n { s.link n with state := .silent }
  let s := (s.routeLinkLost n).timingLinkLost n
  let s := s.setLink n (s.link n).climbEnded
  let s := s.dropReply n
  s.setLink n ((s.link n).attend .drained)

/-- R61: the drain test. No link changes state while QUIESCING (R69, R111). -/
def State.drainTest (s : State) (n : LinkIx) : State :=
  if s.isRunning && (s.link n).state == .draining && s.queuedCount n == 0 && s.inFlightCount n == 0 then
    s.enterDrained n
  else s

/-- R20, R125: the Local Intake, STALLED on link `n`, gets its signal. -/
def State.signalIntake (s : State) (n : LinkIx) : State :=
  match s.intake.stage with
  | .stalled e h m _ =>
    if m = n then { s with intake := { s.intake with stage := .stalled e h m true } } else s
  | _ => s

/-- R35, R125: the Local Intake, STALLED on any link, is told that an entry was freed. -/
def State.signalFreed (s : State) : State :=
  match s.intake.stage with
  | .stalled e h m _ => { s with intake := { s.intake with stage := .stalled e h m true } }
  | _ => s

/-- R20: link `n`'s queued count has fallen. -/
def State.countFell (s : State) (n : LinkIx) : State := (s.signalIntake n).drainTest n

/-! ### Places -/

/-- The state with a tag removed from every class queue of link `n`. -/
def State.unqueue (s : State) (n : LinkIx) (t : Tag) : State :=
  let q := s.queuesOf n
  let drop := fun (ts : List Tag) => ts.filter fun x => x != t
  s.setQueues n ⟨drop q.expedited, drop q.interactive, drop q.bulk, drop q.background⟩

/-- The state with a tag removed from the held list. -/
def State.unhold (s : State) (t : Tag) : State :=
  { s with pool := { s.pool with heldList := s.pool.heldList.filter fun x => x != t } }

/-- The state with a tag put at the head of a class queue of link `n`. -/
def State.pushHead (s : State) (n : LinkIx) (c : TrafficClass) (t : Tag) : State :=
  s.setQueues n ((s.queuesOf n).put c (t :: (s.queuesOf n).get c))

/-- The state with a tag put at the tail of a class queue of link `n`. -/
def State.pushTail (s : State) (n : LinkIx) (c : TrafficClass) (t : Tag) : State :=
  s.setQueues n ((s.queuesOf n).put c ((s.queuesOf n).get c ++ [t]))

/-- The state with a tag put at the tail of the held list. -/
def State.pushHeld (s : State) (t : Tag) : State :=
  { s with pool := { s.pool with heldList := s.pool.heldList ++ [t] } }

/-- The held list has room (R21). -/
def State.heldRoom (s : State) : Bool := decide (s.pool.heldList.length < s.pool.heldLimit)

/-! ### Admission -/

/-- An admission request's frame fields (R23). -/
structure Request where
  origin : Origin
  buffer : Nat
  length : Nat
  dest : NodeId
  cls : TrafficClass
  mode : RoutingMode
deriving DecidableEq, Repr

/-- The tests on the free count that both admissions make (R23, R24). -/
def State.poolAdmits (s : State) (c : TrafficClass) : Bool :=
  decide (1 ≤ s.freeCount) && (c == .expedited || decide (s.pool.reserve < s.freeCount))

/-- The entry an admission fills (R23, R24). -/
def Request.frame (r : Request) (place : Place) (budget : Option Nat) : Frame :=
  { origin := r.origin, buffer := r.buffer, length := r.length, dest := r.dest, cls := r.cls,
    mode := r.mode, place := place, budget := budget, expiry := 0, age := 0 }

/-- R23: admission to a class queue of link `n`; none when refused. -/
def State.admitQueue (s : State) (r : Request) (n : LinkIx) : Option (State × Tag) :=
  if s.poolAdmits r.cls && decide (s.queuedCount n < (s.link n).queueCap) then
    s.lowestFree.map fun t =>
      ((s.setFrame t (some (r.frame (.queued n) (some (s.link n).defaultBudget)))).pushTail n r.cls t, t)
  else none

/-- R24: admission to the held list; none when refused. -/
def State.admitHeld (s : State) (r : Request) : Option (State × Tag) :=
  if r.mode == .table && s.poolAdmits r.cls && s.heldRoom then
    s.lowestFree.map fun t => ((s.setFrame t (some (r.frame .held none))).pushHeld t, t)
  else none

/-! ### Release -/

/-- R34: a release. A tag that is FREE or RELEASING is not taken (R17). -/
def State.release (s : State) (t : Tag) (status : ReleaseStatus) : State :=
  match s.frame t with
  | none => s
  | some f =>
    let gone := fun (s : State) =>
      let s := s.setFrame t (some { f with place := .releasing status })
      { s with pool := { s.pool with backlog := s.pool.backlog ++ [.entry t] } }
    match f.place with
    | .queued n => (gone (s.unqueue n t)).countFell n
    | .held => gone (s.unhold t)
    | .inRing _ _ => gone s
    | .fetched _ _ => gone s
    | .releasing _ => s

/-- Releases of several tags, in order, with one status. -/
def State.releaseAll (s : State) (status : ReleaseStatus) : List Tag → State
  | [] => s
  | t :: ts => State.releaseAll (s.release t status) status ts

/-- R36: every queued frame of link `n` is released CUT, in class order and each queue from head to tail. -/
def State.cutRelease (s : State) (n : LinkIx) : State := s.releaseAll .cut (s.queuesOf n).all

/-- R40: at the start of quiesce every QUEUED entry, then every HELD entry, is released QUIESCED. -/
def State.quiesceRelease (s : State) : State :=
  s.releaseAll .quiesced (((List.finRange 16).flatMap fun n => (s.queuesOf n).all) ++ s.pool.heldList)

/-! ### Leaving for the transmit ring -/

/-- R25: the head of a class queue of link `n` moves to a ring position. -/
def State.takeToRing (s : State) (n : LinkIx) (t : Tag) (f : Frame) (pos : Nat) : State :=
  ((s.unqueue n t).setFrame t (some { f with place := .inRing n pos })).countFell n

/-- R25: a fetch mark for a tag; only an IN_RING entry takes it (R17). -/
def State.markFetched (s : State) (t : Tag) : State :=
  match s.frame t with
  | some f =>
    match f.place with
    | .inRing n d => s.setFrame t (some { f with place := .fetched n d })
    | _ => s
  | none => s

/-- The entry is IN_RING or FETCHED: it takes completion-driven requests (R17). -/
def Frame.inFlight (f : Frame) : Bool :=
  match f.place with
  | .inRing _ _ => true
  | .fetched _ _ => true
  | _ => false

/-- The link of an entry, present in QUEUED, IN_RING and FETCHED (R16). -/
def Frame.link? (f : Frame) : Option LinkIx :=
  match f.place with
  | .queued n => some n
  | .inRing n _ => some n
  | .fetched n _ => some n
  | _ => none

/-! ### Moves -/

/-- R27, placement: the head of the target's class queue, the held list for a TABLE frame when there is room,
or a release NO_ROUTE. `f` is the entry as it is to stand. -/
def State.placeReturned (s : State) (t : Tag) (f : Frame) (target : Option LinkIx) : State :=
  match target with
  | some m => (s.setFrame t (some { f with place := .queued m })).pushHead m f.cls t
  | none =>
    if f.mode == .table && s.heldRoom then
      (s.setFrame t (some { f with place := .held, age := 0 })).pushHeld t
    else (s.setFrame t (some f)).release t .noRoute

/-- The frame's own link is ACTIVE, BLOCKED or DRAINING (R27, R28). -/
def State.ownTarget (s : State) (f : Frame) : Option LinkIx :=
  match f.link? with
  | some n => if (s.link n).carrying then some n else none
  | none => none

/-- R27: a requeue after UNDELIVERED. -/
def State.requeue (s : State) (t : Tag) : State :=
  match s.frame t with
  | none => s
  | some f =>
    if !f.inFlight then s
    else
      match f.budget.getD 0 with
      | 0 => s.release t .undelivered
      | b + 1 =>
        let target := match f.mode with
          | .table => s.lookup f.dest
          | .via => s.ownTarget f
        s.placeReturned t { f with budget := some b } target

/-- R28: an expiry return. -/
def State.expiryReturn (s : State) (t : Tag) : State :=
  match s.frame t with
  | none => s
  | some f =>
    if !f.inFlight then s
    else if f.expiry = 0 then
      let target := match s.ownTarget f with
        | some n => some n
        | none =>
          match f.mode with
          | .table => s.lookup f.dest
          | .via => none
      s.placeReturned t { f with expiry := 1 } target
    else s.release t .expired

/-- A QUEUED frame of link `n` moves to the tail of link `m`'s queue of its class (R29, R30). -/
def State.moveTail (s : State) (n m : LinkIx) (t : Tag) (f : Frame) : State :=
  (((s.unqueue n t).setFrame t (some { f with place := .queued m })).pushTail m f.cls t).countFell n

/-- R29: one queued frame of the blocked link `n`. -/
def State.divertOne (s : State) (n : LinkIx) (t : Tag) : State :=
  match s.frame t with
  | none => s
  | some f =>
    match f.mode with
    | .via => s
    | .table =>
      match s.lookup f.dest with
      | some m => if m = n then s else s.moveTail n m t f
      | none => s

/-- R29: the diversion of link `n`'s queued frames. -/
def State.divert (s : State) (n : LinkIx) : State :=
  (s.queuesOf n).all.foldl (fun s t => s.divertOne n t) s

/-- R30: one queued frame of the failed link `n`. -/
def State.redispatchOne (s : State) (n : LinkIx) (t : Tag) : State :=
  match s.frame t with
  | none => s
  | some f =>
    match f.mode with
    | .via => s.release t .noRoute
    | .table =>
      match s.lookup f.dest with
      | some m => s.moveTail n m t f
      | none =>
        if s.heldRoom then
          (((s.unqueue n t).setFrame t (some { f with place := .held, age := 0 })).pushHeld t).countFell n
        else s.release t .noRoute

/-- R30: the re-dispatch of link `n`'s queued frames. -/
def State.redispatch (s : State) (n : LinkIx) : State :=
  (s.queuesOf n).all.foldl (fun s t => s.redispatchOne n t) s

/-- R31: one held frame at a re-evaluation. -/
def State.reevaluateOne (s : State) (t : Tag) : State :=
  match s.frame t with
  | none => s
  | some f =>
    match s.lookup f.dest with
    | some m =>
      let budget := some (f.budget.getD (s.link m).defaultBudget)
      ((s.unhold t).setFrame t (some { f with place := .queued m, budget := budget })).pushTail m f.cls t
    | none => s

/-- R31: held re-evaluation. -/
def State.reevaluate (s : State) : State := s.pool.heldList.foldl (fun s t => s.reevaluateOne t) s

/-! ### Aging -/

/-- The maximum age of a class (R37). -/
def Pool.maxAge (p : Pool) : TrafficClass → Nat
  | .expedited => p.maxAgeExpedited
  | .interactive => p.maxAgeInteractive
  | .bulk => p.maxAgeBulk
  | .background => p.maxAgeBackground

/-- R32: the age of every entry that is not FREE rises by one. -/
def State.raisePoolAges (s : State) : State :=
  { s with pool := { s.pool with
      entries := bankMap (fun _ f => f.map fun f => { f with age := raiseAge f.age }) s.pool.entries } }

/-- R32: the entry is QUEUED or HELD with an age above its class's maximum. -/
def Pool.overAge (p : Pool) (f : Frame) : Bool := decide (p.maxAge f.cls < f.age)

/-- R32, R33: what the raised ages make due, in ascending tag order. -/
def State.agingDue (s : State) : List Consequence :=
  (List.finRange 512).filterMap fun t =>
    match s.frame t with
    | none => none
    | some f =>
      match f.place with
      | .queued _ => if s.pool.overAge f then some (.agedRelease t) else none
      | .held =>
        if s.pool.holdTimeout ≤ f.age then some (.holdTimeout t)
        else if s.pool.overAge f then some (.agedRelease t)
        else none
      | _ => none

/-- R32, R33: a QUEUED or HELD entry above its maximum age is released AGED. -/
def State.releaseAged (s : State) (t : Tag) : State :=
  match s.frame t with
  | none => s
  | some f =>
    match f.place with
    | .queued _ => if s.pool.overAge f then s.release t .aged else s
    | .held => if s.pool.overAge f then s.release t .aged else s
    | _ => s

/-- R33: a HELD entry at its hold timeout is released NO_ROUTE. -/
def State.releaseTimedOut (s : State) (t : Tag) : State :=
  match s.frame t with
  | none => s
  | some f =>
    match f.place with
    | .held => if s.pool.holdTimeout ≤ f.age then s.release t .noRoute else s
    | _ => s

end Sys2Proof.Machine
end

