-- ==== Sys2Proof/Machine/IntakeOps.lean ====
section
/-!
DEFINITION. The Local Intake (6.5), and the routing and patching it shares with the Receive Classifier (R118,
R119, R8, R9).
-/

namespace Sys2Proof.Machine

/-! ### Routing and patching -/

/-- Where a DATA frame is to go (R118, R124). -/
inductive Target where
  | link (n : LinkIx)
  | held
  | nowhere
deriving DecidableEq, Repr

/-- R118: the target of a DATA header. -/
def State.route (s : State) (h : List Byte) : Target :=
  match hdrMode h with
  | .via =>
    match s.usableLinkOf (hdrNextHop h) with
    | some n => .link n
    | none => .nowhere
  | .table =>
    match s.lookup (hdrDest h) with
    | some n => .link n
    | none => .held

/-- The admission request a header makes (R119, R124). -/
def requestOf (origin : Origin) (buffer length : Nat) (h : List Byte) : Request :=
  { origin := origin, buffer := buffer, length := length, dest := hdrDest h, cls := hdrClass h,
    mode := hdrMode h }

/-- The number of accesses the patch run of a buffer needs (R7, R114). -/
def patchLength (buffer : Nat) : Nat := (writeRun buffer (List.replicate 20 0)).length

/-- R8, R9: the header patch run is issued. -/
def State.patch (s : State) (buffer : Nat) (h : List Byte) (hopLimit : Nat) : State :=
  s.issue (writeAccesses .patch buffer (patchedHeader h hopLimit s.path.ownId))

/-! ### The ring and the tagless item -/

/-- The entry in hand has been dealt with: the intake index advances and the stage returns to IDLE (R122). -/
def State.entryDone (s : State) : State :=
  let next := s.intake.index + 1
  let size := match s.path.windows with
    | some w => w.localSize
    | none => 0
  { s with intake := { s.intake with index := if next < size then next else 0, stage := .idle } }

/-- A backlog item is tagless (R22). -/
def ReleaseItem.isTagless : ReleaseItem → Bool
  | .tagless _ _ => true
  | .entry _ => false

/-- A tagless item waits in the release backlog (R22). -/
def State.taglessWaiting (s : State) : Bool := s.pool.backlog.any ReleaseItem.isTagless

/-- An item joins the release backlog (R22). -/
def State.pushBacklog (s : State) (i : ReleaseItem) : State :=
  { s with pool := { s.pool with backlog := s.pool.backlog ++ [i] } }

/-! ### Stages -/

/-- The state with the intake stage replaced. -/
def State.setStage (s : State) (g : IntakeStage) : State := { s with intake := { s.intake with stage := g } }

/-- R126: the entry in hand is released with tag none: its item joins the backlog when the tagless place is
free; otherwise the Intake enters HANDING with the entry and what was read of its header (R122). -/
def State.releaseTagless (s : State) (e : LocalEntry) (h : List Byte) (status : ReleaseStatus) : State :=
  if s.taglessWaiting then s.setStage (.handing e h status)
  else (s.pushBacklog (.tagless e.buffer status)).entryDone

/-- R122: the local send entry is answered; its loan begins and its length is tested. -/
def State.entryAnswered (s : State) (bytes : List Byte) : State :=
  let e := readLocalEntry bytes
  if s.isQuiescing then s.releaseTagless e [] .quiesced
  else if lengthOk e.length then
    (s.setStage (.fetchingHeader e [])).issue (readAccesses .intakeHeader e.buffer 20)
  else s.releaseTagless e [] .malformed

/-- R123: a fetched local frame's header is accepted. -/
def State.localOk (s : State) (e : LocalEntry) (h : List Byte) : Bool :=
  headerOk h e.length && hdrKind h == kindData && hdrSource h == s.path.ownId && hdrHopLimit h != 0 &&
    s.identifies (hdrDest h)

/-- R123, R127: an access of the local frame's header run is answered. -/
def State.localHeaderAnswered (s : State) (bytes : List Byte) (last : Bool) : State :=
  match s.intake.stage with
  | .fetchingHeader e got =>
    if !last then s.setStage (.fetchingHeader e (got ++ bytes))
    else if s.isQuiescing then s.releaseTagless e (got ++ bytes) .quiesced
    else if s.localOk e (got ++ bytes) then s.setStage (.fetched e (got ++ bytes))
    else s.releaseTagless e (got ++ bytes) .malformed
  | _ => s

/-- R124: the entry in hand is routed and admitted, released NO_ROUTE, or left STALLED. -/
def State.admitLocal (s : State) (e : LocalEntry) (h : List Byte) : State :=
  let r := requestOf .localSend e.buffer e.length h
  match s.route h with
  | .nowhere => s.releaseTagless e h .noRoute
  | .held =>
    match s.admitHeld r with
    | some (s, _) => (s.patch e.buffer h (hdrHopLimit h)).entryDone
    | none => s.releaseTagless e h .noRoute
  | .link n =>
    match s.admitQueue r n with
    | some (s, _) => (s.patch e.buffer h (hdrHopLimit h)).entryDone
    | none => s.setStage (.stalled e h n false)

/-- R127: the entry in hand at the entry to QUIESCING. -/
def State.intakeQuiesce (s : State) : State :=
  match s.intake.stage with
  | .fetched e h => s.releaseTagless e h .quiesced
  | .stalled e h _ _ => s.releaseTagless e h .quiesced
  | _ => s

/-! ### The steps of the Intake -/

/-- R122: the IDLE Intake issues the read of the next local send entry. -/
def State.fetchEntry (s : State) : State :=
  match s.path.windows, s.intake.stage with
  | some w, .idle =>
    if s.isRunning && s.intake.index != s.intake.post && s.room 1 then
      (s.setStage .fetchingEntry).issue (readAccesses .intakeEntry (w.localBase + 16 * s.intake.index) 16)
    else s
  | _, _ => s

/-- R124: the entry in hand can be taken: an admission request is made only when the queue has room for the
patch run; a VIA frame whose next hop is not a usable link makes none. -/
def State.admissionReady (s : State) (e : LocalEntry) (h : List Byte) : Bool :=
  s.route h == .nowhere || s.room (patchLength e.buffer)

/-- R124: LOCAL_ADMISSION. -/
def State.localAdmission (s : State) : State :=
  match s.intake.stage with
  | .fetched e h => if s.isRunning && s.admissionReady e h then s.admitLocal e h else s
  | _ => s

/-- R125: a STALLED Intake that has a signal repeats R124. -/
def State.intakeRetry (s : State) : State :=
  match s.intake.stage with
  | .stalled e h _ true => if s.isRunning && s.admissionReady e h then s.admitLocal e h else s
  | _ => s

/-- R126: a HANDING Intake hands its item over when the tagless place is free. -/
def State.handOver (s : State) : State :=
  match s.intake.stage with
  | .handing e _ status =>
    if s.taglessWaiting then s else (s.pushBacklog (.tagless e.buffer status)).entryDone
  | _ => s

end Sys2Proof.Machine
end

