-- ==== Sys2Proof/Machine/LinkOps.lean ====
section
/-!
DEFINITION. The Link Table (chapter 3): entry to each state with the requests it makes, pending replies, the
outcomes of transmissions, beacons and probes, and its work at a boundary; and the recall of descriptors a cut
or a quiesce asks of the Slot Scheduler (R144).
-/

namespace Sys2Proof.Machine

/-! ### Entry to ACTIVE -/

/-- R46: the record on entry to ACTIVE from PROBING or by adoption. -/
def LinkRec.opened (l : LinkRec) : LinkRec :=
  LinkRec.recost { l with
    state := .active, estimate := 16384, rate := l.floor, pace := 0, undelivered := 0, missCount := 0,
    heard := false, climb := none, climbing := false, planPair := none, timingPair := none,
    lastDelivered := false, lastRetried := false }

/-- R46, R49, R50: link `n` enters ACTIVE from PROBING or by adoption; held frames are re-evaluated. -/
def State.enterActive (s : State) (n : LinkIx) (k : Attention) : State :=
  (s.setLink n ((s.link n).opened.attend k)).reevaluate

/-- R55: a BLOCKED link returns to ACTIVE; held frames are re-evaluated. -/
def State.unblock (s : State) (n : LinkIx) : State :=
  (s.setLink n (LinkRec.attend { s.link n with state := .active, undelivered := 0 } .unblocked)).reevaluate

/-! ### Leaving ACTIVE -/

/-- R54: link `n` enters BLOCKED. -/
def State.enterBlocked (s : State) (n : LinkIx) : State :=
  let l := s.link n
  let l := LinkRec.attend { l with state := .blocked l.blockHold,
                                   sticky := { l.sticky with blockedSeen := true } } .blocked
  (s.setLink n l.climbEnded).divert n

/-- R45: the requests of a link that enters DRAINING, SILENT or FAILED; `pool` is its pool request and
`reply` says that its pending reply is removed. -/
def State.leaveUsable (s : State) (n : LinkIx) (pool : State → State) (reply : Bool) : State :=
  let s := (pool (s.routeLinkLost n)).timingLinkLost n
  let s := s.setLink n (s.link n).climbEnded
  if reply then s.dropReply n else s

/-- R59: link `n` enters FAILED. -/
def State.enterFailed (s : State) (n : LinkIx) (reason : FailureReason) : State :=
  let s := s.setLink n { s.link n with state := .failed reason }
  let s := s.leaveUsable n (fun s => s.redispatch n) true
  s.setLink n ((s.link n).attend .failed)

/-- R62, R61: link `n` enters SILENT and its queued frames are released CUT. -/
def State.enterSilent (s : State) (n : LinkIx) : State :=
  let s := s.setLink n { s.link n with state := .silent }
  s.leaveUsable n (fun s => s.cutRelease n) true

/-- R60: link `n` enters DRAINING. -/
def State.enterDraining (s : State) (n : LinkIx) : State :=
  let s := s.setLink n { s.link n with state := .draining }
  s.leaveUsable n (fun s => s) false

/-- R61: a DRAINING link reaches the block threshold. -/
def State.drainBroken (s : State) (n : LinkIx) : State :=
  let s := s.enterSilent n
  s.setLink n ((s.link n).attend .drained)

/-! ### Recall -/

/-- R144: a record that a recall asked of `which` overwrites with SKIP. -/
def InFlight.recallable (which : InFlight → Bool) (r : InFlight) : Bool := which r && !r.fetched && !r.recalled

/-- The address of a transmit ring position. -/
def State.txAddress (s : State) (pos : Nat) : Nat :=
  match s.path.windows with
  | some w => w.txBase + 16 * pos
  | none => 16 * pos

/-- R144: the recall of the in-flight records that `which` names: each that is neither fetched nor recalled is
flagged and a SKIP write is issued at its position, the oldest record first (log entry 12). -/
def State.recall (s : State) (which : InFlight → Bool) : State :=
  let skips := (s.sched.inFlight.filter fun r => r.recallable which).map fun r =>
    Injected.write (.skip r.pos) (s.txAddress r.pos) (skipBytes r.lap)
  let table := s.sched.inFlight.map fun r => if r.recallable which then { r with recalled := true } else r
  ({ s with sched := { s.sched with inFlight := table } }).issue skips

/-! ### Outcomes -/

/-- R53: k after an UNDELIVERED outcome, saturating at 255. -/
def LinkRec.countUndelivered (l : LinkRec) : LinkRec := { l with undelivered := min 255 (l.undelivered + 1) }

/-- R53: an outcome at the Link Table, `data` for a data frame and false for an own probe or reply. -/
def State.linkOutcome (s : State) (n : LinkIx) (o : TxOutcome) (attempts : Nat) (data : Bool) : State :=
  let l := s.link n
  if !l.carrying then s
  else
    match o with
    | .delivered =>
      let s := s.setLink n (LinkRec.flagDelivered { l with undelivered := 0 } attempts)
      if l.isBlocked then s.unblock n else s
    | .undelivered =>
      let l' := l.countUndelivered.flagUndelivered attempts
      let s := s.setLink n l'
      if l'.blockThreshold ≤ l'.undelivered then
        if l.isActive then s.enterBlocked n
        else if l.state = .draining then s.drainBroken n
        else s
      else s
    | .expired => if data then s.setLink n l.flagExpired else s
    | .aborted => s

/-! ### Beacons, probes and replies received -/

/-- R134: a beacon's plan pair against the record's. -/
def LinkRec.comparePlan (l : LinkRec) (p : PlanPair) : LinkRec :=
  match l.planPair with
  | none => { l with planPair := some p }
  | some q => if q = p then l else LinkRec.attend { l with planPair := some p } .planSeen

/-- R57, R134: a beacon from link `n`'s neighbour at the Link Table. -/
def State.linkBeacon (s : State) (source : NodeId) (t : TimingPair) (p : PlanPair) : State :=
  match s.linkOf source with
  | none => s
  | some n =>
    if (s.link n).carrying then
      s.setLink n (LinkRec.comparePlan { s.link n with heard := true, missCount := 0, timingPair := some t } p)
    else s

/-- R51: a node id is added to the pending replies. -/
def State.addReply (s : State) (node : NodeId) : State :=
  let rs := s.linkTable.pendingReplies
  let rs' :=
    if rs.contains node then rs
    else if rs.length < Config.pendingReplyLimit then rs ++ [node]
    else rs.tail ++ [node]
  { s with linkTable := { s.linkTable with pendingReplies := rs' } }

/-- R49: the lowest-indexed EMPTY record. -/
def State.emptyLink (s : State) : Option LinkIx := bankFind (fun _ l => l.state == .empty) s.linkTable.links

/-- R49: a received PROBE from a node id. -/
def State.probeReceived (s : State) (source : NodeId) : State :=
  match s.linkOf source with
  | some n =>
    match (s.link n).state with
    | .probing _ => (s.enterActive n .linkUp).addReply source
    | .active => s.addReply source
    | .blocked _ => s.addReply source
    | .draining => s.addReply source
    | _ => s
  | none =>
    if s.linkTable.acceptUnsolicited then
      match s.emptyLink with
      | some n =>
        ((s.setLink n { s.link n with neighbour := some source }).enterActive n .adopted).addReply source
      | none => s
    else s

/-- R50: a received PROBE_REPLY from a node id. -/
def State.replyReceived (s : State) (source : NodeId) : State :=
  match s.linkOf source with
  | some n =>
    match (s.link n).state with
    | .probing _ => s.enterActive n .linkUp
    | _ => s
  | none => s

/-! ### The boundary at the Link Table -/

/-- R48, R56, R58: one record at a boundary: its timer is lowered, a superframe without a beacon is counted,
and the probe sent and beacon heard flags are cleared. -/
def LinkRec.atBoundary (l : LinkRec) : LinkRec :=
  let miss := if l.carrying && !l.heard then l.missCount + 1 else l.missCount
  let state := match l.state with
    | .probing t => .probing (t - 1)
    | .blocked t => .blocked (t - 1)
    | st => st
  { l with state := state, missCount := miss, heard := false, probeSent := false }

/-- R48, R56, R58: every record at a boundary. -/
def State.linksAtBoundary (s : State) : State :=
  { s with linkTable := { s.linkTable with links := bankMap (fun _ l => l.atBoundary) s.linkTable.links } }

/-- R48, R56, R58: what the boundary makes due, in order of link index. A BLOCKED link at both limits fails
once, with reason BLOCKAGE. -/
def State.linksDue (s : State) : List Consequence :=
  (List.finRange 16).filterMap fun n =>
    match (s.link n).state with
    | .probing t => if t = 0 then some (.openTimeout n) else none
    | .blocked t =>
      if t = 0 then some (.blockHoldExpiry n)
      else if s.linkTable.missLimit ≤ (s.link n).missCount then some (.beaconLoss n)
      else none
    | .active => if s.linkTable.missLimit ≤ (s.link n).missCount then some (.beaconLoss n) else none
    | .draining => if s.linkTable.missLimit ≤ (s.link n).missCount then some (.beaconLoss n) else none
    | _ => none

/-- R58: a link at its beacon miss limit fails. -/
def State.loseBeacons (s : State) (n : LinkIx) : State :=
  if (s.link n).carrying && decide (s.linkTable.missLimit ≤ (s.link n).missCount) then
    s.enterFailed n .beaconLoss
  else s

/-- R48: a PROBING link whose open timer is 0 fails. -/
def State.expireOpen (s : State) (n : LinkIx) : State :=
  match (s.link n).state with
  | .probing 0 => s.enterFailed n .openTimeout
  | _ => s

/-- R56: a BLOCKED link whose block-hold timer is 0 fails. -/
def State.expireBlock (s : State) (n : LinkIx) : State :=
  match (s.link n).state with
  | .blocked 0 => s.enterFailed n .blockage
  | _ => s

end Sys2Proof.Machine
end

