-- ==== Sys2Proof/Machine/ClassifierOps.lean ====
section
/-!
DEFINITION. The Receive Classifier (6.1 to 6.3): gathering a frame, judging it at the claim, and naming the
release of the record.
-/

namespace Sys2Proof.Machine

/-- The state with the Classifier replaced. -/
def State.setClassifier (s : State) (c : Classifier) : State := { s with classifier := c }

/-! ### Gathering -/

/-- R112, R113: a decision begins: the frame length is tested and the header read is issued. -/
def State.beginDecision (s : State) (buffer length : Nat) : State :=
  if lengthOk length then
    (s.setClassifier (.deciding buffer length (.header []))).issue
      (readAccesses .classifierHeader buffer 20)
  else s.setClassifier (.deciding buffer length (.malformed [] []))

/-- R113: the header run is answered whole: the header and beacon tests, and a beacon's body read. -/
def State.headerGathered (s : State) (buffer length : Nat) (h : List Byte) : State :=
  if headerOk h length then
    if hdrKind h = kindBeacon then
      if beaconOk h then
        (s.setClassifier (.deciding buffer length (.body h []))).issue
          (readAccesses .classifierBody (buffer + 20) (hdrPayload h))
      else s.setClassifier (.deciding buffer length (.malformed h []))
    else s.setClassifier (.deciding buffer length (.ready h []))
  else s.setClassifier (.deciding buffer length (.malformed h []))

/-- R113: an access of the header run is answered. -/
def State.headerAnswered (s : State) (bytes : List Byte) (last : Bool) : State :=
  match s.classifier with
  | .deciding buffer length (.header got) =>
    if last then s.headerGathered buffer length (got ++ bytes)
    else s.setClassifier (.deciding buffer length (.header (got ++ bytes)))
  | _ => s

/-- R113, R6: an access of the body run is answered; the last one lets the entry count be checked. -/
def State.bodyAnswered (s : State) (bytes : List Byte) (last : Bool) : State :=
  match s.classifier with
  | .deciding buffer length (.body h got) =>
    if last then
      if bodyOk h (got ++ bytes) then s.setClassifier (.deciding buffer length (.ready h (got ++ bytes)))
      else s.setClassifier (.deciding buffer length (.malformed h (got ++ bytes)))
    else s.setClassifier (.deciding buffer length (.body h (got ++ bytes)))
  | _ => s

/-! ### Judging -/

/-- The sighting a beacon gives (R155): the body's fields and the receive time of the held record. -/
def sightingOf (record body : List Byte) : Sighting :=
  { depth := bodyDepth body, holdover := bodyHoldover body, superframe := bodySuperframe body,
    offset := bodyOffset body, receiveSuperframe := rxSuperframe record, receiveOffset := rxOffset record }

/-- R93, R101: the Route Table takes a beacon's entries when its source names a usable link. -/
def State.learnBeacon (s : State) (source : NodeId) (entries : List Advert) : State :=
  match s.usableLinkOf source with
  | none => s
  | some n =>
    let r := RouteTable.learnAll s.path.ownId n (s.link n).cost entries (s.routes, false)
    let s := { s with routes := r.1 }
    if r.2 then s.reevaluate else s

/-- R116: a BEACON is handed to the Link Table, the Route Table and the Timing Unit. -/
def State.takeBeacon (s : State) (record h b : List Byte) : State :=
  let source := hdrSource h
  if s.identifies source then
    let s := s.linkBeacon source ⟨bodyDepth b, bodyHoldover b⟩ ⟨bodyGeneration b, bodyAnnounce b⟩
    let s := s.learnBeacon source (bodyEntries b)
    s.timingBeacon source (sightingOf record b)
  else s

/-- R2, R116: a PROBE or PROBE_REPLY comes from a neighbour and is addressed to this node. -/
def State.addressed (s : State) (h : List Byte) : Bool :=
  s.identifies (hdrSource h) && (hdrDest h == s.path.ownId || hdrDest h == nodeAll)

/-- R119: the admission of a received DATA frame that has a target, or none in TABLE mode. A grant issues the
header patch. -/
def State.admitForward (s : State) (buffer length : Nat) (h : List Byte) : State × Verdict :=
  let r := requestOf .forward buffer length h
  match s.route h with
  | .nowhere => (s, .discarded .noRoute)
  | .held =>
    match s.admitHeld r with
    | some (s, t) => (s.patch buffer h (hdrHopLimit h - 1), .forwarded t)
    | none => (s, .discarded .noRoute)
  | .link n =>
    match s.admitQueue r n with
    | some (s, t) => (s.patch buffer h (hdrHopLimit h - 1), .forwarded t)
    | none => (s, .discarded .congested)

/-- R117: a DATA frame, by the first test that applies. -/
def State.judgeData (s : State) (buffer length : Nat) (h : List Byte) : State × Verdict :=
  if hdrDest h = s.path.ownId ∨ hdrDest h = nodeAll then (s, .delivered)
  else if hdrSource h = s.path.ownId then (s, .discarded .loop)
  else if s.usableLinkOf (hdrLastHop h) = none then (s, .discarded .unknownSender)
  else if hdrHopLimit h ≤ 1 then (s, .discarded .hopLimit)
  else if hdrDest h = nodeNone then (s, .discarded .noRoute)
  else s.admitForward buffer length h

/-- R116: a gathered frame is judged by its kind, `record` being the held record. -/
def State.judge (s : State) (record : List Byte) (buffer length : Nat) (h b : List Byte) : State × Verdict :=
  if hdrKind h = kindBeacon then (s.takeBeacon record h b, .consumed)
  else if hdrKind h = kindProbe then
    (if s.addressed h then s.probeReceived (hdrSource h) else s, .consumed)
  else if hdrKind h = kindReply then
    (if s.addressed h then s.replyReceived (hdrSource h) else s, .consumed)
  else s.judgeData buffer length h

/-- R120, R167: the claim names the release: unchanged, or a rewrite that is issued with it. The Classifier
returns to IDLE. -/
def State.nameRelease (s : State) (addr : Nat) (record : List Byte) (v : Verdict) : State :=
  let s := s.setClassifier .idle
  match v with
  | .delivered => s.setSlot (.claimed addr record false)
  | v =>
    (s.setSlot (.claimed addr record true)).issue [.write .rewrite addr (rewrittenRecord record v)]

/-- R114: the injection queue has room for the longest outcome of a decision: the patch run of its buffer and
the rewritten record. -/
def State.claimRoom (s : State) (buffer : Nat) : Bool := s.room (patchLength buffer + 1)

/-- R114: the claim, taken while the timer runs: a timer at 0 is an expiry, and a claim asked for afterwards is
refused (R167). A decision that gathers still, or that lacks room, does not ask for it. -/
def State.claim (s : State) : State :=
  match s.path.slot, s.classifier with
  | .deciding a d (_ + 1), .deciding buffer length g =>
    if s.claimRoom buffer then
      match g with
      | .malformed _ _ => s.nameRelease a d (.discarded .malformed)
      | .ready h b =>
        let (s, v) := s.judge d buffer length h b
        let s := s.nameRelease a d v
        { s with work := s.outlierDue.map Work.due }
      | _ => s
    else s
  | _, _ => s

end Sys2Proof.Machine
end

