-- ==== Sys2Proof/Machine/SchedOps.lean ====
section
/-!
DEFINITION. The Slot Scheduler (chapter 7, and 1.6 for own frames): plan contexts, descriptors, own frames,
bursts, the action of a slot, and the switch stage at a boundary.
-/

namespace Sys2Proof.Machine

/-! ### Plan contexts -/

/-- The contents of a plan context. -/
def Scheduler.plan (d : Scheduler) : PlanContext → Plan
  | .a => d.planA
  | .b => d.planB

/-- The scheduler with a plan context's contents replaced. -/
def Scheduler.setPlan (d : Scheduler) (c : PlanContext) (p : Plan) : Scheduler :=
  match c with
  | .a => { d with planA := p }
  | .b => { d with planB := p }

/-- The active plan. -/
def Scheduler.activePlan (d : Scheduler) : Plan := d.plan d.active

/-- The pending context, present while the stage is not NONE (R129). -/
def SwitchStage.pending : SwitchStage → Option PlanContext
  | SwitchStage.none => Option.none
  | .accepted c => some c
  | .announced c => some c

/-- A plan is valid when it holds exactly one BEACON entry (R129). -/
def Plan.valid (p : Plan) : Bool := p.slots.toList.countP (fun e => e == .beacon) == 1

/-- The plan generation and announce flag own beacons carry (R12). -/
def Scheduler.announcement (d : Scheduler) : Byte × Bool :=
  match d.stage with
  | .announced c => ((d.plan c).generation, true)
  | _ => (d.activePlan.generation, false)

/-! ### Descriptors -/

/-- The slot start of slot `j`, in µs after the superframe's boundary (R128). -/
def State.slotTime (s : State) (j : Nat) : Nat := j * s.slotLength

/-- The producer index and lap after a descriptor is written (R142). -/
def Scheduler.advanceProducer (d : Scheduler) : Scheduler :=
  if d.producer + 1 < d.ringSize.getD 0 then { d with producer := d.producer + 1 }
  else { d with producer := 0, lap := !d.lap }

/-- The scheduler with a new in-flight record at the producer index, which then advances (R142). -/
def Scheduler.record (d : Scheduler) (carried : Carried) : Scheduler :=
  let r : InFlight := { pos := d.producer, carried := carried, lap := d.lap, fetched := false, recalled := false }
  Scheduler.advanceProducer { d with inFlight := d.inFlight ++ [r] }

/-- R137, R140, R142: one descriptor at the next free ring position, launched 10 µs after the slot start, and
its in-flight record. `budget` is the airtime it must end within. -/
def State.writeDescriptor (s : State) (j budget rate attempts buffer length : Nat) (dest : NodeId)
    (carried : Carried) : State :=
  let d : Descriptor :=
    { lap := s.sched.lap, rate := rate, attempts := attempts, launchSuperframe := s.timing.number,
      buffer := buffer, length := length, dest := dest, launch := s.slotTime j + Config.guardTime,
      deadline := s.slotTime j + Config.guardTime + budget - airtime rate length }
  let pos := s.sched.producer
  ({ s with sched := s.sched.record carried }).issue
    [.write (.descriptor pos) (s.txAddress pos) (descriptorBytes d)]

/-! ### Own frames -/

/-- The offset of an own-frame buffer in the frame area (Table 1-5). -/
def bufferOffset (b : BufIx) : Nat :=
  if b.val < 2 then 512 * b.val
  else if b.val < 18 then 1024 + 64 * (b.val - 2)
  else 2048 + 64 * (b.val - 18)

/-- The address of an own-frame buffer. -/
def State.bufferAddress (s : State) (b : BufIx) : Nat :=
  (match s.path.windows with
    | some w => w.frameBase
    | none => 0) + bufferOffset b

/-- An own-frame buffer is free (R10). -/
def State.bufferFree (s : State) (b : BufIx) : Bool := (bankGet s.sched.buffers b).isNone

/-- Probe buffer `n` (Table 1-5). -/
def probeBuffer (n : LinkIx) : BufIx := ⟨2 + n.val, by omega⟩

/-- The lowest-numbered free reply buffer (R14). -/
def State.freeReplyBuffer (s : State) : Option BufIx :=
  bankFind (fun b r => decide (18 ≤ b.val) && r.isNone) s.sched.buffers

/-- R11: an own frame is written into its buffer, its descriptor follows, and the buffer is busy with the
descriptor's ring position. -/
def State.sendOwn (s : State) (j rate attempts : Nat) (b : BufIx) (frame : List Byte) (dest : NodeId)
    (carried : Carried) : State :=
  let addr := s.bufferAddress b
  let pos := s.sched.producer
  let s := s.issue (writeAccesses .ownFrame addr frame)
  let s := s.writeDescriptor j s.slotBudget rate attempts addr frame.length dest carried
  { s with sched := { s.sched with buffers := bankPut s.sched.buffers b (some pos) } }

/-- R12: r_b, the lowest rate at which a beacon fits the slot budget. -/
def beaconRate (budget length : Nat) : Nat :=
  ((List.range 8).find? fun r => decide (airtime r length ≤ budget)).getD 7

/-- R12: the body of a beacon launched in slot `j`. -/
def State.beaconBody (s : State) (j : Nat) (adverts : List Advert) : List Byte :=
  let (generation, announce) := s.sched.announcement
  wordBytes s.timing.number ++ natHalf (s.slotTime j + Config.guardTime) ++
    [toByte (s.timing.state.depth % 16 + 16 * bit s.timing.state.holdoverFlag), generation,
     toByte (bit announce), toByte adverts.length] ++ adverts.flatMap advertBytes

/-- The beacon buffer the next beacon goes to (R10). -/
def Scheduler.beaconBuffer (d : Scheduler) : BufIx := if d.nextBeacon then 1 else 0

/-- R12, R106: the BEACON slot `j`, with the POISONED entries whose count the beacon brings to 0. -/
def State.beaconSlot (s : State) (j : Nat) : State × List Consequence :=
  let b := s.sched.beaconBuffer
  if s.bufferFree b && s.ringFree then
    let adverts := s.routes.adverts s.path.ownId
    let body := s.beaconBody j adverts
    let frame := ownHeader kindBeacon s.path.ownId nodeAll body.length ++ body
    let due := s.routes.poisonDue
    let s := { s with routes := s.routes.afterBeacon }
    let s := s.sendOwn j (beaconRate s.slotBudget frame.length) 1 b frame nodeAll (.beacon b)
    ({ s with sched := { s.sched with nextBeacon := !s.sched.nextBeacon } }, due)
  else (s, [])

/-- The neighbour node id of link `n`; 0x0000 in EMPTY. -/
def LinkRec.node (l : LinkRec) : NodeId := l.neighbour.getD nodeNone

/-- R13: a probe for link `n` can be written. -/
def State.canProbe (s : State) (n : LinkIx) : Bool := s.bufferFree (probeBuffer n) && s.ringFree

/-- R13: a probe to the neighbour of link `n`. -/
def State.sendProbe (s : State) (j : Nat) (n : LinkIx) : State :=
  let l := s.link n
  s.sendOwn j l.floor l.attempts (probeBuffer n) (ownHeader kindProbe s.path.ownId l.node 0) l.node
    (.probe (probeBuffer n) n l.node)

/-- R14: a reply to `node`, which link `n` holds, from reply buffer `b`. -/
def State.sendReply (s : State) (j : Nat) (n : LinkIx) (node : NodeId) (b : BufIx) : State :=
  let l := s.link n
  s.sendOwn j l.floor l.attempts b (ownHeader kindReply s.path.ownId node 0) node (.reply b n node)

/-- The state with the oldest pending reply removed (R51). -/
def State.popReply (s : State) : State :=
  { s with linkTable := { s.linkTable with pendingReplies := s.linkTable.pendingReplies.tail } }

/-- R136, step 1: the oldest pending reply is served. The flag says that the slot is done. -/
def State.serveReply (s : State) (j : Nat) : State × Bool :=
  match s.linkTable.pendingReplies with
  | [] => (s, false)
  | node :: _ =>
    match s.linkOf node with
    | none => (s.popReply, false)
    | some n =>
      match s.freeReplyBuffer with
      | none => (s, false)
      | some b => if s.ringFree then ((s.sendReply j n node b).popReply, true) else (s, false)

/-- The links from the one after the probe rotation pointer on, once round (R136). -/
def Scheduler.probeOrder (d : Scheduler) : List LinkIx :=
  (List.range 16).map fun i => Fin.ofNat 16 (d.probePointer.val + 1 + i)

/-- R136, step 2: the link that gets the slot's probe. -/
def State.probeCandidate (s : State) : Option LinkIx :=
  s.sched.probeOrder.find? fun n =>
    (match (s.link n).state with
      | .probing _ => true
      | _ => false) && !(s.link n).probeSent && s.canProbe n

/-- R136: a SHARED slot. -/
def State.sharedSlot (s : State) (j : Nat) : State :=
  let (s, done) := s.serveReply j
  if done then s
  else
    match s.probeCandidate with
    | none => s
    | some n =>
      let s := s.sendProbe j n
      let s := s.setLink n { s.link n with probeSent := true }
      { s with sched := { s.sched with probePointer := n } }

/-! ### Bursts -/

/-- What stays the same throughout a burst (R139): the slot, the link, its rate at the slot start and the
burst's budget. -/
structure BurstPlan where
  slot : Nat
  link : LinkIx
  rate : Nat
  budget : Nat
deriving DecidableEq, Repr

/-- The airtime of a tag's frame at a rate (R138). -/
def State.frameAirtime (s : State) (rate : Nat) (t : Tag) : Nat :=
  match s.frame t with
  | some f => airtime rate f.length
  | none => 0

/-- R138: a burst in slot `j` of link `n` is extended over the IDLE slot that follows. -/
def State.extends (s : State) (j : Nat) (n : LinkIx) : Bool :=
  match (s.queuesOf n).all, index? 64 (j + 1) with
  | t :: _, some next =>
    let air := s.frameAirtime (s.link n).rate t
    bankGet s.sched.activePlan.slots next == .idle && decide (s.slotBudget < air) &&
      decide (air ≤ s.slotBudget + s.slotLength)
  | _, _ => false

/-- R138: the budget of a burst in slot `j` of link `n`. -/
def State.burstBudget (s : State) (j : Nat) (n : LinkIx) : Nat :=
  if s.extends j n then s.slotBudget + s.slotLength else s.slotBudget

/-- R140: a frame is taken for a burst: its descriptor, its in-flight record and its move (R25). -/
def State.takeFrame (s : State) (p : BurstPlan) (t : Tag) (f : Frame) : State :=
  let l := s.link p.link
  let pos := s.sched.producer
  (s.writeDescriptor p.slot p.budget p.rate l.attempts f.buffer f.length l.node
    (.data t p.link)).takeToRing p.link t f pos

/-- A head frame fits what is left of the budget and the ring has a free position (R139). -/
def State.fits (s : State) (p : BurstPlan) (f : Frame) (left : Nat) : Bool :=
  decide (airtime p.rate f.length ≤ left) && s.ringFree

/-- R139, phase 1: frames are taken from the head of one class while they fit. -/
def State.takeClass (p : BurstPlan) : List Tag → State × Nat → State × Nat
  | [], r => r
  | t :: ts, (s, left) =>
    match s.frame t with
    | none => (s, left)
    | some f =>
      if s.fits p f left then State.takeClass p ts (s.takeFrame p t f, left - airtime p.rate f.length)
      else (s, left)

/-- The head of a queue with its frame, when it fits. -/
def State.fittingHead (s : State) (p : BurstPlan) (left : Nat) : List Tag → Option (Tag × Frame)
  | [] => none
  | t :: _ =>
    match s.frame t with
    | some f => if s.fits p f left then some (t, f) else none
    | none => none

/-- A frame is taken in phase 2, after which the interleave counter rises, wrapping from 3 to 0 (R139). -/
def State.takeInterleaved (s : State) (p : BurstPlan) (t : Tag) (f : Frame) : State :=
  let s := s.takeFrame p t f
  s.setLink p.link { s.link p.link with interleave := ((s.link p.link).interleave + 1) % 4 }

/-- R139, phase 2: BULK and BACKGROUND interleaved, BACKGROUND preferred at counter 3. `fuel` is the number of
frames in the two queues. -/
def State.takeShared (p : BurstPlan) : Nat → State → Nat → State
  | 0, s, _ => s
  | fuel + 1, s, left =>
    let q := s.queuesOf p.link
    let order := if (s.link p.link).interleave = 3 then [q.background, q.bulk] else [q.bulk, q.background]
    match order.findSome? (s.fittingHead p left) with
    | some (t, f) => State.takeShared p fuel (s.takeInterleaved p t f) (left - airtime p.rate f.length)
    | none => s

/-- R138, R139: the burst of slot `j` for link `n`. -/
def State.burst (s : State) (j : Nat) (n : LinkIx) : State :=
  let p : BurstPlan := { slot := j, link := n, rate := (s.link n).rate, budget := s.burstBudget j n }
  let q := s.queuesOf n
  let (s, left) := State.takeClass p q.interactive (State.takeClass p q.expedited (s, p.budget))
  State.takeShared p (q.bulk.length + q.background.length) s left

/-! ### The action of a slot -/

/-- R135: a TX slot. -/
def State.txSlot (s : State) (j : Nat) (n : LinkIx) : State :=
  match (s.link n).state with
  | .active => s.burst j n
  | .draining => s.burst j n
  | .blocked _ => if s.canProbe n then s.sendProbe j n else s
  | _ => s

/-- R135: the start of slot `j`, with the consequences it makes due. Nothing is written unless RUNNING. -/
def State.slotAction (s : State) (j : SlotIx) : State × List Consequence :=
  if s.isRunning then
    match bankGet s.sched.activePlan.slots j with
    | .beacon => s.beaconSlot j.val
    | .shared => (s.sharedSlot j.val, [])
    | .tx n => (s.txSlot j.val n, [])
    | .idle => (s, [])
  else (s, [])

/-! ### The switch stage -/

/-- R132: the switch stage at a boundary. -/
def State.advanceStage (s : State) : State :=
  match s.sched.stage with
  | .none => s
  | .accepted c => { s with sched := { s.sched with stage := .announced c } }
  | .announced c =>
    { s with
      sched := { s.sched with stage := .none, active := c }
      reports := { s.reports with
        planLatch := some ⟨c, (s.sched.plan c).generation, s.timing.number⟩ } }

end Sys2Proof.Machine
end

