-- ==== Sys2Proof/Machine/CompletionOps.lean ====
section
/-!
DEFINITION. The Completion Unit (7.6) and the quiesce limit (R145): matching a record, handling its outcome,
retiring the in-flight record.
-/

namespace Sys2Proof.Machine

/-- R146: the in-flight record a completion record matches. -/
def State.matched (s : State) (c : CompletionItem) : Option InFlight :=
  if c.pos = s.completion.consumer ∧ txcIndex c.record = c.pos then
    match s.inFlightAt c.pos with
    | some r => if r.lap = txcLap c.record then some r else none
    | none => none
  else none

/-- R147: the outcome of a probe or reply of link `n` sent while it held `node`. -/
def State.ownOutcome (s : State) (n : LinkIx) (node : NodeId) (o : TxOutcome) (attempts : Nat) : State :=
  if s.isQuiescing || !(s.link n).holds node || !(s.link n).carrying then s
  else (s.setLink n ((s.link n).measureOwn o attempts)).linkOutcome n o attempts false

/-- A release asked for by a completion: only an IN_RING or FETCHED entry takes it (R17). -/
def State.releaseInFlight (s : State) (t : Tag) (status : ReleaseStatus) : State :=
  match s.frame t with
  | some f => if f.inFlight then s.release t status else s
  | none => s

/-- R74, R148: the outcome of a data frame of a link in ACTIVE, BLOCKED or DRAINING: the Metric Unit, then the
Link Table, then the Frame Pool. -/
def State.carriedOutcome (s : State) (t : Tag) (n : LinkIx) (o : TxOutcome) (attempts : Nat) : State :=
  let s := s.setLink n ((s.link n).measureData o attempts)
  let s := s.linkOutcome n o attempts true
  match o with
  | .delivered => s.releaseInFlight t .sent
  | .undelivered => s.requeue t
  | .expired => s.expiryReturn t
  | .aborted => s.releaseInFlight t .cut

/-- R148: the outcome of a data frame, by the state of its link when the record is taken. -/
def State.dataOutcome (s : State) (t : Tag) (n : LinkIx) (o : TxOutcome) (attempts : Nat) : State :=
  if s.isQuiescing then s.releaseInFlight t (if o = .delivered then .sent else .quiesced)
  else
    match (s.link n).state, o with
    | .active, o => s.carriedOutcome t n o attempts
    | .blocked _, o => s.carriedOutcome t n o attempts
    | .draining, o => s.carriedOutcome t n o attempts
    | _, .delivered => s.releaseInFlight t .sent
    | _, .aborted => s.releaseInFlight t .cut
    | .silent, _ => s.releaseInFlight t .cut
    | _, .undelivered => s.requeue t
    | _, .expired => s.expiryReturn t

/-- R147, R148: the handling of a matched record. -/
def State.handleOutcome (s : State) (r : InFlight) (o : TxOutcome) (attempts : Nat) : State :=
  match r.carried with
  | .data t n => s.dataOutcome t n o attempts
  | .beacon _ => s
  | .probe _ n node => s.ownOutcome n node o attempts
  | .reply _ n node => s.ownOutcome n node o attempts

/-- The link a descriptor carries a frame of. -/
def Carried.link? : Carried → Option LinkIx
  | .data _ n => some n
  | .beacon _ => none
  | .probe _ n _ => some n
  | .reply _ n _ => some n

/-- The own-frame buffer a descriptor names. -/
def Carried.buffer? : Carried → Option BufIx
  | .data _ _ => none
  | .beacon b => some b
  | .probe b _ _ => some b
  | .reply b _ _ => some b

/-- R15: the own-frame buffer a descriptor names becomes free. -/
def Scheduler.freeBuffer (d : Scheduler) (c : Carried) : Scheduler :=
  match c.buffer? with
  | some b => { d with buffers := bankPut d.buffers b none }
  | none => d

/-- R146, R15, R170: the in-flight record leaves the table, its buffer becomes free, the consumer index
advances and the position's fetch mark returns to NONE. -/
def State.retire (s : State) (r : InFlight) : State :=
  let next := s.completion.consumer + 1
  let s := { s with
    sched := Scheduler.freeBuffer { s.sched with inFlight := s.sched.inFlight.filter fun x => x.pos != r.pos }
      r.carried
    completion := { s.completion with consumer := if next < s.sched.ringSize.getD 0 then next else 0 } }
  s.setMark r.pos .none

/-- R61: the drain test at the end of the handling of a completion on a link. -/
def State.drainAfter (s : State) (c : Carried) : State :=
  match c.link? with
  | some n => s.drainTest n
  | none => s

/-- R146: the head of the completion queue is taken; a record that does not match is ignored. -/
def State.takeCompletion (s : State) : State :=
  match s.completion.queue with
  | [] => s
  | c :: cs =>
    let s := { s with completion := { s.completion with queue := cs } }
    match s.matched c with
    | none => s
    | some r =>
      ((s.handleOutcome r (txcOutcome c.record) (txcAttempts c.record)).retire r).drainAfter r.carried

/-! ### The quiesce limit -/

/-- The tag an in-flight record carries. -/
def InFlight.tag? (r : InFlight) : Option Tag :=
  match r.carried with
  | .data t _ => some t
  | _ => none

/-- The tags in flight, in ascending order (R40). -/
def State.tagsInFlight (s : State) : List Tag :=
  (List.finRange 512).filter fun t => s.sched.inFlight.any fun r => r.tag? == some t

/-- R145, R190: every record still in flight is given up. -/
def State.giveUp (s : State) : State :=
  let gone := s.sched.inFlight
  let s := s.tagsInFlight.foldl (fun s t => s.releaseInFlight t .abandoned) s
  let s := gone.foldl (fun s r => s.setMark r.pos .none) s
  { s with
    sched := gone.foldl (fun d r => d.freeBuffer r.carried) { s.sched with inFlight := [] }
    completion := { s.completion with consumer := s.sched.producer } }

end Sys2Proof.Machine
end

