-- ==== Sys2Proof/Machine/Boundary.lean ====
section
/-!
DEFINITION. Superframe boundaries and their consequences (R151): how each block takes a boundary, and the list
of work that an event leaves to the rows that carry its consequences out (log entry 8).
-/

namespace Sys2Proof.Machine

/-! ### The blocks at a boundary -/

/-- R32, R33, R40: the Frame Pool at a boundary. While QUIESCING ages rise and nothing is released. -/
def State.poolBoundary (s : State) : State × List Consequence :=
  let s := s.raisePoolAges
  (s, if s.isRunning then s.agingDue else [])

/-- R48, R56, R58, R69: the Link Table at a boundary. While QUIESCING it takes no action. -/
def State.linkBoundary (s : State) : State × List Consequence :=
  if s.isRunning then
    let s := s.linksAtBoundary
    (s, s.linksDue)
  else (s, [])

/-- R105: the own sequence is due. -/
def RouteTable.sequenceDue (rt : RouteTable) : List Consequence :=
  if Config.sequencePeriod ≤ rt.boundaryCount then [.ownSequenceAdvance] else []

/-- R102, R105, R111: the Route Table at a boundary. While QUIESCING only the boundary count rises. -/
def State.routeBoundary (s : State) : State × List Consequence :=
  if s.isRunning then
    let aging := s.routes.agingDue
    let rt := s.routes.raiseAges.countBoundary
    ({ s with routes := rt }, aging ++ rt.sequenceDue)
  else
    let rt := s.routes.countBoundary
    ({ s with routes := rt }, rt.sequenceDue)

/-- R128, R132: the Slot Scheduler at a boundary moves the switch stage and then treats slot 0. While QUIESCING
it does neither. -/
def State.schedulerBoundary (s : State) : State × List Consequence :=
  if s.isRunning then s.advanceStage.slotAction 0 else (s, [])

/-- R190: the engine at a boundary: the quiesce count rises up to 64, and the limit is due when this boundary
brings it there with descriptors in flight. -/
def State.engineBoundary (s : State) : State × List Consequence :=
  match s.path.engine with
  | .quiescing m c =>
    let c' := min Config.quiesceLimit (c + 1)
    ({ s with path := { s.path with engine := .quiescing m c' } },
      if c < Config.quiesceLimit ∧ c' = Config.quiesceLimit ∧ s.sched.inFlight ≠ [] then [.quiesceLimit]
      else [])
  | _ => (s, [])

/-- A block takes the boundary. -/
def State.takeBoundary (s : State) : Block → State × List Consequence
  | .framePool => s.poolBoundary
  | .linkTable => s.linkBoundary
  | .routeTable => s.routeBoundary
  | .slotScheduler => s.schedulerBoundary
  | .engine => s.engineBoundary

/-- The order in which the blocks take a boundary: as given, each once, with those not named at the end. -/
def boundaryOrder (order : List Block) : List Block :=
  let given := order.foldl (fun bs b => if bs.contains b then bs else bs ++ [b]) []
  given ++ [Block.framePool, .linkTable, .routeTable, .slotScheduler, .engine].filter fun b =>
    !given.contains b

/-! ### Consequences -/

/-- A consequence is carried out. -/
def State.perform (s : State) : Consequence → State
  | .agedRelease t => s.releaseAged t
  | .holdTimeout t => s.releaseTimedOut t
  | .beaconLoss n => s.loseBeacons n
  | .openTimeout n => s.expireOpen n
  | .blockHoldExpiry n => s.expireBlock n
  | .routeStale p => { s with routes := s.routes.turnStale p }
  | .routeAgePoison p => { s with routes := s.routes.agePoison p }
  | .ownSequenceAdvance => { s with routes := s.routes.advanceSequence }
  | .silenceLimit => s.enterHoldover
  | .holdoverTimeout => s.endHoldover
  | .poisonCountExpiry p => { s with routes := s.routes.freePoisoned p }
  | .quiesceLimit => s.giveUp
  | .outlierLimit => s.giveUpParent

/-- The work left is taken up to its first consequence, which waits for its own row. -/
def State.advance : List Work → State → State
  | [], s => { s with work := [] }
  | .due c :: ws, s => { s with work := .due c :: ws }
  | .take b :: ws, s =>
    match s.takeBoundary b with
    | (s, []) => State.advance ws s
    | (s, c :: cs) => { s with work := .due c :: (cs.map Work.due ++ ws) }

/-- All the work left is carried out, in order. -/
def State.finish : List Work → State → State
  | [], s => { s with work := [] }
  | .due c :: ws, s => State.finish ws (s.perform c)
  | .take b :: ws, s =>
    let r := s.takeBoundary b
    State.finish ws (r.2.foldl State.perform r.1)

/-- The work an event has left is carried out. -/
def State.finishWork (s : State) : State := State.finish s.work s

/-- The consequence at the head of the work, if it is of the kind asked for, is carried out, and the work goes
on up to the next one. -/
def State.resolve (s : State) (kind : Consequence → Bool) : State :=
  match s.work with
  | .due c :: ws => if kind c then State.advance ws (s.perform c) else s
  | _ => s

/-! ### The boundary -/

/-- R151: the boundary that ends the superframe: the Timing Unit's own work, and then the blocks in the given
order. Brought before the superframe's end, it lets the time up to that end pass and starts none of the slots
in between (DESIGN CHOICE, log entry 34). -/
def State.boundary (s : State) (order : List Block) : State :=
  let s := ((s.newSuperframe (max s.timing.timebase s.superframeEnd)).applyPendingRoot).countSilence
  State.advance (s.silenceDue.map Work.due ++ (boundaryOrder order).map Work.take) s

/-! ### Slot starts -/

/-- R151, R135: the next slot of the superframe starts, when it does so before the superframe ends. -/
def State.startSlot (s : State) : State :=
  match index? 64 s.timing.nextSlot with
  | none => s
  | some j =>
    if s.isUnanchored || decide (s.superframeEnd ≤ s.slotTime j.val) then s
    else
      let s := s.elapse (s.slotTime j.val - s.timing.timebase)
      let s := { s with timing := { s.timing with nextSlot := j.val + 1 } }
      let r := s.slotAction j
      { r.1 with work := r.2.map Work.due }

/-! ### The hold budget -/

/-- R115: the hold budget runs out: what is left of it passes, which releases the held write unchanged. -/
def State.expireBudget (s : State) : State :=
  match s.path.slot with
  | .deciding _ _ t => s.elapse t
  | _ => s

end Sys2Proof.Machine
end

