-- ==== Sys2Proof/Decode.lean ====
section
/-!
DEFINITION. Reading a software command from its 32-byte record (Tables 12-7 and 12-8), the encoder of such a
record, and the host's `decodeTableWord`.

No row of spec/opcode_table.json gives bits ("fields" is empty in each and none has a "fixed" part), so no
word spells a command: `decodeTableWord` answers none on every word (log entry 2).
-/

namespace Sys2Proof

open Machine

/-- The command a table word spells: none, since no row of the table gives bits (log entry 2). -/
def decodeTableWord (_nbits _w : Nat) : Option Instr := none

/-- The codes of Table 12-8. -/
def commandCodes : List Byte :=
  [0x00, 0x10, 0x11, 0x12, 0x13, 0x14, 0x15, 0x16, 0x20, 0x21, 0x22, 0x30, 0x31, 0x32, 0x40, 0x50]

/-- The LINK_TUNE values at their places (Table 12-8). -/
def decodeTune (r : List Byte) : TuneValues :=
  { floor := byteAt r 8, ceiling := byteAt r 9, attempts := byteAt r 10, budget := byteAt r 11,
    weight := byteAt r 12, upStep := byteAt r 13, downStep := byteAt r 14,
    blockThreshold := byteAt r 15, blockHold := byteAt r 16, queueCap := half r 18 }

/-- The 16 slot entry bytes of PLAN_WRITE, offsets 8 to 23 (Table 12-8). -/
def decodeSlots (r : List Byte) : List Byte :=
  [byteAt r 8, byteAt r 9, byteAt r 10, byteAt r 11, byteAt r 12, byteAt r 13, byteAt r 14, byteAt r 15,
   byteAt r 16, byteAt r 17, byteAt r 18, byteAt r 19, byteAt r 20, byteAt r 21, byteAt r 22, byteAt r 23]

/-- The command a 32-byte command record holds (Tables 12-7, 12-8). A code that names nothing gives
`unknownCommand` (R179), whose arguments are not read. -/
def decodeCommand (r : List Byte) : Instr :=
  let code := byteAt r 0
  let seq := half r 2
  if code = 0x00 then .nop seq
  else if code = 0x10 then
    .linkOpen seq (byteAt r 4) (half r 6) (byteAt r 8) (byteAt r 9) (byteAt r 10)
  else if code = 0x11 then .linkTune seq (byteAt r 4) (half r 6) (decodeTune r)
  else if code = 0x12 then .linkDrain seq (byteAt r 4)
  else if code = 0x13 then .linkCut seq (byteAt r 4)
  else if code = 0x14 then .linkClear seq (byteAt r 4)
  else if code = 0x15 then .linkQuery seq (byteAt r 4)
  else if code = 0x16 then .linkClimb seq (byteAt r 4) (byteAt r 5)
  else if code = 0x20 then .routePin seq (half r 4) (byteAt r 6) (half r 8)
  else if code = 0x21 then .routeUnpin seq (half r 4)
  else if code = 0x22 then .routeQuery seq (byteAt r 4) (half r 6)
  else if code = 0x30 then .planWrite seq (byteAt r 4) (byteAt r 5) (byteAt r 6) (decodeSlots r)
  else if code = 0x31 then .planSwitch seq (byteAt r 4)
  else if code = 0x32 then .planCancel seq
  else if code = 0x40 then .timingSet seq (byteAt r 4) (byteAt r 5)
  else if code = 0x50 then .engineReset seq (byteAt r 4)
  else .unknownCommand code seq

/-- A command record: its code, a reserved byte 0, its sequence, its arguments, and zeros up to 32 bytes
(Table 12-7; reserved bytes are 0 as R193 has the part write them). -/
def commandRecord (code : Byte) (seq : BitVec 16) (args : List Byte) : List Byte :=
  [code, 0] ++ halfBytes seq ++ args ++ List.replicate (28 - args.length) 0

/-- The 32-byte record of a software command; none for a row that is no software command. -/
def encodeCommand : Instr → Option (List Byte)
  | .nop seq => some (commandRecord 0x00 seq [])
  | .unknownCommand code seq => some (commandRecord code seq [])
  | .linkOpen seq link node floor ceiling attempts =>
    some (commandRecord 0x10 seq ([link, 0] ++ halfBytes node ++ [floor, ceiling, attempts]))
  | .linkTune seq link selection v =>
    some (commandRecord 0x11 seq ([link, 0] ++ halfBytes selection ++
      [v.floor, v.ceiling, v.attempts, v.budget, v.weight, v.upStep, v.downStep, v.blockThreshold,
       v.blockHold, 0] ++ halfBytes v.queueCap))
  | .linkDrain seq link => some (commandRecord 0x12 seq [link])
  | .linkCut seq link => some (commandRecord 0x13 seq [link])
  | .linkClear seq link => some (commandRecord 0x14 seq [link])
  | .linkQuery seq link => some (commandRecord 0x15 seq [link])
  | .linkClimb seq link act => some (commandRecord 0x16 seq [link, act])
  | .routePin seq dest link metric =>
    some (commandRecord 0x20 seq (halfBytes dest ++ [link, 0] ++ halfBytes metric))
  | .routeUnpin seq dest => some (commandRecord 0x21 seq (halfBytes dest))
  | .routeQuery seq selector value =>
    some (commandRecord 0x22 seq ([selector, 0] ++ halfBytes value))
  | .planWrite seq context first count entries =>
    some (commandRecord 0x30 seq ([context, first, count, 0] ++ entries))
  | .planSwitch seq context => some (commandRecord 0x31 seq [context])
  | .planCancel seq => some (commandRecord 0x32 seq [])
  | .timingSet seq role propagation => some (commandRecord 0x40 seq [role, propagation])
  | .engineReset seq mode => some (commandRecord 0x50 seq [mode])
  | .pinReset => none
  | .resetNRelease _ => none
  | .anchorWrite _ _ => none
  | .anchorCommit _ _ => none
  | .systemWrite _ _ => none
  | .droppedWrite _ _ => none
  | .receiveCompletionWrite _ _ => none
  | .headerReadDone => none
  | .beaconBodyReadDone => none
  | .claim => none
  | .outlierLimit => none
  | .holdBudgetExpiry => none
  | .heldWriteTaken => none
  | .rewriteTaken => none
  | .transmitCompletionWrite _ _ => none
  | .completionProcess => none
  | .descriptorFetch _ _ => none
  | .descriptorWriteTaken => none
  | .skipWriteTaken => none
  | .commandPostWord _ _ => none
  | .localPostWord _ _ => none
  | .reportConsumedWord _ _ => none
  | .commandFetch => none
  | .quiesceLimit => none
  | .quiesceEnd => none
  | .localEntryFetch => none
  | .localEntryReadDone => none
  | .localHeaderReadDone => none
  | .localAdmission => none
  | .localIntakeRetry => none
  | .taglessHandover => none
  | .reportWrite => none
  | .superframeBoundary _ => none
  | .agedRelease => none
  | .holdTimeout => none
  | .beaconLoss => none
  | .openTimeout => none
  | .blockHoldExpiry => none
  | .routeStale => none
  | .routeAgePoison => none
  | .ownSequenceAdvance => none
  | .silenceLimit => none
  | .holdoverTimeout => none
  | .slotStart => none
  | .poisonCountExpiry => none
  | .injectedWriteTaken => none

end Sys2Proof
end

