-- ==== Sys2Proof/Machine/CommandOps.lean ====
section
/-!
DEFINITION. The Command Unit (10.1, 10.2) and the effect of each software command at its owning block. Each
effect leaves the unit RESPONDING with its status and payload, but for an accepted ENGINE_RESET, which leaves
it APPLYING (R180).
-/

namespace Sys2Proof.Machine

/-! ### Responding -/

/-- R178: the command's RESPONSE waits at the Report Writer. -/
def State.respondWith (s : State) (code : Byte) (seq : BitVec 16) (status : Status) (payload : List Byte) :
    State :=
  { s with command := { s.command with stage := .responding code seq status payload } }

/-- R178: a RESPONSE without a payload. -/
def State.respond (s : State) (code : Byte) (seq : BitVec 16) (status : Status) : State :=
  s.respondWith code seq status []

/-- R178: the IDLE Command Unit issues the read of the record at the consumer index. -/
def State.fetchCommand (s : State) : State :=
  match s.path.windows, s.command.stage with
  | some w, .idle =>
    if s.isRunning && s.command.consumer != s.command.post && s.room 1 then
      ({ s with command := { s.command with stage := .fetching } }).issue
        (readAccesses .command (w.cmdBase + 32 * s.command.consumer) 32)
    else s
  | _, _ => s

/-- R178: the read is answered: the consumer index advances by one, wrapping at the ring size. -/
def State.advanceConsumer (s : State) : State :=
  let next := s.command.consumer + 1
  let size := match s.path.windows with
    | some w => w.cmdSize
    | none => 0
  { s with command := { s.command with consumer := if next < size then next else 0 } }

/-- R178: the record read becomes the command in progress: its arguments are held as read and the consumer
index advances. -/
def State.takeRecord (s : State) (bytes : List Byte) : State :=
  let s := s.advanceConsumer
  { s with command := { s.command with args := bytes.drop 4 } }

/-- The link a command's link byte names; none above 15. -/
def linkArg (b : Byte) : Option LinkIx := index? 16 b.toNat

/-! ### NOP and unknown codes -/

/-- R179: NOP. -/
def State.commandNop (s : State) (seq : BitVec 16) : State := s.respond 0x00 seq .done

/-- R179: a code that names no command. -/
def State.commandUnknown (s : State) (code : Byte) (seq : BitVec 16) : State :=
  s.respond code seq .unknownCommand

/-! ### Link commands -/

/-- R47: a node id LINK_OPEN refuses for link `n`. -/
def State.badNeighbour (s : State) (n : LinkIx) (node : NodeId) : Bool :=
  !s.identifies node ||
    (match s.linkOf node with
      | some m => m != n
      | none => false)

/-- R47: the record an accepted LINK_OPEN leaves. -/
def LinkRec.openTo (l : LinkRec) (node : NodeId) (floor ceiling attempts timeout : Nat) : LinkRec :=
  let f := clamp 0 7 floor
  LinkRec.writeRate { l with
    floor := f, ceiling := max f (clamp 0 7 ceiling), attempts := clamp 1 8 attempts,
    neighbour := some node, state := .probing timeout, undelivered := 0, missCount := 0, probeSent := false,
    heard := false } f

/-- R47: LINK_OPEN. -/
def State.commandLinkOpen (s : State) (seq : BitVec 16) (link : Byte) (node : NodeId)
    (floor ceiling attempts : Byte) : State :=
  match linkArg link with
  | none => s.respond 0x10 seq .badArgument
  | some n =>
    if !(s.link n).closed then s.respond 0x10 seq .refusedState
    else if s.badNeighbour n node then s.respond 0x10 seq .badArgument
    else
      (s.setLink n ((s.link n).openTo node floor.toNat ceiling.toNat attempts.toNat
        s.linkTable.openTimeout)).respond 0x10 seq .done

/-- The selected value clamped into its range, or the stored value (R64). -/
def tuned (selection : BitVec 16) (bit lo hi : Nat) (value : Byte) (stored : Nat) : Nat :=
  if selection.getLsbD bit then clamp lo hi value.toNat else stored

/-- R64: the floor and the ceiling taken together, with r moved to the nearer end when it lies outside. -/
def LinkRec.tuneRates (l : LinkRec) (selection : BitVec 16) (v : TuneValues) : LinkRec :=
  if selection.getLsbD 0 || selection.getLsbD 1 then
    let f := tuned selection 0 0 7 v.floor l.floor
    let c := max f (tuned selection 1 0 7 v.ceiling l.ceiling)
    let l := { l with floor := f, ceiling := c }
    if l.rate < f then l.writeRate f
    else if c < l.rate then l.writeRate c
    else l
  else l

/-- R64: every selected value is clamped and stored. -/
def LinkRec.tune (l : LinkRec) (selection : BitVec 16) (v : TuneValues) : LinkRec :=
  let l := l.tuneRates selection v
  { l with
    attempts := tuned selection 2 1 8 v.attempts l.attempts
    defaultBudget := tuned selection 3 0 3 v.budget l.defaultBudget
    weight := tuned selection 4 1 15 v.weight l.weight
    upStep := tuned selection 5 1 16 v.upStep l.upStep
    downStep := tuned selection 6 1 2 v.downStep l.downStep
    blockThreshold := tuned selection 7 1 7 v.blockThreshold l.blockThreshold
    blockHold := tuned selection 8 1 255 v.blockHold l.blockHold
    queueCap := if selection.getLsbD 9 then clamp 8 256 v.queueCap.toNat else l.queueCap }

/-- R64: a selection includes a hard parameter. -/
def selectsHard (selection : BitVec 16) : Bool :=
  selection.getLsbD 0 || selection.getLsbD 1 || selection.getLsbD 2

/-- R64: LINK_TUNE. -/
def State.commandLinkTune (s : State) (seq : BitVec 16) (link : Byte) (selection : BitVec 16)
    (v : TuneValues) : State :=
  match linkArg link with
  | none => s.respond 0x11 seq .badArgument
  | some n =>
    if selectsHard selection && !(s.link n).closed then s.respond 0x11 seq .refusedState
    else (s.setLink n ((s.link n).tune selection v)).respond 0x11 seq .done

/-- R60: LINK_DRAIN. -/
def State.commandLinkDrain (s : State) (seq : BitVec 16) (link : Byte) : State :=
  match linkArg link with
  | none => s.respond 0x12 seq .badArgument
  | some n =>
    if (s.link n).usable then ((s.enterDraining n).drainTest n).respond 0x12 seq .done
    else s.respond 0x12 seq .refusedState

/-- R62: LINK_CUT. -/
def State.commandLinkCut (s : State) (seq : BitVec 16) (link : Byte) : State :=
  match linkArg link with
  | none => s.respond 0x13 seq .badArgument
  | some n =>
    match (s.link n).state with
    | .empty => s.respond 0x13 seq .refusedState
    | .silent => s.respond 0x13 seq .done
    | _ => ((s.enterSilent n).recall fun r => r.names n).respond 0x13 seq .done

/-- R63: LINK_CLEAR. -/
def State.commandLinkClear (s : State) (seq : BitVec 16) (link : Byte) : State :=
  match linkArg link with
  | none => s.respond 0x14 seq .badArgument
  | some n =>
    let l := s.link n
    if l.state = .empty ∨ l.closed = false then s.respond 0x14 seq .refusedState
    else if s.inFlightCount n ≠ 0 ∨ s.bufferFree (probeBuffer n) = false then s.respond 0x14 seq .refusedBusy
    else
      (s.setLink n { LinkRec.reset with attention := l.attention, interleave := l.interleave }).respond
        0x14 seq .done

/-- The climb bytes of a LINK_QUERY payload (Table 12-11, offsets 23 and 24). -/
def LinkRec.climbBytes (l : LinkRec) : List Byte :=
  match l.climb with
  | none => [0, 0]
  | some c => [toByte (1 + 2 * bit (c.act == .returnRate) + 4 * c.run), toByte (c.start + 16 * c.mark)]

/-- The neighbour pair bytes of a LINK_QUERY payload (Table 12-11, offsets 29 and 30). -/
def LinkRec.pairBytes (l : LinkRec) : List Byte :=
  let plan := match l.planPair with
    | some p => 1 + 2 * bit p.announce
    | none => 0
  let timing := match l.timingPair with
    | some t => 4 + 8 * bit t.holdover + 16 * t.depth
    | none => 0
  [(l.planPair.map PlanPair.generation).getD 0, toByte (plan + timing)]

/-- R68: the payload of a LINK_QUERY (Table 12-11). -/
def State.linkPayload (s : State) (n : LinkIx) : List Byte :=
  let l := s.link n
  [toByte (l.state.code + 16 * l.state.reasonCode), toByte (l.floor + 16 * l.ceiling)] ++
    halfBytes l.node ++ [toByte l.rate, toByte l.pace] ++ natHalf l.estimate ++ natHalf l.cost ++
    [toByte l.undelivered, toByte l.missCount, toByte l.state.timer, l.currentByte, l.sticky.byte] ++
    l.climbBytes ++ natHalf (s.queuedCount n) ++ natHalf (s.inFlightCount n) ++ l.pairBytes ++ [0]

/-- R68: LINK_QUERY. -/
def State.commandLinkQuery (s : State) (seq : BitVec 16) (link : Byte) : State :=
  match linkArg link with
  | none => s.respond 0x15 seq .badArgument
  | some n =>
    (s.setLink n { s.link n with sticky := Sticky.reset }).respondWith 0x15 seq .done (s.linkPayload n)

/-- The act a LINK_CLIMB names (Table 12-8). -/
def actArg (b : Byte) : Option ClimbAct :=
  match b.toNat with
  | 1 => some .keep
  | 2 => some .returnRate
  | _ => none

/-- R83: LINK_CLIMB. -/
def State.commandLinkClimb (s : State) (seq : BitVec 16) (link act : Byte) : State :=
  match linkArg link, actArg act with
  | none, _ => s.respond 0x16 seq .badArgument
  | some _, none => s.respond 0x16 seq .badArgument
  | some n, some a =>
    let l := s.link n
    if !l.isActive then s.respond 0x16 seq .refusedState
    else if l.climbing then s.respond 0x16 seq .refusedBusy
    else
      (s.setLink n { l with climb := some ⟨a, l.rate, l.rate, 0⟩, climbing := true }).respond 0x16 seq .done

/-! ### Route commands -/

/-- R107: ROUTE_PIN. -/
def State.commandRoutePin (s : State) (seq : BitVec 16) (dest : NodeId) (link : Byte) (metric : BitVec 16) :
    State :=
  match linkArg link with
  | none => s.respond 0x20 seq .badArgument
  | some n =>
    if !s.identifies dest then s.respond 0x20 seq .badArgument
    else
      match s.routes.pin dest n metric.toNat with
      | none => s.respond 0x20 seq .refusedFull
      | some rt => (State.reevaluate { s with routes := rt }).respond 0x20 seq .done

/-- R108: ROUTE_UNPIN. -/
def State.commandRouteUnpin (s : State) (seq : BitVec 16) (dest : NodeId) : State :=
  if !s.identifies dest then s.respond 0x21 seq .badArgument
  else
    match s.routes.pinnedAt dest with
    | none => s.respond 0x21 seq .refusedState
    | some p => ({ s with routes := s.routes.setEntry p none }).respond 0x21 seq .done

/-- R109: ROUTE_QUERY. -/
def State.commandRouteQuery (s : State) (seq : BitVec 16) (selector : Byte) (value : BitVec 16) : State :=
  match selector.toNat with
  | 0 =>
    let found := (s.routes.posOf value).bind fun p => (s.routes.entry p).map fun e => (p, e)
    let found := if s.identifies value then found else none
    s.respondWith 0x22 seq .done (s.routes.queryPayload found value (s.lookup value))
  | 1 =>
    match index? 256 value.toNat with
    | none => s.respond 0x22 seq .badArgument
    | some p =>
      match s.routes.entry p with
      | some e => s.respondWith 0x22 seq .done (s.routes.queryPayload (some (p, e)) e.dest (s.lookup e.dest))
      | none => s.respondWith 0x22 seq .done (s.routes.queryPayload none nodeNone none)
  | _ => s.respond 0x22 seq .badArgument

/-! ### Plan commands -/

/-- The plan context a code names (12.4). -/
def contextArg (b : Byte) : Option PlanContext :=
  match b.toNat with
  | 0 => some .a
  | 1 => some .b
  | _ => none

/-- R130: the slot entries of a list of bytes; none when one has an unknown code. -/
def slotEntries : List Byte → Option (List SlotEntry)
  | [] => some []
  | b :: bs =>
    match slotOfByte b, slotEntries bs with
    | some e, some es => some (e :: es)
    | _, _ => none

/-- R130: slot entries written from a first slot on. -/
def writeSlots (slots : Bank SlotEntry 64) : Nat → List SlotEntry → Bank SlotEntry 64
  | _, [] => slots
  | j, e :: es =>
    match index? 64 j with
    | some i => writeSlots (bankPut slots i e) (j + 1) es
    | none => slots

/-- R130: PLAN_WRITE. -/
def State.commandPlanWrite (s : State) (seq : BitVec 16) (context first count : Byte) (entries : List Byte) :
    State :=
  let j := clamp 0 63 first.toNat
  let n := min (clamp 1 16 count.toNat) (64 - j)
  match contextArg context, slotEntries (entries.take n) with
  | none, _ => s.respond 0x30 seq .badArgument
  | some _, none => s.respond 0x30 seq .badArgument
  | some c, some es =>
    if c = s.sched.active ∨ s.sched.stage.pending = some c then s.respond 0x30 seq .refusedState
    else
      let p := s.sched.plan c
      let p' : Plan := { slots := writeSlots p.slots j es, generation := p.generation + 1 }
      ({ s with sched := s.sched.setPlan c p' }).respond 0x30 seq .done

/-- R131: PLAN_SWITCH. -/
def State.commandPlanSwitch (s : State) (seq : BitVec 16) (context : Byte) : State :=
  match contextArg context with
  | none => s.respond 0x31 seq .badArgument
  | some c =>
    if s.sched.stage.pending.isSome then s.respond 0x31 seq .refusedBusy
    else if c = s.sched.active then s.respond 0x31 seq .refusedState
    else if !(s.sched.plan c).valid then s.respond 0x31 seq .badPlan
    else ({ s with sched := { s.sched with stage := .accepted c } }).respond 0x31 seq .done

/-- R133: PLAN_CANCEL. -/
def State.commandPlanCancel (s : State) (seq : BitVec 16) : State :=
  match s.sched.stage with
  | .accepted _ => ({ s with sched := { s.sched with stage := .none } }).respond 0x32 seq .done
  | _ => s.respond 0x32 seq .refusedState

/-! ### TIMING_SET -/

/-- The role a TIMING_SET names (Table 12-8). -/
def roleArg (b : Byte) : Option Role :=
  match b.toNat with
  | 1 => some .root
  | 2 => some .follower
  | _ => none

/-- R153: the role change a TIMING_SET asks for. -/
def State.askRole (s : State) (named : Role) : State :=
  match named, s.timing.role with
  | .root, .root => s
  | .root, .follower => { s with timing := { s.timing with pendingRoot := true } }
  | .follower, .root => ({ s with timing := { s.timing with role := .follower } }).setTiming .seeking
  | .follower, .follower => { s with timing := { s.timing with pendingRoot := false } }

/-- R153: TIMING_SET. -/
def State.commandTimingSet (s : State) (seq : BitVec 16) (role propagation : Byte) : State :=
  match roleArg role with
  | none => s.respond 0x40 seq .badArgument
  | some r =>
    (State.askRole { s with timing := { s.timing with propagation := clamp 0 7 propagation.toNat } } r).respond
      0x40 seq .done

/-! ### ENGINE_RESET -/

/-- The mode an ENGINE_RESET names (Table 12-8). -/
def modeArg (b : Byte) : Option ResetMode :=
  match b.toNat with
  | 1 => some .keep
  | 2 => some .unanchor
  | _ => none

/-- R189: the entry to QUIESCING, with a count of 0. -/
def State.enterQuiescing (s : State) (mode : ResetMode) : State :=
  let s := { s with path := { s.path with engine := .quiescing mode 0 } }
  ((s.releaseHeld.intakeQuiesce).quiesceRelease).recall fun _ => true

/-- R189, R180: ENGINE_RESET. -/
def State.commandEngineReset (s : State) (seq : BitVec 16) (mode : Byte) : State :=
  match modeArg mode with
  | none => s.respond 0x50 seq .badArgument
  | some m =>
    let s := s.enterQuiescing m
    { s with command := { s.command with stage := .applying 0x50 seq } }

/-! ### A fetched command -/

/-- R178: a fetched record's effect at its owning block. Rows that are no software command are never read from
a record and have none here. -/
def State.apply (s : State) : Instr → State
  | .nop seq => s.commandNop seq
  | .unknownCommand code seq => s.commandUnknown code seq
  | .linkOpen seq link node floor ceiling attempts => s.commandLinkOpen seq link node floor ceiling attempts
  | .linkTune seq link selection v => s.commandLinkTune seq link selection v
  | .linkDrain seq link => s.commandLinkDrain seq link
  | .linkCut seq link => s.commandLinkCut seq link
  | .linkClear seq link => s.commandLinkClear seq link
  | .linkQuery seq link => s.commandLinkQuery seq link
  | .linkClimb seq link act => s.commandLinkClimb seq link act
  | .routePin seq dest link metric => s.commandRoutePin seq dest link metric
  | .routeUnpin seq dest => s.commandRouteUnpin seq dest
  | .routeQuery seq selector value => s.commandRouteQuery seq selector value
  | .planWrite seq context first count entries => s.commandPlanWrite seq context first count entries
  | .planSwitch seq context => s.commandPlanSwitch seq context
  | .planCancel seq => s.commandPlanCancel seq
  | .timingSet seq role propagation => s.commandTimingSet seq role propagation
  | .engineReset seq mode => s.commandEngineReset seq mode
  | _ => s

end Sys2Proof.Machine
end

