-- ==== Sys2Proof/Machine/EngineOps.lean ====
section
/-!
DEFINITION. The engine (chapters 9.8 and 11): the anchor commit, the pin reset, the end of a quiesce, and the
next state it takes.
-/

namespace Sys2Proof.Machine

/-! ### The anchor commit -/

/-- R175: the injected write of a commit status to the status word. -/
def statusWrite (sel : BitVec 2) (c : CommitStatus) : Injected :=
  .write .anchorStatus (anchorBase sel + statusOffset) (natWord c.code)

/-- R37, R38: the pool at a commit. -/
def committedPool (st : List Byte) : Pool :=
  { Pool.reset with
    heldLimit := clamp 0 32 (stagedByte st 0x40)
    reserve := clamp 0 64 (stagedByte st 0x41)
    maxAgeExpedited := clamp 1 255 (stagedByte st 0x42)
    maxAgeInteractive := clamp 1 255 (stagedByte st 0x43)
    maxAgeBulk := clamp 1 255 (stagedByte st 0x44)
    maxAgeBackground := clamp 1 255 (stagedByte st 0x45)
    holdTimeout := clamp 1 63 (stagedByte st 0x46) }

/-- R43, R70: the Link Table at a commit. -/
def committedLinks (st : List Byte) : LinkTable :=
  { LinkTable.reset with
    openTimeout := clamp 4 255 (stagedByte st 0x47)
    missLimit := clamp 2 32 (stagedByte st 0x48)
    acceptUnsolicited := bitOf (byteAt st 0x49) 0 }

/-- R110, R111: the Route Table at a commit. -/
def committedRoutes (st : List Byte) : RouteTable :=
  { RouteTable.reset with
    penalty := clamp 0 255 (stagedByte st 0x4B)
    hysteresis := clamp 0 255 (stagedByte st 0x4C)
    startSeq := half st 0x50
    ownSeq := half st 0x50 }

/-- R128, R150: the Slot Scheduler at a commit. -/
def committedScheduler (st : List Byte) : Scheduler :=
  { Scheduler.reset with
    slotFactor := clamp 1 8 (stagedByte st 0x4D)
    ringSize := some (stagedHalf st 0x14) }

/-- R192: the role an anchor names: 1 is ROOT and any other value FOLLOWER. -/
def stagedRole (st : List Byte) : Role := if stagedByte st 0x4E = 1 then .root else .follower

/-- The timing state a role starts in (Table 8-3). -/
def Role.start : Role → TimingState
  | .root => .root
  | .follower => .seeking

/-- R153, R162: the Timing Unit at a commit. -/
def committedTiming (st : List Byte) : Timing :=
  { Timing.reset with
    role := stagedRole st
    propagation := clamp 0 7 (stagedByte st 0x4F)
    state := (stagedRole st).start }

/-- R181, R186, R162: the Report Writer at a commit, with the commit's TIMING notice. -/
def committedReports (st : List Byte) : ReportWriter :=
  { producer := 0, phase := false, consumed := 0, planLatch := none,
    timingLatch := some ⟨(stagedRole st).start⟩, intEnable := bitOf (byteAt st 0x49) 1, chosen := none }

/-- R165, R115: the Memory Path at a commit. The injection queue is empty, with the tails its issuers kept: what an
UNANCHOR left there and the port has not taken is lost with it (DEDUCED, log entry 16). The held-write slot is empty
already, since the commit write had its turn. -/
def MemoryPath.committed (p : MemoryPath) : MemoryPath :=
  let st := p.staging
  { p with
    engine := .running
    ownId := half st 0
    windows := some (stagedWindows st)
    holdBudget := clamp 1 15 (stagedByte st 0x4A)
    queue := []
    tails := []
    marks := Vector.replicate 256 .none
    staging := List.replicate 256 0 }

/-- R175: a successful commit, as one event: every block at its commit values and RUNNING. -/
def State.commit (s : State) : State :=
  let st := s.path.staging
  { s with
    pins := { s.pins with sfs := [] }
    path := s.path.committed
    classifier := .idle
    intake := ⟨0, 0, .idle⟩
    pool := committedPool st
    linkTable := committedLinks st
    routes := committedRoutes st
    sched := committedScheduler st
    completion := ⟨[], 0⟩
    timing := committedTiming st
    command := ⟨0, 0, .idle, []⟩
    reports := committedReports st }

/-- R175: the staging is validated; on OK the commit succeeds, and in any case the status is written. -/
def State.validateAnchor (s : State) (sel : BitVec 2) : State :=
  let status := validate sel s.path.staging
  let s := if status = .ok then s.commit else s
  s.issue [statusWrite sel status]

/-- R174: a write into the anchor window is captured into the staging, and one that covers a byte of the
commit field starts validation. -/
def State.captureAnchor (s : State) (offset : Nat) (data : List Byte) : State :=
  match s.pins.anchorSel with
  | none => s
  | some sel =>
    let s := { s with path := { s.path with staging := overlay s.path.staging offset data } }
    if coversCommit offset data.length then s.validateAnchor sel else s

/-! ### Pin reset -/

/-- R188: the write in the held-write slot goes to memory unchanged, and the writes behind it follow it. -/
def State.flushHeld (s : State) : State :=
  let s := match s.path.slot with
    | .empty => s
    | .deciding a d _ => s.store a d
    | .claimed a d _ => s.store a d
    | .released a d => s.store a d
    | .waiting a d _ => s.store a d
  s.path.waiting.foldl (fun s x => match x with
    | .write a d => s.store a d
    | .read _ _ => s) s

/-- R188: RESET_N asserted. The commands that wait, packet memory and the model's counter are the only state
that is kept. -/
def State.pinReset (s : State) : State :=
  let s := s.flushHeld
  { State.reset with pending := s.pending, mem := s.mem, freeIndex := s.freeIndex }

/-! ### The end of a quiesce -/

/-- R191: the three conditions of the end of a quiesce hold while an ENGINE_RESET is APPLYING. -/
def State.quiesceDone (s : State) : Bool :=
  s.isQuiescing &&
    (match s.command.stage with
      | .applying _ _ => true
      | _ => false) &&
    s.sched.inFlight.isEmpty && s.pool.backlog.isEmpty && s.intake.stage == .idle

/-- R162: the Timing Unit at the end of a quiesce (Table 8-3). The timebase stops only with the change to
UNANCHORED (R191). -/
def Timing.quiesced (t : Timing) (mode : ResetMode) : Timing :=
  let t := { t with outliers := 0, silence := 0, heard := false, sightings := Vector.replicate 16 none }
  match mode with
  | .keep => t
  | .unanchor => { t with adjust := 0, stepEnd := none, pendingRoot := false, holdover := 0 }

/-- R181: the Report Writer at the end of a quiesce. -/
def ReportWriter.quiesced (r : ReportWriter) : ResetMode → ReportWriter
  | .keep => r
  | .unanchor => { r with planLatch := none, timingLatch := none }

/-- R69, R111, R129, R150, R10, R146, R162, R181: the values every block takes at the end of a quiesce. -/
def State.clearBlocks (s : State) (mode : ResetMode) : State :=
  { s with
    path := { s.path with marks := Vector.replicate 256 .none }
    linkTable := { s.linkTable with links := Vector.replicate 16 LinkRec.reset, pendingReplies := [] }
    routes := { s.routes with entries := Vector.replicate 256 none, cursor := 0 }
    sched := { s.sched with stage := .none, buffers := Vector.replicate 22 none, nextBeacon := false,
                            probePointer := 15 }
    completion := { s.completion with queue := [] }
    timing := s.timing.quiesced mode
    reports := s.reports.quiesced mode }

/-- The quiesce mode, KEEP while not QUIESCING. -/
def State.quiesceMode (s : State) : ResetMode :=
  match s.path.engine with
  | .quiescing m _ => m
  | _ => .keep

/-- R191: the ENGINE_RESET's RESPONSE, DONE, is ready. -/
def State.readyReset (s : State) : State :=
  match s.command.stage with
  | .applying code seq => { s with command := { s.command with stage := .responding code seq .done [] } }
  | _ => s

/-- R165, R162, R191: what the change to UNANCHORED clears beyond the end of the quiesce (log entry 27). -/
def State.unanchor (s : State) : State :=
  { s with
    pins := { s.pins with sfs := [] }
    path := { s.path with engine := .unanchored, windows := none, staging := List.replicate 256 0 }
    timing := { s.timing with timebase := 0, epoch := s.timing.epoch + s.timing.timebase } }

/-- R191: the engine takes its next state at the write of the ENGINE_RESET's RESPONSE. -/
def State.leaveQuiesce (s : State) : State :=
  match s.path.engine with
  | .quiescing .keep _ => { s with path := { s.path with engine := .running } }
  | .quiescing .unanchor _ => s.unanchor
  | _ => s

end Sys2Proof.Machine
end

