-- ==== Sys2Proof/Machine/ReportOps.lean ====
section
/-!
DEFINITION. The Report Writer (10.3, 10.4): the choice of the next report, its body, its effects, and the
captures of the post words.
-/

namespace Sys2Proof.Machine

/-- A report that waits (Table 10-3). -/
inductive Waiting where
  | response (code : Byte) (seq : BitVec 16) (status : Status) (payload : List Byte)
  | release (item : ReleaseItem)
  | attention (link : LinkIx)
  | planActive (notice : PlanNotice)
  | timing (notice : TimingNotice)
deriving DecidableEq, Repr

/-- The number of entries of the report ring. -/
def State.reportSize (s : State) : Nat :=
  match s.path.windows with
  | some w => w.repSize
  | none => 0

/-- The number of unconsumed reports, (P - C) mod S_r (R181). -/
def State.unconsumed (s : State) : Nat :=
  (s.reports.producer + s.reportSize - s.reports.consumed) % s.reportSize

/-- The report ring has room (R181). -/
def State.reportRoom (s : State) : Bool := decide (s.unconsumed + 1 < s.reportSize)

/-- R183: the lowest link whose attention set is not empty. -/
def State.attentionLink (s : State) : Option LinkIx := bankFind (fun _ l => l.attention != 0) s.linkTable.links

/-- R183: the report chosen among those that wait. -/
def State.chooseReport (s : State) : Option Waiting :=
  match s.command.stage with
  | .responding code seq status payload => some (.response code seq status payload)
  | _ =>
    match s.pool.backlog with
    | i :: _ => some (.release i)
    | [] =>
      match s.attentionLink with
      | some n => some (.attention n)
      | none =>
        match s.reports.planLatch with
        | some p => some (.planActive p)
        | none => s.reports.timingLatch.map Waiting.timing

/-- The choice a waiting report stands for. -/
def Waiting.choice : Waiting → ReportChoice
  | .response _ _ _ _ => .response
  | .release _ => .release
  | .attention n => .attention n
  | .planActive _ => .planActive
  | .timing _ => .timing

/-- The report a choice names, as it stands now, if it waits still. -/
def State.waitingFor (s : State) : ReportChoice → Option Waiting
  | .response =>
    match s.command.stage with
    | .responding code seq status payload => some (.response code seq status payload)
    | _ => none
  | .release => s.pool.backlog.head?.map Waiting.release
  | .attention n => if (s.link n).attention = 0 then none else some (.attention n)
  | .planActive => s.reports.planLatch.map Waiting.planActive
  | .timing => s.reports.timingLatch.map Waiting.timing

/-- R181, R183: the report to write next: the one the writer waits with, or the one it chooses now. -/
def State.nextReport (s : State) : Option Waiting :=
  match s.reports.chosen.bind s.waitingFor with
  | some w => some w
  | none => s.chooseReport

/-- The kind code of a report (Table 12-9). -/
def Waiting.kind : Waiting → Byte
  | .response _ _ _ _ => 1
  | .release _ => 2
  | .attention _ => 3
  | .planActive _ => 4
  | .timing _ => 5

/-- The release status of a backlog entry's frame. -/
def Frame.statusCode (f : Frame) : Byte :=
  match f.place with
  | .releasing st => st.code
  | _ => 0

/-- The body of a RELEASE report (Table 12-10). -/
def State.releaseBody (s : State) : ReleaseItem → List Byte
  | .tagless buffer status =>
    natHalf 0xFFFF ++ [Origin.localSend.code, status.code] ++ natWord buffer
  | .entry t =>
    match s.frame t with
    | some f => natHalf t.val ++ [f.origin.code, f.statusCode] ++ natWord f.buffer
    | none => natHalf t.val

/-- The body of a report, with the values as they stand when it is written (R183, Table 12-10). -/
def State.reportBody (s : State) : Waiting → List Byte
  | .response code seq status payload => [code, status.code] ++ halfBytes seq ++ payload
  | .release i => s.releaseBody i
  | .attention n =>
    let l := s.link n
    [toByte n.val, toByte l.state.code] ++ halfBytes l.node ++ [l.attention, toByte l.state.reasonCode]
  | .planActive p => [p.context.code, p.generation, 0, 0] ++ wordBytes p.superframe
  | .timing t => [t.state.code, linkByte t.state.parent, toByte t.state.depth]

/-- R181: the address of a report ring position. -/
def State.reportAddress (s : State) (p : Nat) : Nat :=
  match s.path.windows with
  | some w => w.repBase + 32 * p
  | none => 32 * p

/-- R181: P after a report write; the phase flips when P wraps. -/
def ReportWriter.advance (r : ReportWriter) (size : Nat) : ReportWriter :=
  if r.producer + 1 < size then { r with producer := r.producer + 1 }
  else { r with producer := 0, phase := !r.phase }

/-- R35: the RELEASE report's effect on the pool. -/
def State.released (s : State) (i : ReleaseItem) : State :=
  let s := { s with pool := { s.pool with backlog := s.pool.backlog.tail } }
  match i with
  | .tagless _ _ => s
  | .entry t => (s.setFrame t none).signalFreed

/-- R177, R178, R191: the RESPONSE's effect: the command in progress is absent, the Command Unit is IDLE, and
the engine leaves QUIESCING. -/
def State.responded (s : State) : State :=
  State.leaveQuiesce { s with command := { s.command with stage := .idle, args := [] } }

/-- R181: the effect a report has at the moment it is written. -/
def State.reported (s : State) : Waiting → State
  | .response _ _ _ _ => s.responded
  | .release i => s.released i
  | .attention n => s.setLink n { s.link n with attention := 0 }
  | .planActive _ => { s with reports := { s.reports with planLatch := none } }
  | .timing _ => { s with reports := { s.reports with timingLatch := none } }

/-- R181: one report is written at P with the current phase, P advances, and the report has its effect. -/
def State.putReport (s : State) (w : Waiting) : State :=
  let bytes := reportBytes s.reports.phase w.kind (s.reportBody w)
  let s := s.issue [.write .report (s.reportAddress s.reports.producer) bytes]
  State.reported { s with reports := { s.reports.advance s.reportSize with chosen := none } } w

/-- R183, R181: with ring room and a report waiting, one report is written; while the injection queue is full
the writer waits with the report it has chosen. -/
def State.writeReport (s : State) : State :=
  if !s.isUnanchored && s.reportRoom then
    match s.nextReport with
    | some w =>
      if s.room 1 then s.putReport w else { s with reports := { s.reports with chosen := some w.choice } }
    | none => s
  else s

/-! ### Post words -/

/-- R182: a captured consumed value is accepted when it lies from C forward to P. -/
def State.consumedOk (s : State) (v : Nat) : Bool :=
  decide (v < s.reportSize) &&
    decide ((v + s.reportSize - s.reports.consumed) % s.reportSize ≤ s.unconsumed)

/-- R169, R177, R182, R185: a post word is captured by the block that owns it. -/
def State.capture (s : State) (w : PostWord) (v : Nat) : State :=
  match s.path.windows with
  | none => s
  | some t =>
    match w with
    | .command => if v < t.cmdSize then { s with command := { s.command with post := v } } else s
    | .localSend => if v < t.localSize then { s with intake := { s.intake with post := v } } else s
    | .consumed =>
      if s.consumedOk v then { s with reports := { s.reports with consumed := v } } else s

end Sys2Proof.Machine
end

