-- ==== Sys2Proof/Machine/Port.lean ====
section
/-!
DEFINITION. The memory-side port and the system side (chapter 9): the answer or completion of injected
accesses, the arbiter, passing accesses and their window actions, and the accesses that wait behind a held
write.
-/

namespace Sys2Proof.Machine

/-! ### The head of the injection queue -/

/-- The bytes of a read's answer that its issuer uses (R163). -/
def State.answerBytes (s : State) (addr len skip take : Nat) : List Byte :=
  ((memRead s.mem addr len).drop skip).take take

/-- R171: the answer to an injected read is handed to its issuer. -/
def State.answered (s : State) (who : Reader) (bytes : List Byte) (last : Bool) : State :=
  match who with
  | .classifierHeader => s.headerAnswered bytes last
  | .classifierBody => s.bodyAnswered bytes last
  | .intakeEntry => s.entryAnswered bytes
  | .intakeHeader => s.localHeaderAnswered bytes last
  | .command => (s.takeRecord bytes).apply (decodeCommand bytes)

/-- R143: a fetch of a transmit ring position is reported to the Slot Scheduler. -/
def State.reportFetch (s : State) (pos : Nat) : State :=
  match s.inFlightAt pos with
  | none => s
  | some r =>
    if r.fetched then s
    else
      let table := s.sched.inFlight.map fun x => if x.pos = pos then { x with fetched := true } else x
      let s := { s with sched := { s.sched with inFlight := table } }
      match r.carried with
      | .data t _ => s.markFetched t
      | _ => s

/-- R144, R170: a discarded SKIP clears the recalled flag. -/
def State.clearRecalled (s : State) (pos : Nat) : State :=
  let table := s.sched.inFlight.map fun x => if x.pos = pos then { x with recalled := false } else x
  { s with sched := { s.sched with inFlight := table } }

/-- R170: an injected SKIP write at the port. -/
def State.skipTaken (s : State) (addr : Nat) (data : List Byte) (pos : Nat) : State :=
  if s.mark pos = .fetched then s.clearRecalled pos else s.store addr data

/-- R170, R167, R171: an injected write at the port. -/
def State.writeTaken (s : State) (what : Writer) (addr : Nat) (data : List Byte) : State :=
  match what with
  | .descriptor pos => (s.store addr data).setMark pos .written
  | .skip pos => s.skipTaken addr data pos
  | .rewrite => (s.store addr data).setSlot .empty
  | _ => s.store addr data

/-- R171: the port takes the head of the injection queue. An answer whose issuer is gone is discarded. -/
def State.takeHead (s : State) : State :=
  match s.path.queue with
  | [] => s
  | .read who a n k t last live :: _ =>
    if live then s.dropHead.answered who (s.answerBytes a n k t) last else s.dropHead
  | .write what a d :: _ => s.dropHead.writeTaken what a d

/-! ### Passing accesses -/

/-- R172: heads of the injection queue are taken as long as it is full. -/
def State.yieldFor : Nat → State → State
  | 0, s => s
  | fuel + 1, s => if s.queueFull then State.yieldFor fuel s.takeHead else s

/-- R172: a passing access takes the port; the heads of a full injection queue are taken first, until an entry
stands free. The fuel is above what is queued and what the answers of the reads among it can issue. -/
def State.yieldPort (s : State) : State :=
  State.yieldFor (s.path.queue.length + s.path.tails.length + 512) s

/-- R167: a receive completion record enters the held-write slot and is handed to the Classifier. -/
def State.holdRecord (s : State) (addr : Nat) (data : List Byte) : State :=
  (s.setSlot (.deciding addr data s.path.holdBudget)).beginDecision (rxBuffer data) (rxLength data)

/-- R168: a transmit completion record is copied into the completion queue. -/
def State.copyRecord (s : State) (pos : Nat) (data : List Byte) : State :=
  { s with completion := { s.completion with queue := s.completion.queue ++ [⟨pos, data⟩] } }

/-- R168: a transmit completion record write is copied and passes, or waits in the slot while the completion
queue is full. -/
def State.copyWrite (s : State) (addr : Nat) (data : List Byte) (pos : Nat) : State :=
  if s.completion.queue.length < Config.completionEntries then
    ((s.yieldPort).store addr data).copyRecord pos data
  else s.setSlot (.waiting addr data pos)

/-- R166: a system-side write has its turn and takes the action of its window. -/
def State.takeWrite (s : State) (addr : Nat) (data : List Byte) : State :=
  match s.writeAction addr data with
  | .passes => s.yieldPort.store addr data
  | .dropped => s
  | .held => s.holdRecord addr data
  | .copied pos => s.copyWrite addr data pos
  | .captured w => (s.yieldPort.store addr data).capture w (word data 0).toNat
  | .anchor offset => (s.yieldPort.store addr data).captureAnchor offset data

/-- R170: a read's fetch of one position at the port. -/
def State.fetchPosition (s : State) (pos : Nat) : State :=
  if s.mark pos = .written then (s.setMark pos .fetched).reportFetch pos else s

/-- R166, R170: a system-side read has its turn. -/
def State.takeRead (s : State) (addr len : Nat) : State :=
  let s := s.yieldPort
  (s.fetchedPositions addr len).foldl State.fetchPosition s

/-- A system-side access has its turn. -/
def State.takeAccess (s : State) : Access → State
  | .write a d => s.takeWrite a d
  | .read a n => s.takeRead a n

/-! ### Waiting behind a held write -/

/-- The range of the held write, empty when there is none. -/
def HeldSlot.range : HeldSlot → Nat × Nat
  | .empty => (0, 0)
  | .deciding a d _ => (a, d.length)
  | .claimed a d _ => (a, d.length)
  | .released a d => (a, d.length)
  | .waiting a d _ => (a, d.length)

/-- A waiting access is a write. -/
def Access.isWrite : Access → Bool
  | .write _ _ => true
  | .read _ _ => false

/-- R164: an access must wait, given the accesses that wait before it: a write behind a held write or another
write, a read that overlaps the held write or a write that waits. -/
def State.mustWait (s : State) (before : List Access) : Access → Bool
  | .write _ _ => s.path.slot != .empty || before.any Access.isWrite
  | .read a n =>
    overlaps a n s.path.slot.range.1 s.path.slot.range.2 ||
      before.any fun x => match x with
        | .write b d => overlaps a n b d.length
        | .read _ _ => false

/-- The first waiting access that need not wait any longer, with the accesses that stay. -/
def State.nextWaiting (s : State) : List Access → List Access → Option (Access × List Access)
  | _, [] => none
  | before, x :: rest =>
    if s.mustWait before x then s.nextWaiting (before ++ [x]) rest else some (x, before ++ rest)

/-- R164: the accesses that waited proceed, one after another, the first of them in order of arrival that need wait
no longer. `fuel` is their number. -/
def State.proceedFor : Nat → State → State
  | 0, s => s
  | fuel + 1, s =>
    match s.nextWaiting [] s.path.waiting with
    | none => s
    | some (x, rest) => State.proceedFor fuel (State.takeAccess { s with path := { s.path with waiting := rest } } x)

/-- R164: the accesses that waited proceed as far as they may, all in the step of the release that lets them, in the
order of their arrival and with no other event between. The manual leaves that open: R167's example takes them as
events of their own, a waiting read before the frame data that arrived earlier (DESIGN CHOICE, log entry 37). -/
def State.proceed (s : State) : State := State.proceedFor s.path.waiting.length s

/-- R164: a system-side access reaches the part: it has its turn or waits. -/
def State.access (s : State) (x : Access) : State :=
  if s.mustWait s.path.waiting x then { s with path := { s.path with waiting := s.path.waiting ++ [x] } }
  else (s.takeAccess x).proceed

/-! ### Releases of the held write -/

/-- R167: a held write released unchanged waits for the port. -/
def State.passingHeld (s : State) : Bool :=
  match s.path.slot with
  | .released _ _ => true
  | .claimed _ _ byRewrite => !byRewrite
  | _ => false

/-- R172: the port may take the head of the injection queue: no passing access waits, or the queue is full. -/
def State.headTurn (s : State) : Bool := !s.passingHeld || s.queueFull

/-- R167: the port takes a held write released unchanged; the slot becomes EMPTY. -/
def State.takeHeld (s : State) : State :=
  match s.path.slot with
  | .released a d => ((s.yieldPort.store a d).setSlot .empty).proceed
  | .claimed a d false => ((s.yieldPort.store a d).setSlot .empty).proceed
  | _ => s

/-- R168: after a record has left the completion queue, a WAITING write is copied into the freed place and
passes; the slot becomes EMPTY. -/
def State.refillCompletion (s : State) : State :=
  match s.path.slot with
  | .waiting a d pos =>
    if s.completion.queue.length < Config.completionEntries then
      (((s.setSlot .empty).yieldPort.store a d).copyRecord pos d).proceed
    else s
  | _ => s

/-- R146, R168: COMPLETION_PROCESS. -/
def State.processCompletion (s : State) : State :=
  if s.isUnanchored then s else s.takeCompletion.refillCompletion

/-- R171, R172: an injected read run is answered up to its last access, as far as its accesses stand at the
head and the arbiter takes them. `fuel` is the number of accesses queued. -/
def State.takeRun (who : Reader) : Nat → State → State
  | 0, s => s
  | fuel + 1, s =>
    match s.path.queue with
    | .read w _ _ _ _ last live :: _ =>
      if w = who ∧ s.headTurn then
        if last && live then s.takeHead else State.takeRun who fuel s.takeHead
      else s
    | _ => s

/-! ### The end of a quiesce -/

/-- R168: a WAITING write passes to memory; with KEEP it is copied into the completion queue as well. -/
def State.releaseWaiting (s : State) (mode : ResetMode) : State :=
  match s.path.slot with
  | .waiting a d pos =>
    let s := (s.setSlot .empty).yieldPort.store a d
    match mode with
    | .keep => s.copyRecord pos d
    | .unanchor => s
  | _ => s

/-- R191: the end of a quiesce. -/
def State.endQuiesce (s : State) : State :=
  (((s.clearBlocks s.quiesceMode).releaseWaiting s.quiesceMode).readyReset).proceed

/-- R168, R176: at the change to UNANCHORED a completion write that has come to wait since the end of the
quiesce is released without a copy, the completion queue is emptied, and the accesses that waited proceed
(log entry 27). -/
def State.letPass (s : State) : State :=
  (State.releaseWaiting { s with completion := { s.completion with queue := [] } } .unanchor).proceed

/-- R183, R191: REPORT_WRITE. -/
def State.reportWrite (s : State) : State :=
  let t := s.writeReport
  if s.isQuiescing && t.isUnanchored then t.letPass else t

/-- What an event has left is carried out before the next one is taken: the work list, and the end of a
quiesce whose conditions hold (log entry 8). -/
def State.settle (s : State) : State :=
  let s := s.finishWork
  if s.quiesceDone then s.endQuiesce else s

end Sys2Proof.Machine
end

