-- ==== Sys2Proof/Machine/CommandRows.lean ====
section
/-!
DEFINITION. The meanings of COMMAND_FETCH and of the software commands (10.1, 10.2). A software command is taken
when the port answers the read of its record (R178): the record read from packet memory at that moment is the
command, and any other command's row changes nothing (log entry 1).
-/

namespace Sys2Proof.Machine

/-- COMMAND_FETCH (R178). -/
def execCommandFetch (s : State) : Host.Outcome State Fault Refusal := .next s.settle.fetchCommand

/-- R178: the record the port is about to answer to a Command Unit in FETCHING. -/
def State.fetchedRecord (s : State) : Option (List Byte) :=
  match s.path.queue, s.command.stage with
  | .read .command a n k t _ true :: _, .fetching =>
    if s.headTurn then some (s.answerBytes a n k t) else none
  | _, _ => none

/-- The command the record about to be answered holds. -/
def State.fetchedCommand (s : State) : Option Instr := s.fetchedRecord.map decodeCommand

/-- R178: the record is read and becomes the command in progress. -/
def State.commandRead (s : State) : State := s.dropHead.takeRecord (s.fetchedRecord.getD [])

/-- A software command's row: its effect, when it is the command read. -/
def State.onCommand (s : State) (c : Instr) (effect : State → State) : State :=
  if s.fetchedCommand = some c then effect s.commandRead else s

/-- NOP (R179). -/
def execNop (seq : BitVec 16) (s : State) :
    Host.Outcome State Fault Refusal :=
  .next (s.settle.onCommand (.nop seq) fun s => s.commandNop seq)

/-- UNKNOWN_COMMAND (R179). -/
def execUnknownCommand (code : Byte) (seq : BitVec 16) (s : State) :
    Host.Outcome State Fault Refusal :=
  .next (s.settle.onCommand (.unknownCommand code seq) fun s => s.commandUnknown code seq)

/-- LINK_OPEN (R47). -/
def execLinkOpen (seq : BitVec 16) (link : Byte) (node : NodeId) (floor ceiling attempts : Byte) (s : State) :
    Host.Outcome State Fault Refusal :=
  .next (s.settle.onCommand (.linkOpen seq link node floor ceiling attempts) fun s => s.commandLinkOpen seq link node floor ceiling attempts)

/-- LINK_TUNE (R64). -/
def execLinkTune (seq : BitVec 16) (link : Byte) (selection : BitVec 16) (values : TuneValues) (s : State) :
    Host.Outcome State Fault Refusal :=
  .next (s.settle.onCommand (.linkTune seq link selection values) fun s => s.commandLinkTune seq link selection values)

/-- LINK_DRAIN (R60). -/
def execLinkDrain (seq : BitVec 16) (link : Byte) (s : State) :
    Host.Outcome State Fault Refusal :=
  .next (s.settle.onCommand (.linkDrain seq link) fun s => s.commandLinkDrain seq link)

/-- LINK_CUT (R62). -/
def execLinkCut (seq : BitVec 16) (link : Byte) (s : State) :
    Host.Outcome State Fault Refusal :=
  .next (s.settle.onCommand (.linkCut seq link) fun s => s.commandLinkCut seq link)

/-- LINK_CLEAR (R63). -/
def execLinkClear (seq : BitVec 16) (link : Byte) (s : State) :
    Host.Outcome State Fault Refusal :=
  .next (s.settle.onCommand (.linkClear seq link) fun s => s.commandLinkClear seq link)

/-- LINK_QUERY (R68). -/
def execLinkQuery (seq : BitVec 16) (link : Byte) (s : State) :
    Host.Outcome State Fault Refusal :=
  .next (s.settle.onCommand (.linkQuery seq link) fun s => s.commandLinkQuery seq link)

/-- LINK_CLIMB (R83). -/
def execLinkClimb (seq : BitVec 16) (link act : Byte) (s : State) :
    Host.Outcome State Fault Refusal :=
  .next (s.settle.onCommand (.linkClimb seq link act) fun s => s.commandLinkClimb seq link act)

/-- ROUTE_PIN (R107). -/
def execRoutePin (seq : BitVec 16) (dest : NodeId) (link : Byte) (metric : BitVec 16) (s : State) :
    Host.Outcome State Fault Refusal :=
  .next (s.settle.onCommand (.routePin seq dest link metric) fun s => s.commandRoutePin seq dest link metric)

/-- ROUTE_UNPIN (R108). -/
def execRouteUnpin (seq : BitVec 16) (dest : NodeId) (s : State) :
    Host.Outcome State Fault Refusal :=
  .next (s.settle.onCommand (.routeUnpin seq dest) fun s => s.commandRouteUnpin seq dest)

/-- ROUTE_QUERY (R109). -/
def execRouteQuery (seq : BitVec 16) (selector : Byte) (value : BitVec 16) (s : State) :
    Host.Outcome State Fault Refusal :=
  .next (s.settle.onCommand (.routeQuery seq selector value) fun s => s.commandRouteQuery seq selector value)

/-- PLAN_WRITE (R130). -/
def execPlanWrite (seq : BitVec 16) (context first count : Byte) (entries : List Byte) (s : State) :
    Host.Outcome State Fault Refusal :=
  .next (s.settle.onCommand (.planWrite seq context first count entries) fun s => s.commandPlanWrite seq context first count entries)

/-- PLAN_SWITCH (R131). -/
def execPlanSwitch (seq : BitVec 16) (context : Byte) (s : State) :
    Host.Outcome State Fault Refusal :=
  .next (s.settle.onCommand (.planSwitch seq context) fun s => s.commandPlanSwitch seq context)

/-- PLAN_CANCEL (R133). -/
def execPlanCancel (seq : BitVec 16) (s : State) :
    Host.Outcome State Fault Refusal :=
  .next (s.settle.onCommand (.planCancel seq) fun s => s.commandPlanCancel seq)

/-- TIMING_SET (R153). -/
def execTimingSet (seq : BitVec 16) (role propagation : Byte) (s : State) :
    Host.Outcome State Fault Refusal :=
  .next (s.settle.onCommand (.timingSet seq role propagation) fun s => s.commandTimingSet seq role propagation)

/-- ENGINE_RESET (R189). -/
def execEngineReset (seq : BitVec 16) (mode : Byte) (s : State) :
    Host.Outcome State Fault Refusal :=
  .next (s.settle.onCommand (.engineReset seq mode) fun s => s.commandEngineReset seq mode)

end Sys2Proof.Machine
end

