-- ==== Sys2Proof/Machine/PathRows.lean ====
section
/-!
DEFINITION. The meanings of the Memory Path's rows (chapter 9, and R188, R173): the system-side accesses, the
accesses the port takes, and the pin reset.

A system-side access is sorted by the window its bytes fall in (R166), whichever of the access rows brings it;
an access without the shape of R163 is a fault (log entry 3). A row whose event cannot happen in the state at
hand changes nothing (log entry 1).
-/

namespace Sys2Proof.Machine

/-- A system-side write reaches the part (R163, R164, R166). -/
def systemSideWrite (addr : BitVec 32) (data : List Byte) (s : State) : Host.Outcome State Fault Refusal :=
  if accessOk addr.toNat data.length then .next (s.settle.access (.write addr.toNat data))
  else .fault .malformedAccess

/-- PIN_RESET (R188). -/
def execPinReset (s : State) : Host.Outcome State Fault Refusal := .next s.pinReset

/-- RESET_N_RELEASE (R173): the straps are sampled. -/
def execResetNRelease (anchorSel : BitVec 2) (s : State) : Host.Outcome State Fault Refusal :=
  .next (if s.pins.resetAsserted then
    { s with pins := { s.pins with resetAsserted := false, anchorSel := some anchorSel } } else s)

/-- ANCHOR_WRITE (R174). -/
def execAnchorWrite (addr : BitVec 32) (data : List Byte) (s : State) : Host.Outcome State Fault Refusal :=
  systemSideWrite addr data s

/-- ANCHOR_COMMIT (R175). -/
def execAnchorCommit (addr : BitVec 32) (data : List Byte) (s : State) : Host.Outcome State Fault Refusal :=
  systemSideWrite addr data s

/-- SYSTEM_WRITE (R166). -/
def execSystemWrite (addr : BitVec 32) (data : List Byte) (s : State) : Host.Outcome State Fault Refusal :=
  systemSideWrite addr data s

/-- DROPPED_WRITE (R166). -/
def execDroppedWrite (addr : BitVec 32) (data : List Byte) (s : State) : Host.Outcome State Fault Refusal :=
  systemSideWrite addr data s

/-- RECEIVE_COMPLETION_WRITE (R167). -/
def execReceiveCompletionWrite (addr : BitVec 32) (data : List Byte) (s : State) :
    Host.Outcome State Fault Refusal :=
  systemSideWrite addr data s

/-- TRANSMIT_COMPLETION_WRITE (R168). -/
def execTransmitCompletionWrite (addr : BitVec 32) (data : List Byte) (s : State) :
    Host.Outcome State Fault Refusal :=
  systemSideWrite addr data s

/-- COMMAND_POST_WORD (R177). -/
def execCommandPostWord (addr : BitVec 32) (data : List Byte) (s : State) : Host.Outcome State Fault Refusal :=
  systemSideWrite addr data s

/-- LOCAL_POST_WORD (R185). -/
def execLocalPostWord (addr : BitVec 32) (data : List Byte) (s : State) : Host.Outcome State Fault Refusal :=
  systemSideWrite addr data s

/-- REPORT_CONSUMED_WORD (R182). -/
def execReportConsumedWord (addr : BitVec 32) (data : List Byte) (s : State) :
    Host.Outcome State Fault Refusal :=
  systemSideWrite addr data s

/-- DESCRIPTOR_FETCH (R170). -/
def execDescriptorFetch (addr : BitVec 32) (len : Nat) (s : State) : Host.Outcome State Fault Refusal :=
  if accessOk addr.toNat len then .next (s.settle.access (.read addr.toNat len)) else .fault .malformedAccess

/-- HELD_WRITE_TAKEN (R167). -/
def execHeldWriteTaken (s : State) : Host.Outcome State Fault Refusal := .next s.settle.takeHeld

/-- The write at the head of the injection queue, when the port may take it (R172). -/
def State.headWrite (s : State) : Option Writer :=
  match s.path.queue with
  | .write what _ _ :: _ => if s.headTurn then some what else none
  | _ => none

/-- REWRITE_TAKEN (R167): the accesses that wait behind the held write proceed. -/
def execRewriteTaken (s : State) : Host.Outcome State Fault Refusal :=
  let s := s.settle
  .next (if s.headWrite = some .rewrite then s.takeHead.proceed else s)

/-- DESCRIPTOR_WRITE_TAKEN (R170). -/
def execDescriptorWriteTaken (s : State) : Host.Outcome State Fault Refusal :=
  let s := s.settle
  .next (match s.headWrite with
    | some (.descriptor _) => s.takeHead
    | _ => s)

/-- SKIP_WRITE_TAKEN (R144, R170). -/
def execSkipWriteTaken (s : State) : Host.Outcome State Fault Refusal :=
  let s := s.settle
  .next (match s.headWrite with
    | some (.skip _) => s.takeHead
    | _ => s)

/-- INJECTED_WRITE_TAKEN (R171): a header patch, an own-frame write, a report or an anchor status. -/
def execInjectedWriteTaken (s : State) : Host.Outcome State Fault Refusal :=
  let s := s.settle
  .next (match s.headWrite with
    | some .patch => s.takeHead
    | some .ownFrame => s.takeHead
    | some .report => s.takeHead
    | some .anchorStatus => s.takeHead
    | _ => s)

end Sys2Proof.Machine
end

