-- ==== Sys2Proof/Machine/ReceiveRows.lean ====
section
/-!
DEFINITION. The meanings of the rows of the Receive Classifier (chapter 6) and of the Local Intake (6.5).
-/

namespace Sys2Proof.Machine

/-- The run of a reader's accesses at the head of the queue is answered (R171). -/
def State.answerRun (s : State) (who : Reader) : State := State.takeRun who s.path.queue.length s

/-- HEADER_READ_DONE (R113). -/
def execHeaderReadDone (s : State) : Host.Outcome State Fault Refusal :=
  .next (s.settle.answerRun .classifierHeader)

/-- BEACON_BODY_READ_DONE (R113). -/
def execBeaconBodyReadDone (s : State) : Host.Outcome State Fault Refusal :=
  .next (s.settle.answerRun .classifierBody)

/-- CLAIM (R114). -/
def execClaim (s : State) : Host.Outcome State Fault Refusal := .next s.settle.claim

/-- HOLD_BUDGET_EXPIRY (R115). -/
def execHoldBudgetExpiry (s : State) : Host.Outcome State Fault Refusal := .next s.settle.expireBudget

/-- LOCAL_ENTRY_FETCH (R122). -/
def execLocalEntryFetch (s : State) : Host.Outcome State Fault Refusal := .next s.settle.fetchEntry

/-- LOCAL_ENTRY_READ_DONE (R122). -/
def execLocalEntryReadDone (s : State) : Host.Outcome State Fault Refusal :=
  .next (s.settle.answerRun .intakeEntry)

/-- LOCAL_HEADER_READ_DONE (R123). -/
def execLocalHeaderReadDone (s : State) : Host.Outcome State Fault Refusal :=
  .next (s.settle.answerRun .intakeHeader)

/-- LOCAL_ADMISSION (R124). -/
def execLocalAdmission (s : State) : Host.Outcome State Fault Refusal := .next s.settle.localAdmission

/-- LOCAL_INTAKE_RETRY (R125). -/
def execLocalIntakeRetry (s : State) : Host.Outcome State Fault Refusal := .next s.settle.intakeRetry

/-- TAGLESS_HANDOVER (R126). -/
def execTaglessHandover (s : State) : Host.Outcome State Fault Refusal := .next s.settle.handOver

end Sys2Proof.Machine
end

