-- ==== Sys2Proof/Machine/TransmitRows.lean ====
section
/-!
DEFINITION. The meanings of the rows that follow the timebase (chapters 7 and 8, R32, R48, R102): slot starts,
the superframe boundary and its consequences; of COMPLETION_PROCESS (R146), REPORT_WRITE (R183) and the two
rows that end a quiesce (R190, R191).

A consequence row carries out the next piece of work of its kind that the last event has left (log entry 8).
-/

namespace Sys2Proof.Machine

/-- COMPLETION_PROCESS (R146). -/
def execCompletionProcess (s : State) : Host.Outcome State Fault Refusal := .next s.settle.processCompletion

/-- REPORT_WRITE (R183). -/
def execReportWrite (s : State) : Host.Outcome State Fault Refusal := .next s.settle.reportWrite

/-- SLOT_START (R135). -/
def execSlotStart (s : State) : Host.Outcome State Fault Refusal := .next s.settle.startSlot

/-- SUPERFRAME_BOUNDARY (R151). -/
def execSuperframeBoundary (order : List Block) (s : State) : Host.Outcome State Fault Refusal :=
  let s := s.settle
  .next (if s.isUnanchored then s else s.boundary order)

/-- AGED_RELEASE (R32). -/
def execAgedRelease (s : State) : Host.Outcome State Fault Refusal :=
  .next (s.resolve fun c => match c with
    | .agedRelease _ => true
    | _ => false)

/-- HOLD_TIMEOUT (R33). -/
def execHoldTimeout (s : State) : Host.Outcome State Fault Refusal :=
  .next (s.resolve fun c => match c with
    | .holdTimeout _ => true
    | _ => false)

/-- BEACON_LOSS (R58). -/
def execBeaconLoss (s : State) : Host.Outcome State Fault Refusal :=
  .next (s.resolve fun c => match c with
    | .beaconLoss _ => true
    | _ => false)

/-- OPEN_TIMEOUT (R48). -/
def execOpenTimeout (s : State) : Host.Outcome State Fault Refusal :=
  .next (s.resolve fun c => match c with
    | .openTimeout _ => true
    | _ => false)

/-- BLOCK_HOLD_EXPIRY (R56). -/
def execBlockHoldExpiry (s : State) : Host.Outcome State Fault Refusal :=
  .next (s.resolve fun c => match c with
    | .blockHoldExpiry _ => true
    | _ => false)

/-- ROUTE_STALE (R102). -/
def execRouteStale (s : State) : Host.Outcome State Fault Refusal :=
  .next (s.resolve fun c => match c with
    | .routeStale _ => true
    | _ => false)

/-- ROUTE_AGE_POISON (R102). -/
def execRouteAgePoison (s : State) : Host.Outcome State Fault Refusal :=
  .next (s.resolve fun c => match c with
    | .routeAgePoison _ => true
    | _ => false)

/-- OWN_SEQUENCE_ADVANCE (R105). -/
def execOwnSequenceAdvance (s : State) : Host.Outcome State Fault Refusal :=
  .next (s.resolve fun c => c == .ownSequenceAdvance)

/-- SILENCE_LIMIT (R159). -/
def execSilenceLimit (s : State) : Host.Outcome State Fault Refusal :=
  .next (s.resolve fun c => c == .silenceLimit)

/-- HOLDOVER_TIMEOUT (R160). -/
def execHoldoverTimeout (s : State) : Host.Outcome State Fault Refusal :=
  .next (s.resolve fun c => c == .holdoverTimeout)

/-- OUTLIER_LIMIT (R158). -/
def execOutlierLimit (s : State) : Host.Outcome State Fault Refusal :=
  .next (s.resolve fun c => c == .outlierLimit)

/-- POISON_COUNT_EXPIRY (R106). -/
def execPoisonCountExpiry (s : State) : Host.Outcome State Fault Refusal :=
  .next (s.resolve fun c => match c with
    | .poisonCountExpiry _ => true
    | _ => false)

/-- QUIESCE_LIMIT (R190). -/
def execQuiesceLimit (s : State) : Host.Outcome State Fault Refusal :=
  .next (s.resolve fun c => c == .quiesceLimit)

/-- QUIESCE_END (R191). -/
def execQuiesceEnd (s : State) : Host.Outcome State Fault Refusal :=
  let s := s.finishWork
  .next (if s.quiesceDone then s.endQuiesce else s)

end Sys2Proof.Machine
end

