-- ==== Sys2Proof/Machine/Dispatch.lean ====
section
/-!
DEFINITION. The meaning of every command: one call each.
-/

namespace Sys2Proof.Machine

def exec (i : Instr) (s : State) : Host.Outcome State Fault Refusal :=
  match i with
  | .pinReset => Sys2Proof.Machine.execPinReset s
  | .resetNRelease anchorSel => Sys2Proof.Machine.execResetNRelease anchorSel s
  | .anchorWrite addr data => Sys2Proof.Machine.execAnchorWrite addr data s
  | .anchorCommit addr data => Sys2Proof.Machine.execAnchorCommit addr data s
  | .systemWrite addr data => Sys2Proof.Machine.execSystemWrite addr data s
  | .droppedWrite addr data => Sys2Proof.Machine.execDroppedWrite addr data s
  | .receiveCompletionWrite addr data => Sys2Proof.Machine.execReceiveCompletionWrite addr data s
  | .headerReadDone => Sys2Proof.Machine.execHeaderReadDone s
  | .beaconBodyReadDone => Sys2Proof.Machine.execBeaconBodyReadDone s
  | .claim => Sys2Proof.Machine.execClaim s
  | .outlierLimit => Sys2Proof.Machine.execOutlierLimit s
  | .holdBudgetExpiry => Sys2Proof.Machine.execHoldBudgetExpiry s
  | .heldWriteTaken => Sys2Proof.Machine.execHeldWriteTaken s
  | .rewriteTaken => Sys2Proof.Machine.execRewriteTaken s
  | .transmitCompletionWrite addr data => Sys2Proof.Machine.execTransmitCompletionWrite addr data s
  | .completionProcess => Sys2Proof.Machine.execCompletionProcess s
  | .descriptorFetch addr len => Sys2Proof.Machine.execDescriptorFetch addr len s
  | .descriptorWriteTaken => Sys2Proof.Machine.execDescriptorWriteTaken s
  | .skipWriteTaken => Sys2Proof.Machine.execSkipWriteTaken s
  | .commandPostWord addr data => Sys2Proof.Machine.execCommandPostWord addr data s
  | .localPostWord addr data => Sys2Proof.Machine.execLocalPostWord addr data s
  | .reportConsumedWord addr data => Sys2Proof.Machine.execReportConsumedWord addr data s
  | .commandFetch => Sys2Proof.Machine.execCommandFetch s
  | .nop seq => Sys2Proof.Machine.execNop seq s
  | .unknownCommand code seq => Sys2Proof.Machine.execUnknownCommand code seq s
  | .linkOpen seq link node floor ceiling attempts => Sys2Proof.Machine.execLinkOpen seq link node floor ceiling attempts s
  | .linkTune seq link selection values => Sys2Proof.Machine.execLinkTune seq link selection values s
  | .linkDrain seq link => Sys2Proof.Machine.execLinkDrain seq link s
  | .linkCut seq link => Sys2Proof.Machine.execLinkCut seq link s
  | .linkClear seq link => Sys2Proof.Machine.execLinkClear seq link s
  | .linkQuery seq link => Sys2Proof.Machine.execLinkQuery seq link s
  | .linkClimb seq link act => Sys2Proof.Machine.execLinkClimb seq link act s
  | .routePin seq dest link metric => Sys2Proof.Machine.execRoutePin seq dest link metric s
  | .routeUnpin seq dest => Sys2Proof.Machine.execRouteUnpin seq dest s
  | .routeQuery seq selector value => Sys2Proof.Machine.execRouteQuery seq selector value s
  | .planWrite seq context first count entries => Sys2Proof.Machine.execPlanWrite seq context first count entries s
  | .planSwitch seq context => Sys2Proof.Machine.execPlanSwitch seq context s
  | .planCancel seq => Sys2Proof.Machine.execPlanCancel seq s
  | .timingSet seq role propagation => Sys2Proof.Machine.execTimingSet seq role propagation s
  | .engineReset seq mode => Sys2Proof.Machine.execEngineReset seq mode s
  | .quiesceLimit => Sys2Proof.Machine.execQuiesceLimit s
  | .quiesceEnd => Sys2Proof.Machine.execQuiesceEnd s
  | .localEntryFetch => Sys2Proof.Machine.execLocalEntryFetch s
  | .localEntryReadDone => Sys2Proof.Machine.execLocalEntryReadDone s
  | .localHeaderReadDone => Sys2Proof.Machine.execLocalHeaderReadDone s
  | .localAdmission => Sys2Proof.Machine.execLocalAdmission s
  | .localIntakeRetry => Sys2Proof.Machine.execLocalIntakeRetry s
  | .taglessHandover => Sys2Proof.Machine.execTaglessHandover s
  | .reportWrite => Sys2Proof.Machine.execReportWrite s
  | .superframeBoundary order => Sys2Proof.Machine.execSuperframeBoundary order s
  | .agedRelease => Sys2Proof.Machine.execAgedRelease s
  | .holdTimeout => Sys2Proof.Machine.execHoldTimeout s
  | .beaconLoss => Sys2Proof.Machine.execBeaconLoss s
  | .openTimeout => Sys2Proof.Machine.execOpenTimeout s
  | .blockHoldExpiry => Sys2Proof.Machine.execBlockHoldExpiry s
  | .routeStale => Sys2Proof.Machine.execRouteStale s
  | .routeAgePoison => Sys2Proof.Machine.execRouteAgePoison s
  | .ownSequenceAdvance => Sys2Proof.Machine.execOwnSequenceAdvance s
  | .silenceLimit => Sys2Proof.Machine.execSilenceLimit s
  | .holdoverTimeout => Sys2Proof.Machine.execHoldoverTimeout s
  | .slotStart => Sys2Proof.Machine.execSlotStart s
  | .poisonCountExpiry => Sys2Proof.Machine.execPoisonCountExpiry s
  | .injectedWriteTaken => Sys2Proof.Machine.execInjectedWriteTaken s

end Sys2Proof.Machine
end

