-- ==== Sys2Proof/Machine/Step.lean ====
section
/-!
DEFINITION. One step of the part: the command at the front of the queue, or, on an empty queue, the passing of
time (log entry 13); and the host's `withFetchWord`.
-/

namespace Sys2Proof.Machine

/-- The row of an event that the timebase has brought about, or brings about with the next µs: the end of the
superframe, the start of a slot, the end of a hold budget. -/
def State.timeDue (s : State) : Option Instr :=
  if s.superframeEnd ≤ s.timing.timebase then some (.superframeBoundary [])
  else if s.timing.nextSlot < 64 ∧ s.slotTime s.timing.nextSlot ≤ s.timing.timebase then some .slotStart
  else if s.path.expires 1 then some .holdBudgetExpiry
  else none

/-- No command waits: what the last event has left is carried out; then, while the timebase runs, the row of an
event that is due is put in the queue, or one µs passes (log entry 13). -/
def State.idle (s : State) : State :=
  let s := s.settle
  if s.isUnanchored then s
  else
    match s.timeDue with
    | some c => { s with pending := s.pending ++ [c] }
    | none => s.elapse 1

/-- One step. -/
def step (s : State) : Host.Outcome State Fault Refusal :=
  match s.pending with
  | [] => .next s.idle
  | c :: rest => exec c { s with pending := rest }

/-- The state with the command a table word spells put at the front of its queue; no row of the table gives
bits, so no word spells a command and the state is unchanged (log entry 2). -/
def State.withFetchWord (s : State) (nbits w : Nat) : State :=
  match decodeTableWord nbits w with
  | some c => { s with pending := c :: s.pending }
  | none => s

end Sys2Proof.Machine
end

