-- ==== Sys2Proof/Safety.lean ====
section
/-!
DEFINITION. What a safe state of the part is: the laws the manual states of the machine as a whole, as one
predicate a step can be asked to keep; and the terms the statements use.
-/

namespace Sys2Proof.Machine

/-- R90: a next hop's metric lies below 65535. -/
def Hop.metricOk (h : Hop) : Bool := decide (h.metric < Config.saturated)

/-- R88, R90, R91: a route entry's fields lie in their ranges; the alternate is another link than the
primary. -/
def RouteBody.ok : RouteBody → Bool
  | .pinned h => h.metricOk
  | .live _ p q _ age =>
    p.metricOk && decide (age ≤ 255) &&
      (match q with
        | some q => q.metricOk && q.link != p.link
        | none => true)
  | .poisoned _ age count => decide (age ≤ 255) && decide (count ≤ 4)

/-- R72: a link record's estimate, cost, floor, ceiling, rate and weight lie in their ranges. -/
def LinkRec.metricOk (l : LinkRec) : Bool :=
  decide (l.estimate ≤ 32768) && decide (1 ≤ l.cost) && decide (l.cost ≤ 65535) &&
    decide (l.floor ≤ l.rate) && decide (l.rate ≤ l.ceiling) && decide (l.ceiling ≤ 7)

/-- The injection queue holds at most 16 accesses, and tails are kept only while it is full (R171). -/
def MemoryPath.queueOk (p : MemoryPath) : Bool :=
  decide (p.queue.length ≤ Config.injectionEntries) &&
    (p.tails.isEmpty || p.queue.length == Config.injectionEntries)

/-- R142: no more descriptors are in flight than the transmit ring has positions. -/
def Scheduler.ringOk (d : Scheduler) : Bool := decide (d.inFlight.length ≤ d.ringSize.getD 0)

/-- R72: every link record's figures lie in their ranges, and a climb runs only on an ACTIVE link, with a start
rate and a mark inside floor..ceiling. -/
def LinkRec.boundsOk (l : LinkRec) : Bool :=
  l.metricOk &&
    (!l.climbing ||
      (l.isActive &&
        (match l.climb with
          | some c =>
            decide (l.floor ≤ c.start) && decide (c.start ≤ l.ceiling) && decide (l.floor ≤ c.mark) &&
              decide (c.mark ≤ l.ceiling)
          | none => false)))

/-- Nothing of an event is left to carry out: no work waits and no quiesce is about to end. A command taken in
such a state acts on it as it stands (log entry 8). -/
def State.quiet (s : State) : Bool := s.work.isEmpty && !s.quiesceDone

/-- No system-side access waits and the held-write slot is EMPTY: an access that arrives has its turn at
once (R164). -/
def State.pathFree (s : State) : Bool := s.path.slot == .empty && s.path.waiting.isEmpty

/-- The entry is QUEUED on link `n` in class `c`. -/
def queuedAt (f : Option Frame) (n : LinkIx) (c : TrafficClass) : Bool :=
  match f with
  | some f => f.place == .queued n && f.cls == c
  | none => false

/-- The entry is HELD. -/
def heldEntry (f : Option Frame) : Bool :=
  match f with
  | some f => f.place == .held
  | none => false

/-- The entry is RELEASING. -/
def releasingEntry (f : Option Frame) : Bool :=
  match f with
  | some f =>
    match f.place with
    | .releasing _ => true
    | _ => false
  | none => false

/-- R17, R20, R21, R22: a QUEUED tag stands once, in the queue of its class of its link, a HELD tag once, on
the held list, a RELEASING tag once, in the release backlog, and no tag stands anywhere else; at most one
tagless item waits in the backlog. -/
structure State.PoolOk (s : State) : Prop where
  queued : ∀ (t : Tag) (n : LinkIx) (c : TrafficClass),
    ((s.queuesOf n).get c).count t = bit (queuedAt (s.frame t) n c)
  held : ∀ t : Tag, s.pool.heldList.count t = bit (heldEntry (s.frame t))
  releasing : ∀ t : Tag, s.pool.backlog.count (.entry t) = bit (releasingEntry (s.frame t))
  tagless : s.pool.backlog.countP ReleaseItem.isTagless ≤ 1

/-- The frame of a held entry goes to link `m`'s queue of class `c` at a re-evaluation made with the lookups
of `t` (R31). -/
def goesTo (t : State) (f : Option Frame) (m : LinkIx) (c : TrafficClass) : Bool :=
  match f with
  | some f => f.cls == c && t.lookup f.dest == some m
  | none => false

/-- The frame of a held entry stays on the list at a re-evaluation made with the lookups of `t` (R31). -/
def staysHeld (t : State) (f : Option Frame) : Bool :=
  match f with
  | some f => (t.lookup f.dest).isNone
  | none => true

/-- R31: `t` is `s` after a re-evaluation of the held list, as far as the pool goes: each held frame whose lookup
names a link is QUEUED there, with a budget and its age kept, the frames that move keep their order in their
queues, and those that stay theirs on the list. -/
structure State.Reevaluated (s t : State) : Prop where
  moved : ∀ (g : Tag) (f : Frame) (m : LinkIx), g ∈ s.pool.heldList → s.frame g = some f →
    t.lookup f.dest = some m →
    t.frame g = some { f with place := .queued m, budget := some (f.budget.getD (s.link m).defaultBudget) }
  stayed : ∀ (g : Tag) (f : Frame), g ∈ s.pool.heldList → s.frame g = some f → t.lookup f.dest = none →
    t.frame g = some f
  list : t.pool.heldList = s.pool.heldList.filter fun g => staysHeld t (s.frame g)
  queues : ∀ (m : LinkIx) (c : TrafficClass),
    (t.queuesOf m).get c = (s.queuesOf m).get c ++ s.pool.heldList.filter fun g => goesTo t (s.frame g) m c

/-- R52: how many data frames of link `n` are in flight at other ring positions than `pos`. -/
def State.othersInFlight (s : State) (pos : Nat) (n : LinkIx) : Nat :=
  (s.sched.inFlight.filter fun x => x.pos != pos).countP fun r => r.dataOf n

/-- The Route Table, the pending replies and the Timing Unit stand in `t` as in `s`: no link left the usable set
in between. -/
structure State.LinksKept (s t : State) : Prop where
  routes : t.routes = s.routes
  replies : t.linkTable.pendingReplies = s.linkTable.pendingReplies
  timing : t.timing = s.timing
  notice : t.reports.timingLatch = s.reports.timingLatch

/-- R103: `t` is the table `rt` once it was told that link `n` is unusable, entry by entry: an alternate is promoted,
keeping its link and metric; without one the entry is POISONED with count 4 and age 0, its sequence kept; the alternate
`n` is dropped; an entry that does not name `n`, a PINNED and a POISONED one are as they were. -/
structure RouteTable.LinkDropped (rt t : RouteTable) (n : LinkIx) : Prop where
  promoted : ∀ (p : RoutePos) (d : NodeId) (st : Bool) (h q : Hop) (sq : BitVec 16) (age : Nat),
    rt.entry p = some ⟨d, .live st h (some q) sq age⟩ → h.link = n →
    t.entry p = some ⟨d, .live st q none sq age⟩
  poisoned : ∀ (p : RoutePos) (d : NodeId) (st : Bool) (h : Hop) (sq : BitVec 16) (age : Nat),
    rt.entry p = some ⟨d, .live st h none sq age⟩ → h.link = n → t.entry p = some ⟨d, .poisoned sq 0 4⟩
  dropped : ∀ (p : RoutePos) (d : NodeId) (st : Bool) (h q : Hop) (sq : BitVec 16) (age : Nat),
    rt.entry p = some ⟨d, .live st h (some q) sq age⟩ → h.link ≠ n → q.link = n →
    t.entry p = some ⟨d, .live st h none sq age⟩
  unnamed : ∀ (p : RoutePos) (d : NodeId) (st : Bool) (h : Hop) (x : Option Hop) (sq : BitVec 16) (age : Nat),
    rt.entry p = some ⟨d, .live st h x sq age⟩ → h.link ≠ n → (∀ q, x = some q → q.link ≠ n) →
    t.entry p = some ⟨d, .live st h x sq age⟩
  others : ∀ p : RoutePos,
    (rt.entry p = none ∨ (∃ d h, rt.entry p = some ⟨d, .pinned h⟩) ∨
      ∃ d sq age k, rt.entry p = some ⟨d, .poisoned sq age k⟩) → t.entry p = rt.entry p
  rest : t = { rt with entries := t.entries }

/-- R45, R51, R103, R161: what `t` holds once the Route Table and the Timing Unit were told in `s` that link `n`
is gone, and its pending reply was removed. A parent is told by its link index alone (log entry 35). -/
structure State.LinkLost (s t : State) (n : LinkIx) : Prop where
  routes : s.routes.LinkDropped t.routes n
  replies : t.linkTable.pendingReplies =
    s.linkTable.pendingReplies.filter fun x => some x != (s.link n).neighbour
  parent : s.timing.state.parent = some n →
    t.timing = { s.timing with state := .seeking, adjust := 0 } ∧ t.reports.timingLatch = some ⟨.seeking⟩
  others : s.timing.state.parent ≠ some n →
    t.timing = s.timing ∧ t.reports.timingLatch = s.reports.timingLatch

/-- R20, R125: the stage of the Local Intake once the queued count of link `n` has fallen: STALLED on that link it has
its signal; any other stage is as it was. -/
def IntakeStage.afterFall (g : IntakeStage) (n : LinkIx) : IntakeStage :=
  match g with
  | .stalled e h m signal => .stalled e h m (signal || m == n)
  | x => x

/-- The entry holds a TABLE frame. -/
def tableFrame (f : Option Frame) : Bool :=
  match f with
  | some f => f.mode == .table
  | none => false

/-- The link a TABLE frame's lookup names in `t`; none for a VIA frame. -/
def State.tableRoute (t : State) (f : Option Frame) : Option LinkIx :=
  match f with
  | some f => if f.mode = .table then t.lookup f.dest else none
  | none => none

/-- The frame at the head of link `m`'s queue of class `c` when `g`, its entry now `f`, was returned there (R27). -/
def Frame.headOf (f : Frame) (g : Tag) (m : LinkIx) (c : TrafficClass) : List Tag :=
  if f.place = .queued m ∧ f.cls = c then [g] else []

/-- R27, placement: the entry of a frame returned to a target: QUEUED there; without one HELD with age 0 when it
is a TABLE frame and the held list has room, else RELEASING with NO_ROUTE. -/
def State.placedAt (s : State) (f : Frame) (target : Option LinkIx) : Frame :=
  match target with
  | some m => { f with place := .queued m }
  | none =>
    if f.mode = .table ∧ s.pool.heldList.length < s.pool.heldLimit then { f with place := .held, age := 0 }
    else { f with place := .releasing .noRoute }

/-- R27: the entry of a frame after an UNDELIVERED outcome that has it requeued to a target. -/
def State.requeuedAt (s : State) (f : Frame) (target : Option LinkIx) : Frame :=
  match f.budget with
  | some (b + 1) => s.placedAt { f with budget := some b } target
  | _ => { f with place := .releasing .undelivered }

/-- `t` holds `f` for the tag `g`, which joined the held list or the release backlog when its place says so, the
backlog behind the items `before`. -/
structure State.FramePlaced (s t : State) (g : Tag) (f : Frame) (before : List ReleaseItem) : Prop where
  entry : t.frame g = some f
  held : t.pool.heldList = s.pool.heldList ++ (if f.place = .held then [g] else [])
  backlog : t.pool.backlog = s.pool.backlog ++ before ++ (if releasingEntry (some f) then [.entry g] else [])

/-- R29: `t` is `s` after the diversion of link `n`'s queued frames: a TABLE frame whose lookup names another
link stands at the tail of that link's queue, in the order kept; every other one stays. `head` is what was then
put in front of each queue. The Local Intake is told when a frame has left link `n`'s queues (R20). -/
structure State.Diverted (s t : State) (n : LinkIx) (head : LinkIx → TrafficClass → List Tag) : Prop where
  moved : ∀ (x : Tag) (f : Frame) (m : LinkIx), x ∈ (s.queuesOf n).all → s.frame x = some f →
    t.tableRoute (some f) = some m → m ≠ n → t.frame x = some { f with place := .queued m }
  stayed : ∀ (x : Tag) (f : Frame), x ∈ (s.queuesOf n).all → s.frame x = some f →
    (t.tableRoute (some f) = none ∨ t.tableRoute (some f) = some n) → t.frame x = some f
  left : ∀ c : TrafficClass, (t.queuesOf n).get c = head n c ++ ((s.queuesOf n).get c).filter fun x =>
    t.tableRoute (s.frame x) == none || t.tableRoute (s.frame x) == some n
  joined : ∀ (m : LinkIx) (c : TrafficClass), m ≠ n →
    (t.queuesOf m).get c = head m c ++ (s.queuesOf m).get c ++
      ((s.queuesOf n).get c).filter fun x => t.tableRoute (s.frame x) == some m
  told : (∃ (x : Tag) (m : LinkIx), x ∈ (s.queuesOf n).all ∧ t.tableRoute (s.frame x) = some m ∧ m ≠ n) →
    t.intake = { s.intake with stage := s.intake.stage.afterFall n }
  untold : (∀ (x : Tag) (m : LinkIx), x ∈ (s.queuesOf n).all → t.tableRoute (s.frame x) = some m → m = n) →
    t.intake = s.intake

/-- R36: `t` is `s` after the CUT release of link `n`'s queued frames. `head` is what was then put in front of the
other links' queues. The Local Intake is told when there was a frame to release (R20). -/
structure State.QueueCut (s t : State) (n : LinkIx) (head : LinkIx → TrafficClass → List Tag) : Prop where
  frames : ∀ (x : Tag) (f : Frame), x ∈ (s.queuesOf n).all → s.frame x = some f →
    t.frame x = some { f with place := .releasing .cut }
  left : t.queuesOf n = ⟨[], [], [], []⟩
  others : ∀ (m : LinkIx) (c : TrafficClass), m ≠ n → (t.queuesOf m).get c = head m c ++ (s.queuesOf m).get c
  intake : t.intake = { s.intake with
    stage := if (s.queuesOf n).all = [] then s.intake.stage else s.intake.stage.afterFall n }

/-- R171: the first `k` accesses of the injection queue have been completed. -/
def State.dropHeads (s : State) (k : Nat) : State :=
  { s with path := s.path.fill ((s.path.queue ++ s.path.tails).drop k) }

/-- R163, R171: the bytes that the reads of a run answer, as memory stands. -/
def State.runBytes (s : State) (run : List ReadPiece) : List Byte :=
  run.flatMap fun p => ((memRead s.mem p.addr p.len).drop p.skip).take p.take

/-- A write that waits passes at its turn, and a read that waits covers no descriptor: neither does anything but
pass (R166, R170). -/
def State.onlyPasses (s : State) : Access → Prop
  | .write b e => s.writeAction b e = .passes
  | .read b n => s.fetchedPositions b n = []

/-- Packet memory after the writes among waiting accesses, in their order (R164). -/
def memAfter (m : Memory) (xs : List Access) : Memory :=
  xs.foldl (fun m x => match x with
    | .write b e => memWrite m b e
    | .read _ _ => m) m

/-- The laws of the whole machine that every step keeps. -/
structure State.Safe (s : State) : Prop where
  memory : Memory.wf s.mem = true
  links : ∀ n : LinkIx, (s.link n).boundsOk = true
  routes : ∀ (p : RoutePos) (e : RouteEntry), s.routes.entry p = some e → e.body.ok = true
  queue : s.path.queueOk = true
  ring : s.sched.ringOk = true
  pool : s.PoolOk

end Sys2Proof.Machine
end

