-- ==== Sys2Proof/WellFormed.lean ====
section
/-!
DEFINITION. Which commands are well formed: the shape of an access (R163), the order of a boundary, and a
command record's operands.
-/

namespace Sys2Proof

open Machine

/-- A system-side write has the shape of R163. -/
def writeWf (addr : BitVec 32) (data : List Byte) : Bool := accessOk addr.toNat data.length

/-- A system-side read has the shape of R163. -/
def readWf (addr : BitVec 32) (len : Nat) : Bool := accessOk addr.toNat len

/-- Every block takes a boundary exactly once (R151). -/
def orderWf (order : List Block) : Bool :=
  order.length == 5 &&
    [Block.framePool, .linkTable, .routeTable, .slotScheduler, .engine].all fun b => order.contains b

/-- A command is well formed. -/
def Instr.wf : Instr → Bool
  | .anchorWrite a d => writeWf a d
  | .anchorCommit a d => writeWf a d
  | .systemWrite a d => writeWf a d
  | .droppedWrite a d => writeWf a d
  | .receiveCompletionWrite a d => writeWf a d
  | .transmitCompletionWrite a d => writeWf a d
  | .commandPostWord a d => writeWf a d
  | .localPostWord a d => writeWf a d
  | .reportConsumedWord a d => writeWf a d
  | .descriptorFetch a n => readWf a n
  | .superframeBoundary order => orderWf order
  | .unknownCommand code _ => !commandCodes.contains code
  | .planWrite _ _ _ _ entries => entries.length == 16
  | .pinReset => true
  | .resetNRelease _ => true
  | .headerReadDone => true
  | .beaconBodyReadDone => true
  | .claim => true
  | .outlierLimit => true
  | .holdBudgetExpiry => true
  | .heldWriteTaken => true
  | .rewriteTaken => true
  | .completionProcess => true
  | .descriptorWriteTaken => true
  | .skipWriteTaken => true
  | .commandFetch => true
  | .nop _ => true
  | .linkOpen _ _ _ _ _ _ => true
  | .linkTune _ _ _ _ => true
  | .linkDrain _ _ => true
  | .linkCut _ _ => true
  | .linkClear _ _ => true
  | .linkQuery _ _ => true
  | .linkClimb _ _ _ => true
  | .routePin _ _ _ _ => true
  | .routeUnpin _ _ => true
  | .routeQuery _ _ _ => true
  | .planSwitch _ _ => true
  | .planCancel _ => true
  | .timingSet _ _ _ => true
  | .engineReset _ _ => true
  | .quiesceLimit => true
  | .quiesceEnd => true
  | .localEntryFetch => true
  | .localEntryReadDone => true
  | .localHeaderReadDone => true
  | .localAdmission => true
  | .localIntakeRetry => true
  | .taglessHandover => true
  | .reportWrite => true
  | .agedRelease => true
  | .holdTimeout => true
  | .beaconLoss => true
  | .openTimeout => true
  | .blockHoldExpiry => true
  | .routeStale => true
  | .routeAgePoison => true
  | .ownSequenceAdvance => true
  | .silenceLimit => true
  | .holdoverTimeout => true
  | .slotStart => true
  | .poisonCountExpiry => true
  | .injectedWriteTaken => true

end Sys2Proof
end

