-- ==== Sys2Proof/Certificates/Slice0/Obligations.lean ====
section
/-!
DEFINITION. The statements for the provers. A statement about a command is made of a `quiet` state (nothing of an
earlier event is left to carry out, log entry 8). Its conclusion is the next state, written out, or a next
state `t` with the equation `t = s with the fields the command may change`, which is its frame: every other
field, packet memory among them, is as it was.
-/

open Sys2Proof Sys2Proof.Machine

/-! ### Records, the step, reset -/

/-- Tables 12-7 and 12-8, R179, R192: reading the record of a well-formed software command gives the command,
with every operand; and whatever 32 bytes the command ring holds, they read as a well-formed command, a code
that names nothing as an unknown command and never as a neighbour of it. -/
def Obligations.CommandRecordsRoundTrip : Prop :=
  (∀ (c : Instr) (r : List Byte), c.wf = true → encodeCommand c = some r →
    r.length = 32 ∧ decodeCommand r = c) ∧
  (∀ r : List Byte, (decodeCommand r).wf = true ∧ (encodeCommand (decodeCommand r)).isSome = true ∧
    (byteAt r 0 ∉ commandCodes → decodeCommand r = .unknownCommand (byteAt r 0) (half r 2)))

/-- The model's choice (log entry 13): a step takes the command at the front of the queue and runs it with the
queue's rest. -/
def Obligations.StepRunsTheFrontCommand : Prop :=
  ∀ (s : State) (c : Instr) (rest : List Instr), s.pending = c :: rest →
    step s = exec c { s with pending := rest }

/-- The model's choice (log entry 13), over R151, R128 and R115: on an empty queue nothing happens while
UNANCHORED; otherwise the row of the event the timebase has brought about joins the queue, the boundary at the
superframe's end, else the start of the slot that has come, else the end of a hold budget of which one µs or
less is left; with none of them due one µs passes, which uses up a hold budget that runs. -/
def Obligations.EmptyQueueLetsTimePass : Prop :=
  ∀ s : State, s.pending = [] → s.quiet = true →
    (s.path.engine = .unanchored → step s = .next s) ∧
    (s.path.engine ≠ .unanchored → s.superframeEnd ≤ s.timing.timebase →
      step s = .next { s with pending := [.superframeBoundary []] }) ∧
    (s.path.engine ≠ .unanchored → s.timing.timebase < s.superframeEnd → s.timing.nextSlot < 64 →
      s.slotTime s.timing.nextSlot ≤ s.timing.timebase → step s = .next { s with pending := [.slotStart] }) ∧
    (s.path.engine ≠ .unanchored → s.timing.timebase < s.superframeEnd →
      (64 ≤ s.timing.nextSlot ∨ s.timing.timebase < s.slotTime s.timing.nextSlot) →
      (∀ a d k, s.path.slot = .deciding a d k → k ≤ 1 →
        step s = .next { s with pending := [.holdBudgetExpiry] }) ∧
      (∀ a d k, s.path.slot = .deciding a d (k + 2) →
        step s = .next { s with
          timing := { s.timing with timebase := s.timing.timebase + 1 }
          pins := { s.pins with sfs := s.pins.sfs.drop 1 }
          path := { s.path with slot := .deciding a d (k + 1) } }) ∧
      ((∀ a d k, s.path.slot ≠ .deciding a d k) →
        step s = .next { s with
          timing := { s.timing with timebase := s.timing.timebase + 1 }
          pins := { s.pins with sfs := s.pins.sfs.drop 1 } }))

/-- R38, R37, R51, R43, R70, R111, R115, R122, R129, R150, R10, R146, R162, R165, R177, R181: the values of a pin
reset, by the tables of the chapters: 2-6 and 2-7, 3-2 and 3-5, 5-3 and 5-4, 7-2, 8-3, and those of the Memory
Path, the Local Intake, the Command Unit and the Report Writer. -/
def Obligations.ResetHasTheManualsValues : Prop :=
  (State.reset.path.engine = .unanchored ∧ State.reset.path.windows = none ∧
    State.reset.path.slot = .empty ∧ State.reset.path.waiting = [] ∧ State.reset.path.queue = [] ∧
    State.reset.path.tails = [] ∧ State.reset.path.holdBudget = 4 ∧
    (∀ p, State.reset.mark p = .none) ∧ State.reset.path.staging = List.replicate 256 0) ∧
  (State.reset.classifier = .idle ∧ State.reset.intake = ⟨0, 0, .idle⟩) ∧
  ((∀ g, State.reset.frame g = none) ∧ State.reset.freeCount = 512 ∧ State.reset.pool.heldList = [] ∧
    State.reset.pool.backlog = [] ∧ (∀ n, State.reset.queuedCount n = 0) ∧
    State.reset.pool.heldLimit = 32 ∧ State.reset.pool.reserve = 32 ∧
    State.reset.pool.maxAgeExpedited = 4 ∧ State.reset.pool.maxAgeInteractive = 8 ∧
    State.reset.pool.maxAgeBulk = 64 ∧ State.reset.pool.maxAgeBackground = 255 ∧
    State.reset.pool.holdTimeout = 8) ∧
  ((∀ n, State.reset.link n =
      { neighbour := none, state := .empty, floor := 0, ceiling := 7, attempts := 4, rate := 0, pace := 0,
        estimate := 16384, cost := 4072, undelivered := 0, missCount := 0, heard := false,
        probeSent := false, defaultBudget := 1, weight := 4, upStep := 4, downStep := 1,
        blockThreshold := 2, blockHold := 16, queueCap := 96, interleave := 0, climb := none,
        lastDelivered := false, lastRetried := false, climbing := false,
        sticky := ⟨false, false, false, false, false⟩, attention := 0, planPair := none,
        timingPair := none }) ∧
    (∀ n, (State.reset.link n).atFloor = true ∧ (State.reset.link n).atCeiling = false) ∧
    State.reset.linkTable.pendingReplies = [] ∧ State.reset.linkTable.openTimeout = 16 ∧
    State.reset.linkTable.missLimit = 8 ∧ State.reset.linkTable.acceptUnsolicited = false) ∧
  ((∀ p, State.reset.routes.entry p = none) ∧ State.reset.routes.cursor = 0 ∧
    State.reset.routes.ownSeq = 0 ∧ State.reset.routes.boundaryCount = 0 ∧
    State.reset.routes.penalty = 40 ∧ State.reset.routes.hysteresis = 20 ∧
    State.reset.routes.startSeq = 0) ∧
  ((∀ c, (State.reset.sched.plan c).generation = 0 ∧ bankGet (State.reset.sched.plan c).slots 0 = .beacon ∧
      ∀ j, j ≠ 0 → bankGet (State.reset.sched.plan c).slots j = .shared) ∧
    State.reset.sched.active = .a ∧ State.reset.sched.stage = .none ∧ State.reset.sched.slotFactor = 4 ∧
    State.reset.sched.ringSize = none ∧ State.reset.sched.producer = 0 ∧ State.reset.sched.lap = false ∧
    State.reset.sched.inFlight = [] ∧ (∀ b, State.reset.bufferFree b = true) ∧
    State.reset.sched.nextBeacon = false ∧ State.reset.sched.probePointer = 15 ∧
    State.reset.completion = ⟨[], 0⟩) ∧
  (State.reset.timing.timebase = 0 ∧ State.reset.timing.number = 0 ∧ State.reset.timing.adjust = 0 ∧
    State.reset.timing.stepEnd = none ∧ State.reset.timing.role = .follower ∧
    State.reset.timing.pendingRoot = false ∧ State.reset.timing.propagation = 2 ∧
    State.reset.timing.state = .seeking ∧ State.reset.timing.outliers = 0 ∧
    State.reset.timing.silence = 0 ∧ State.reset.timing.holdover = 0 ∧ State.reset.timing.heard = false ∧
    (∀ n, bankGet State.reset.timing.sightings n = none)) ∧
  (State.reset.command = ⟨0, 0, .idle, []⟩ ∧ State.reset.reports.producer = 0 ∧
    State.reset.reports.phase = false ∧ State.reset.reports.consumed = 0 ∧
    State.reset.reports.planLatch = none ∧ State.reset.reports.timingLatch = none ∧
    State.reset.reports.intEnable = false ∧ State.reset.reports.chosen = none ∧ State.reset.int = false)

/-- The laws of `State.Safe` hold right after reset, and nothing is left to carry out. -/
def Obligations.ResetIsSafe : Prop := State.Safe State.reset ∧ State.reset.quiet = true

/-! ### What every step keeps -/

/-- The model's choice (log entry 4): packet memory, kept as a list of cells, keeps its canonical form. -/
def Obligations.StepKeepsMemoryForm : Prop :=
  ∀ s t : State, Memory.wf s.mem = true → step s = .next t → Memory.wf t.mem = true

/-- R72: the delivery estimate, the cost and the rate of every link record stay in their ranges. The bounds
carry the climb with them, since an act of a climb writes r and the ceiling. -/
def Obligations.StepKeepsLinkBounds : Prop :=
  ∀ s t : State, (∀ n, (s.link n).boundsOk = true) → step s = .next t →
    ∀ n, (t.link n).boundsOk = true ∧ (t.link n).estimate ≤ 32768 ∧ 1 ≤ (t.link n).cost ∧
      (t.link n).cost ≤ 65535 ∧ (t.link n).floor ≤ (t.link n).rate ∧ (t.link n).rate ≤ (t.link n).ceiling

/-- R90, R91: no next hop of a route entry has the metric 65535, and an alternate is another link than its
primary. -/
def Obligations.StepKeepsRouteMetrics : Prop :=
  ∀ s t : State, (∀ p e, s.routes.entry p = some e → e.body.ok = true) → step s = .next t →
    ∀ p e, t.routes.entry p = some e → e.body.ok = true

/-- R17, R20, R21, R22: every tag stands in the one place its entry's state names, and at most one tagless item
waits in the release backlog. -/
def Obligations.StepKeepsPoolPlaces : Prop :=
  ∀ s t : State, s.PoolOk → step s = .next t → t.PoolOk

/-- R171: the injection queue never holds more than 16 accesses, and an issuer keeps a tail only while it is
full. -/
def Obligations.StepKeepsInjectionQueue : Prop :=
  ∀ s t : State, s.path.queueOk = true → step s = .next t →
    t.path.queueOk = true ∧ t.path.queue.length ≤ 16 ∧ (t.path.tails = [] ∨ t.path.queue.length = 16)

/-- R142: the number of in-flight descriptors never exceeds the transmit ring size. -/
def Obligations.StepKeepsInFlightBound : Prop :=
  ∀ s t : State, s.sched.inFlight.length ≤ s.sched.ringSize.getD 0 → step s = .next t →
    t.sched.inFlight.length ≤ t.sched.ringSize.getD 0

/-! ### The Memory Path -/

/-- The model's choice (log entry 3) over R163: an access that is not a power of two of 1..64 bytes, naturally
aligned and inside the address space is a fault, in every row that is a system-side access. -/
def Obligations.MalformedAccessesFault : Prop :=
  ∀ (s : State) (a : BitVec 32) (d : List Byte) (n : Nat),
    (accessOk a.toNat d.length = false →
      exec (.anchorWrite a d) s = .fault .malformedAccess ∧
      exec (.anchorCommit a d) s = .fault .malformedAccess ∧
      exec (.systemWrite a d) s = .fault .malformedAccess ∧
      exec (.droppedWrite a d) s = .fault .malformedAccess ∧
      exec (.receiveCompletionWrite a d) s = .fault .malformedAccess ∧
      exec (.transmitCompletionWrite a d) s = .fault .malformedAccess ∧
      exec (.commandPostWord a d) s = .fault .malformedAccess ∧
      exec (.localPostWord a d) s = .fault .malformedAccess ∧
      exec (.reportConsumedWord a d) s = .fault .malformedAccess) ∧
    (accessOk a.toNat n = false → exec (.descriptorFetch a n) s = .fault .malformedAccess)

/-- R163: the writes of a run are accesses of the form every access has, follow one another without a gap and
cover exactly the bytes concerned. -/
def Obligations.WriteRunsCoverTheirBytes : Prop :=
  ∀ (a : Nat) (d : List Byte), a + d.length ≤ 4294967296 →
    (writeRun a d).flatMap Prod.snd = d ∧
    (∀ w ∈ writeRun a d, accessOk w.1 w.2.length = true ∧ w.1 / 64 = (w.1 + w.2.length - 1) / 64) ∧
    (∀ (i : Nat) (w : Nat × List Byte), (writeRun a d)[i]? = some w →
      w.1 = a + (((writeRun a d).take i).flatMap Prod.snd).length)

/-- R166, R172: a system-side write whose action is to pass reaches memory, and nothing else changes; while the
injection queue is full its heads are taken first, until an entry stands free. A write that touches no window passes while RUNNING or QUIESCING, and
every write outside the anchor window passes while UNANCHORED. A write any byte of which lies in the transmit
ring, the report ring or the frame area is completed without reaching memory while RUNNING or QUIESCING. -/
def Obligations.SystemWritesPassOrAreDropped : Prop :=
  ∀ (s : State) (a : BitVec 32) (d : List Byte), s.quiet = true → s.pathFree = true →
    accessOk a.toNat d.length = true →
    (s.writeAction a.toNat d = .passes → s.queueFull = false →
      exec (.systemWrite a d) s = .next { s with mem := memWrite s.mem a.toNat d }) ∧
    (∀ k, s.writeAction a.toNat d = .passes → k ≤ 512 →
      (∀ i, i < k → (Nat.iterate State.takeHead i s).queueFull = true) →
      (Nat.iterate State.takeHead k s).queueFull = false →
      exec (.systemWrite a d) s = .next ((Nat.iterate State.takeHead k s).store a.toNat d).proceed) ∧
    (∀ w, s.path.engine ≠ .unanchored → s.path.windows = some w →
      (∀ r ∈ w.ranges, overlaps a.toNat d.length r.1 r.2 = false) → s.writeAction a.toNat d = .passes) ∧
    (∀ sel, s.path.engine = .unanchored → s.pins.anchorSel = some sel →
      inside a.toNat d.length (anchorBase sel) 256 = false → s.writeAction a.toNat d = .passes) ∧
    (∀ w, s.path.engine ≠ .unanchored → s.path.windows = some w →
      (overlaps a.toNat d.length w.txBase (16 * w.txSize) = true ∨
        overlaps a.toNat d.length w.repBase (32 * w.repSize) = true ∨
        overlaps a.toNat d.length w.frameBase 4096 = true) →
      exec (.droppedWrite a d) s = .next s)

/-- R174: while UNANCHORED a write into the anchor window that covers no byte of the commit field passes to
memory and replaces the staging bytes at the same offset; nothing else changes. -/
def Obligations.AnchorWritesAreStaged : Prop :=
  ∀ (s : State) (sel : BitVec 2) (a : BitVec 32) (d : List Byte), s.quiet = true → s.pathFree = true →
    s.queueFull = false → accessOk a.toNat d.length = true → s.path.engine = .unanchored →
    s.pins.anchorSel = some sel → inside a.toNat d.length (anchorBase sel) 256 = true →
    overlaps (a.toNat - anchorBase sel) d.length 0xFC 4 = false →
    exec (.anchorWrite a d) s = .next { s with
      mem := memWrite s.mem a.toNat d
      path := { s.path with staging := overlay s.path.staging (a.toNat - anchorBase sel) d } }

/-- R175, R165, R37, R43, R110, R115, R128, R150, R153, R162, R181, R186: a write of the commit field. On a
failing validation the status code is written to the status word and nothing else changes but what R174
captures; on OK every block takes its commit values and the engine is RUNNING, with the status write the one access
of an injection queue that is empty but for it. That an access which an UNANCHOR left queued, and which the port has
not taken by then, is lost with the rest of the queue is the model's reading (log entry 16). -/
def Obligations.CommitValidatesTheAnchor : Prop :=
  ∀ (s : State) (sel : BitVec 2) (a : BitVec 32) (d st : List Byte), s.quiet = true → s.pathFree = true →
    s.queueFull = false → accessOk a.toNat d.length = true → s.path.engine = .unanchored →
    s.pins.anchorSel = some sel → inside a.toNat d.length (anchorBase sel) 256 = true →
    overlaps (a.toNat - anchorBase sel) d.length 0xFC 4 = true →
    st = overlay s.path.staging (a.toNat - anchorBase sel) d →
    (∀ c, validate sel st = c → c ≠ .ok →
      exec (.anchorCommit a d) s = .next (State.issue { s with
        mem := memWrite s.mem a.toNat d
        path := { s.path with staging := st } }
        [.write .anchorStatus (anchorBase sel + 0xF8) (natWord c.code)])) ∧
    (validate sel st = .ok →
      ∃ t, exec (.anchorCommit a d) s = .next t ∧
        t.mem = memWrite s.mem a.toNat d ∧ t.pending = s.pending ∧ t.work = [] ∧ t.freeIndex = s.freeIndex ∧
        t.pins = { s.pins with sfs := [] } ∧
        t.path.engine = .running ∧ t.path.windows = some (stagedWindows st) ∧ t.path.ownId = half st 0 ∧
        t.path.slot = .empty ∧ t.path.waiting = [] ∧
        t.path.staging = List.replicate 256 0 ∧ (∀ p, t.mark p = .none) ∧
        t.path.holdBudget = max 1 (min 15 (byteAt st 0x4A).toNat) ∧
        t.path.queue = [.write .anchorStatus (anchorBase sel + 0xF8) (natWord 1)] ∧ t.path.tails = [] ∧
        t.pool.heldLimit = min 32 (byteAt st 0x40).toNat ∧ t.pool.reserve = min 64 (byteAt st 0x41).toNat ∧
        t.pool.maxAgeExpedited = max 1 (byteAt st 0x42).toNat ∧
        t.pool.maxAgeInteractive = max 1 (byteAt st 0x43).toNat ∧
        t.pool.maxAgeBulk = max 1 (byteAt st 0x44).toNat ∧
        t.pool.maxAgeBackground = max 1 (byteAt st 0x45).toNat ∧
        t.pool.holdTimeout = max 1 (min 63 (byteAt st 0x46).toNat) ∧ (∀ g, t.frame g = none) ∧
        t.pool.heldList = [] ∧ t.pool.backlog = [] ∧ (∀ n, t.queuedCount n = 0) ∧
        t.linkTable.openTimeout = max 4 (byteAt st 0x47).toNat ∧
        t.linkTable.missLimit = max 2 (min 32 (byteAt st 0x48).toNat) ∧
        t.linkTable.acceptUnsolicited = (byteAt st 0x49).getLsbD 0 ∧
        t.linkTable.pendingReplies = [] ∧ (∀ n, t.link n = LinkRec.reset) ∧
        t.routes.penalty = (byteAt st 0x4B).toNat ∧ t.routes.hysteresis = (byteAt st 0x4C).toNat ∧
        t.routes.ownSeq = half st 0x50 ∧ t.routes.startSeq = half st 0x50 ∧ t.routes.boundaryCount = 0 ∧ t.routes.cursor = 0 ∧
        (∀ p, t.routes.entry p = none) ∧
        t.sched.slotFactor = max 1 (min 8 (byteAt st 0x4D).toNat) ∧
        t.sched.ringSize = some (half st 0x14).toNat ∧ t.sched.producer = 0 ∧ t.sched.lap = false ∧
        t.sched.inFlight = [] ∧ t.sched.planA = Plan.reset ∧ t.sched.planB = Plan.reset ∧
        t.sched.active = .a ∧ t.sched.stage = .none ∧ t.sched.probePointer = 15 ∧
        (∀ b, t.bufferFree b = true) ∧ t.sched.nextBeacon = false ∧
        t.completion = ⟨[], 0⟩ ∧ t.timing.timebase = 0 ∧ t.timing.number = 0 ∧ t.timing.adjust = 0 ∧
        t.timing.stepEnd = none ∧ t.timing.pendingRoot = false ∧ t.timing.outliers = 0 ∧
        t.timing.silence = 0 ∧ t.timing.holdover = 0 ∧ t.timing.heard = false ∧
        (∀ n, bankGet t.timing.sightings n = none) ∧ t.timing.propagation = min 7 (byteAt st 0x4F).toNat ∧
        t.timing.role = (if byteAt st 0x4E = 1 then .root else .follower) ∧
        t.timing.state = (if byteAt st 0x4E = 1 then .root else .seeking) ∧
        t.reports.timingLatch = some ⟨t.timing.state⟩ ∧ t.reports.planLatch = none ∧
        t.reports.producer = 0 ∧ t.reports.phase = false ∧ t.reports.consumed = 0 ∧
        t.reports.intEnable = (byteAt st 0x49).getLsbD 1 ∧
        t.reports.chosen = none ∧ t.command = ⟨0, 0, .idle, []⟩ ∧ t.intake = ⟨0, 0, .idle⟩ ∧ t.classifier = .idle)

/-- R167, R112, R113, R166: a 16-byte write at the receive completion ring with status RX_OK, taken while
RUNNING with the slot EMPTY, is held with the hold budget, and the decision begins, its header read issued when
the length passes; with another status, or while QUIESCING, it passes. -/
def Obligations.ReceiveCompletionsAreHeld : Prop :=
  ∀ (s : State) (w : Windows) (a : BitVec 32) (d : List Byte), s.quiet = true → s.pathFree = true →
    accessOk a.toNat d.length = true → d.length = 16 → s.path.windows = some w →
    w.owns a.toNat 16 = false → inside a.toNat 16 w.rxBase (16 * w.rxSize) = true →
    (s.path.engine = .running → rxStatus d = 1 → lengthOk (rxLength d) = true →
      exec (.receiveCompletionWrite a d) s = .next (State.issue { s with
        path := { s.path with slot := .deciding a.toNat d s.path.holdBudget }
        classifier := .deciding (rxBuffer d) (rxLength d) (.header []) }
        (readAccesses .classifierHeader (rxBuffer d) 20))) ∧
    (s.path.engine = .running → rxStatus d = 1 → lengthOk (rxLength d) = false →
      exec (.receiveCompletionWrite a d) s = .next { s with
        path := { s.path with slot := .deciding a.toNat d s.path.holdBudget }
        classifier := .deciding (rxBuffer d) (rxLength d) (.malformed [] []) }) ∧
    (s.path.engine ≠ .unanchored → (rxStatus d ≠ 1 ∨ s.path.engine ≠ .running) → s.queueFull = false →
      exec (.receiveCompletionWrite a d) s = .next { s with mem := memWrite s.mem a.toNat d })

/-- R168: a 16-byte write at the transmit completion ring, taken while RUNNING or QUIESCING, is copied into the
completion queue with its ring position and passes; with 32 records queued it waits in the held-write slot. -/
def Obligations.TransmitCompletionsAreCopied : Prop :=
  ∀ (s : State) (w : Windows) (a : BitVec 32) (d : List Byte), s.quiet = true → s.pathFree = true →
    accessOk a.toNat d.length = true → d.length = 16 → s.path.engine ≠ .unanchored →
    s.path.windows = some w → w.owns a.toNat 16 = false →
    inside a.toNat 16 w.rxBase (16 * w.rxSize) = false →
    inside a.toNat 16 w.txcBase (16 * w.txSize) = true →
    (s.completion.queue.length < 32 → s.queueFull = false →
      exec (.transmitCompletionWrite a d) s = .next { s with
        mem := memWrite s.mem a.toNat d
        completion := { s.completion with
          queue := s.completion.queue ++ [⟨(a.toNat - w.txcBase) / 16, d⟩] } }) ∧
    (32 ≤ s.completion.queue.length →
      exec (.transmitCompletionWrite a d) s = .next { s with
        path := { s.path with slot := .waiting a.toNat d ((a.toNat - w.txcBase) / 16) } })

/-- R169, R177, R182, R185, R186: a write of a whole post word passes and is captured; a value outside its ring, or
off the span from C forward to P, is ignored. After a consumed word INT is asserted while the enable is set and P
still differs from C. -/
def Obligations.PostWordsAreCaptured : Prop :=
  ∀ (s : State) (w : Windows) (a : BitVec 32) (d : List Byte) (v : Nat), s.quiet = true →
    s.pathFree = true → s.queueFull = false → accessOk a.toNat d.length = true → d.length = 4 →
    s.path.engine ≠ .unanchored → s.path.windows = some w → w.owns a.toNat 4 = false →
    v = (word d 0).toNat →
    (a.toNat = w.cmdPost →
      exec (.commandPostWord a d) s = .next { s with
        mem := memWrite s.mem a.toNat d
        command := { s.command with post := if v < w.cmdSize then v else s.command.post } }) ∧
    (a.toNat = w.localPost → a.toNat ≠ w.cmdPost →
      exec (.localPostWord a d) s = .next { s with
        mem := memWrite s.mem a.toNat d
        intake := { s.intake with post := if v < w.localSize then v else s.intake.post } }) ∧
    (a.toNat = w.repConsumed → a.toNat ≠ w.cmdPost → a.toNat ≠ w.localPost →
      ∃ t, exec (.reportConsumedWord a d) s = .next t ∧
        t = { s with
          mem := memWrite s.mem a.toNat d
          reports := { s.reports with
            consumed :=
              if v < w.repSize ∧ (v + w.repSize - s.reports.consumed) % w.repSize ≤
                (s.reports.producer + w.repSize - s.reports.consumed) % w.repSize
              then v else s.reports.consumed } } ∧
        (t.int = true ↔ s.reports.intEnable = true ∧ s.reports.producer ≠ t.reports.consumed))

/-- R170, R143, R25: a read that covers the first 8 bytes of one transmit ring position whose mark is WRITTEN
makes the mark FETCHED; the record in flight there is marked fetched, and the entry of the data frame it carries
goes from IN_RING to FETCHED; at any other mark the read only passes. -/
def Obligations.DescriptorFetchesAreMarked : Prop :=
  ∀ (s : State) (w : Windows) (a : BitVec 32) (n p : Nat), s.quiet = true → s.pathFree = true →
    s.queueFull = false → s.path.engine ≠ .unanchored → s.path.windows = some w → p < w.txSize →
    w.txSize ≤ 256 → a.toNat = w.txBase + 16 * p → (n = 8 ∨ n = 16) → accessOk a.toNat n = true →
    (s.mark p ≠ .written → exec (.descriptorFetch a n) s = .next s) ∧
    (s.mark p = .written →
      ∃ t, exec (.descriptorFetch a n) s = .next t ∧
        t = { s with
          path := { s.path with marks := t.path.marks }
          sched := { s.sched with inFlight := t.sched.inFlight }
          pool := { s.pool with entries := t.pool.entries } } ∧
        t.mark p = .fetched ∧ (∀ q, q ≠ p → t.mark q = s.mark q) ∧
        ((s.inFlightAt p = none ∨ ∃ r, s.inFlightAt p = some r ∧ r.fetched = true) →
          t.sched = s.sched ∧ t.pool = s.pool) ∧
        (∀ r, s.inFlightAt p = some r → r.fetched = false →
          t.sched.inFlight = (s.sched.inFlight.map fun x =>
            if x.pos = p then { x with fetched := true } else x) ∧
          (∀ g m f k q, r.carried = .data g m → s.frame g = some f → f.place = .inRing k q →
            t.pool.entries = bankPut s.pool.entries g (some { f with place := .fetched k q })) ∧
          (((∀ g m, r.carried ≠ .data g m) ∨
              ∃ g m, r.carried = .data g m ∧ ∀ f k q, s.frame g = some f → f.place ≠ .inRing k q) →
            t.pool = s.pool)))

/-- R164: behind a held write every system-side write waits, whatever its address. A read waits when it overlaps
the held write or a write that waits behind it; one that overlaps neither passes ahead of them, and what waits
waits on. -/
def Obligations.HeldWriteDelaysAccesses : Prop :=
  ∀ (s : State) (a : BitVec 32), s.quiet = true → s.path.slot ≠ .empty →
    (∀ d : List Byte, accessOk a.toNat d.length = true →
      exec (.systemWrite a d) s = .next { s with
        path := { s.path with waiting := s.path.waiting ++ [.write a.toNat d] } }) ∧
    (∀ n, accessOk a.toNat n = true →
      (overlaps a.toNat n s.path.slot.range.1 s.path.slot.range.2 = true ∨
        ∃ b d, .write b d ∈ s.path.waiting ∧ overlaps a.toNat n b d.length = true) →
      exec (.descriptorFetch a n) s = .next { s with
        path := { s.path with waiting := s.path.waiting ++ [.read a.toNat n] } }) ∧
    (∀ n, accessOk a.toNat n = true → s.queueFull = false →
      overlaps a.toNat n s.path.slot.range.1 s.path.slot.range.2 = false →
      (∀ b d, .write b d ∈ s.path.waiting → overlaps a.toNat n b d.length = false) →
      (∀ (i : Nat) b m, s.path.waiting[i]? = some (.read b m) →
        overlaps b m s.path.slot.range.1 s.path.slot.range.2 = true ∨
          ∃ (j : Nat) (c : Nat) (d : List Byte), j < i ∧ s.path.waiting[j]? = some (.write c d) ∧
            overlaps b m c d.length = true) →
      s.fetchedPositions a.toNat n = [] → exec (.descriptorFetch a n) s = .next s)

/-- R167, R164: a held write released unchanged reaches memory when the port takes it, and the slot becomes EMPTY;
a claimed one released by rewrite never reaches memory: the rewrite does, and empties the slot. The accesses that
waited behind it then proceed in their order: those that pass reach memory one after another, and a receive
completion record takes the slot in its turn while the writes behind it wait on. That a waiting access is sorted by
its window when its turn comes, and not when it reached the part, is the model's reading (log entry 17); that those
which waited are taken in the same step as the release, in the order of their arrival and with no other event between,
is its choice (log entry 37). -/
def Obligations.HeldWritesAreReleased : Prop :=
  ∀ (s : State) (a : Nat) (d : List Byte), s.quiet = true →
    (s.path.slot = .released a d ∨ s.path.slot = .claimed a d false → s.queueFull = false →
      (s.path.waiting = [] →
        exec .heldWriteTaken s = .next { s with
          mem := memWrite s.mem a d
          path := { s.path with slot := .empty } }) ∧
      ((∀ x ∈ s.path.waiting, match x with
          | .write b e => s.writeAction b e = .passes
          | .read b n => s.fetchedPositions b n = []) →
        exec .heldWriteTaken s = .next { s with
          mem := s.path.waiting.foldl (fun m x => match x with
            | .write b e => memWrite m b e
            | .read _ _ => m) (memWrite s.mem a d)
          path := { s.path with slot := .empty, waiting := [] } }) ∧
      (∀ (b : Nat) (e : List Byte) (rest : List Access), s.path.waiting = .write b e :: rest →
        s.writeAction b e = .held → (∀ x ∈ rest, x.isWrite = true) → lengthOk (rxLength e) = true →
        exec .heldWriteTaken s = .next (State.issue { s with
          mem := memWrite s.mem a d
          path := { s.path with slot := .deciding b e s.path.holdBudget, waiting := rest }
          classifier := .deciding (rxBuffer e) (rxLength e) (.header []) }
          (readAccesses .classifierHeader (rxBuffer e) 20)))) ∧
    (∀ (r : List Byte) (rest : List Injected), s.path.slot = .claimed a r true →
      s.path.queue = .write .rewrite a d :: rest →
      (s.path.waiting = [] →
        exec .rewriteTaken s = .next { s.dropHead with
          mem := memWrite s.mem a d
          path := { s.dropHead.path with slot := .empty } }) ∧
      (s.dropHead.queueFull = false →
        (∀ x ∈ s.path.waiting, match x with
          | .write b e => s.writeAction b e = .passes
          | .read b n => s.fetchedPositions b n = []) →
        exec .rewriteTaken s = .next { s.dropHead with
          mem := s.path.waiting.foldl (fun m x => match x with
            | .write b e => memWrite m b e
            | .read _ _ => m) (memWrite s.mem a d)
          path := { s.dropHead.path with slot := .empty, waiting := [] } }))

/-- R171, R170, R144: the write at the head of the injection queue reaches memory when the port takes it, and a
descriptor write makes its position's mark WRITTEN; while a released held write waits and the queue is not full,
the port does not take the head (R172). A SKIP write passes unless its position's mark is FETCHED; then it is
discarded and the recalled flag of the record there is cleared. -/
def Obligations.InjectedWritesReachMemory : Prop :=
  ∀ (s : State) (a : Nat) (d : List Byte) (rest : List Injected), s.quiet = true →
    (∀ what, what = .patch ∨ what = .ownFrame ∨ what = .report ∨ what = .anchorStatus →
      s.path.queue = .write what a d :: rest →
      (s.headTurn = true →
        exec .injectedWriteTaken s = .next { s.dropHead with mem := memWrite s.mem a d }) ∧
      (s.headTurn = false → exec .injectedWriteTaken s = .next s)) ∧
    (∀ p, s.path.queue = .write (.descriptor p) a d :: rest → s.headTurn = true →
      exec .descriptorWriteTaken s =
        .next (State.setMark { s.dropHead with mem := memWrite s.mem a d } p .written)) ∧
    (∀ p, s.path.queue = .write (.skip p) a d :: rest → s.headTurn = true →
      (s.mark p ≠ .fetched →
        exec .skipWriteTaken s = .next { s.dropHead with mem := memWrite s.mem a d }) ∧
      (s.mark p = .fetched →
        exec .skipWriteTaken s = .next { s.dropHead with
          sched := { s.sched with inFlight := s.sched.inFlight.map fun r =>
            if r.pos = p then { r with recalled := false } else r } }))

/-- R188, R173: a pin reset takes every block to its reset values and loses what was queued, and a held write
goes to memory unchanged; the straps are sampled when RESET_N is released. That the writes which wait behind the
held one follow it in their order is the model's reading (log entry 31). -/
def Obligations.PinResetReleasesTheHeldWrite : Prop :=
  ∀ s : State,
    (∃ m, exec .pinReset s =
        .next { State.reset with pending := s.pending, mem := m, freeIndex := s.freeIndex } ∧
      (s.path.slot = .empty → m = s.path.waiting.foldl (fun m x => match x with
        | .write b e => memWrite m b e
        | .read _ _ => m) s.mem) ∧
      (∀ a d,
        ((∃ k, s.path.slot = .deciding a d k) ∨ (∃ b, s.path.slot = .claimed a d b) ∨
          s.path.slot = .released a d ∨ ∃ p, s.path.slot = .waiting a d p) →
        m = s.path.waiting.foldl (fun m x => match x with
          | .write b e => memWrite m b e
          | .read _ _ => m) (memWrite s.mem a d))) ∧
    (∀ sel, s.pins.resetAsserted = true →
      exec (.resetNRelease sel) s = .next { s with
        pins := { s.pins with resetAsserted := false, anchorSel := some sel } })

/-! ### The Receive Classifier -/

/-- R113, R5, R6, R112: a read run is answered by one row, be it one access or several, together with the bytes
answered before. The header is tested, and a beacon that passes has its body read issued; the body's entry count
must agree with the payload length. A frame found malformed keeps what was read of it. That the port takes the
accesses of the run one after another is the model's choice (log entry 29). -/
def Obligations.AnsweredReadsAreTested : Prop :=
  ∀ (s : State) (run : List ReadPiece) (b l : Nat) (got : List Byte) (rest : List Injected), s.quiet = true →
    run ≠ [] → (s.passingHeld = false ∨ run.length = 1 ∧ s.headTurn = true) →
    (∀ h, s.path.queue = readAccessesAux .classifierHeader run ++ rest →
      s.classifier = .deciding b l (.header got) → h = got ++ s.runBytes run →
      (headerOk h l = false ∨ (hdrKind h = 2 ∧ beaconOk h = false) →
        exec .headerReadDone s = .next { s.dropHeads run.length with
          classifier := .deciding b l (.malformed h []) }) ∧
      (headerOk h l = true → hdrKind h ≠ 2 →
        exec .headerReadDone s = .next { s.dropHeads run.length with
          classifier := .deciding b l (.ready h []) }) ∧
      (headerOk h l = true → hdrKind h = 2 → beaconOk h = true →
        exec .headerReadDone s = .next (State.issue
          { s.dropHeads run.length with classifier := .deciding b l (.body h []) }
          (readAccesses .classifierBody (b + 20) (hdrPayload h))))) ∧
    (∀ h body, s.path.queue = readAccessesAux .classifierBody run ++ rest →
      s.classifier = .deciding b l (.body h got) → body = got ++ s.runBytes run →
      (bodyCount body = (hdrPayload h - 10) / 6 →
        exec .beaconBodyReadDone s = .next { s.dropHeads run.length with
          classifier := .deciding b l (.ready h body) }) ∧
      (bodyCount body ≠ (hdrPayload h - 10) / 6 →
        exec .beaconBodyReadDone s = .next { s.dropHeads run.length with
          classifier := .deciding b l (.malformed h body) }))

/-- R116, R117, R120: a malformed frame and a DATA frame that is not routed: the record is released unchanged,
or rewritten DISCARDED with the reason of the first test that applies; nothing else changes. -/
def Obligations.ClaimsOfUnforwardedFrames : Prop :=
  ∀ (s : State) (a b l k : Nat) (d h body : List Byte), s.quiet = true → s.claimRoom b = true →
    s.outlierDue = [] → s.path.slot = .deciding a d (k + 1) →
    (s.classifier = .deciding b l (.malformed h body) →
      exec .claim s = .next (State.issue { s with
        classifier := .idle
        path := { s.path with slot := .claimed a d true } }
        [.write .rewrite a (overlay d 6 [0x12, 1, 0xFF, 0xFF])])) ∧
    (s.classifier = .deciding b l (.ready h body) → hdrKind h = 1 →
      (hdrDest h = s.path.ownId ∨ hdrDest h = 0xFFFF →
        exec .claim s = .next { s with
          classifier := .idle
          path := { s.path with slot := .claimed a d false } }) ∧
      (∀ reason : Byte, hdrDest h ≠ s.path.ownId → hdrDest h ≠ 0xFFFF →
        ((hdrSource h = s.path.ownId ∧ reason = 3) ∨
          (hdrSource h ≠ s.path.ownId ∧ s.usableLinkOf (hdrLastHop h) = none ∧ reason = 4) ∨
          (hdrSource h ≠ s.path.ownId ∧ s.usableLinkOf (hdrLastHop h) ≠ none ∧ hdrHopLimit h ≤ 1 ∧
            reason = 2) ∨
          (hdrSource h ≠ s.path.ownId ∧ s.usableLinkOf (hdrLastHop h) ≠ none ∧ 1 < hdrHopLimit h ∧
            hdrDest h = 0 ∧ reason = 5)) →
        exec .claim s = .next (State.issue { s with
          classifier := .idle
          path := { s.path with slot := .claimed a d true } }
          [.write .rewrite a (overlay d 6 [0x12, reason, 0xFF, 0xFF])])))

/-- R118, R119, R23, R24, R8: a DATA frame past the tests of R117. With a target link and a grant of the pool:
the entry, its place at the tail of its class queue, the header patch and, after it, the record rewritten
FORWARDED; with no route in TABLE mode and a held grant, the same on the held list. A refusal rewrites the
record DISCARDED, CONGESTED or NO_ROUTE, and changes nothing else. -/
def Obligations.ClaimForwardsAFrame : Prop :=
  ∀ (s : State) (a b l k : Nat) (d h body : List Byte), s.quiet = true →
    s.claimRoom b = true → s.outlierDue = [] → s.path.slot = .deciding a d (k + 1) →
    s.classifier = .deciding b l (.ready h body) → hdrKind h = 1 → hdrDest h ≠ s.path.ownId →
    hdrDest h ≠ 0xFFFF → hdrDest h ≠ 0 → hdrSource h ≠ s.path.ownId →
    s.usableLinkOf (hdrLastHop h) ≠ none → 1 < hdrHopLimit h →
    (∀ n, (hdrMode h = .table ∧ s.lookup (hdrDest h) = some n ∨
        hdrMode h = .via ∧ s.usableLinkOf (hdrNextHop h) = some n) →
      (∀ g, (hdrClass h = .expedited ∨ s.pool.reserve < s.freeCount) → 1 ≤ s.freeCount →
        s.queuedCount n < (s.link n).queueCap → s.lowestFree = some g →
        ∃ t, exec .claim s = .next t ∧
          t = { s with
            pool := { s.pool with entries := t.pool.entries, queues := t.pool.queues }
            classifier := .idle
            path := { s.path with slot := .claimed a d true, queue := t.path.queue, tails := t.path.tails } } ∧
          t.frame g = some { origin := .forward, buffer := b, length := l, dest := hdrDest h,
                             cls := hdrClass h, mode := hdrMode h, place := .queued n,
                             budget := some (s.link n).defaultBudget, expiry := 0, age := 0 } ∧
          (∀ x, x ≠ g → t.frame x = s.frame x) ∧
          (t.queuesOf n).get (hdrClass h) = (s.queuesOf n).get (hdrClass h) ++ [g] ∧
          (∀ c, c ≠ hdrClass h → (t.queuesOf n).get c = (s.queuesOf n).get c) ∧
          (∀ m, m ≠ n → t.queuesOf m = s.queuesOf m) ∧
          t.path.queue ++ t.path.tails = s.path.queue ++ s.path.tails ++
            writeAccesses .patch b (patchedHeader h (hdrHopLimit h - 1) s.path.ownId) ++
            [.write .rewrite a (overlay d 6 ([0x10, 0] ++ natHalf g.val))]) ∧
      ((s.freeCount = 0 ∨ (hdrClass h ≠ .expedited ∧ s.freeCount ≤ s.pool.reserve) ∨
          (s.link n).queueCap ≤ s.queuedCount n) →
        exec .claim s = .next (State.issue { s with
          classifier := .idle
          path := { s.path with slot := .claimed a d true } }
          [.write .rewrite a (overlay d 6 [0x12, 6, 0xFF, 0xFF])]))) ∧
    (hdrMode h = .table → s.lookup (hdrDest h) = none →
      ∀ g, (hdrClass h = .expedited ∨ s.pool.reserve < s.freeCount) → 1 ≤ s.freeCount →
        s.pool.heldList.length < s.pool.heldLimit → s.lowestFree = some g →
        ∃ t, exec .claim s = .next t ∧
          t = { s with
            pool := { s.pool with entries := t.pool.entries, heldList := s.pool.heldList ++ [g] }
            classifier := .idle
            path := { s.path with slot := .claimed a d true, queue := t.path.queue, tails := t.path.tails } } ∧
          t.frame g = some { origin := .forward, buffer := b, length := l, dest := hdrDest h,
                             cls := hdrClass h, mode := .table, place := .held,
                             budget := none, expiry := 0, age := 0 } ∧
          (∀ x, x ≠ g → t.frame x = s.frame x) ∧
          t.path.queue ++ t.path.tails = s.path.queue ++ s.path.tails ++
            writeAccesses .patch b (patchedHeader h (hdrHopLimit h - 1) s.path.ownId) ++
            [.write .rewrite a (overlay d 6 ([0x10, 0] ++ natHalf g.val))]) ∧
    ((hdrMode h = .via ∧ s.usableLinkOf (hdrNextHop h) = none ∨
        hdrMode h = .table ∧ s.lookup (hdrDest h) = none ∧
          (s.freeCount = 0 ∨ (hdrClass h ≠ .expedited ∧ s.freeCount ≤ s.pool.reserve) ∨
            s.pool.heldLimit ≤ s.pool.heldList.length)) →
      exec .claim s = .next (State.issue { s with
        classifier := .idle
        path := { s.path with slot := .claimed a d true } }
        [.write .rewrite a (overlay d 6 [0x12, 5, 0xFF, 0xFF])]))

/-- R49, R50, R46, R51, R31: the claim of a PROBE or PROBE_REPLY that opens its PROBING link, of a PROBE that is
adopted on the lowest EMPTY record, and of a PROBE of a link that carries traffic, with the pending reply it adds.
R57, R134, R93, R155 to R158, R160: the claim of a BEACON of an ACTIVE or BLOCKED link, at the Link Table, the
Route Table and the Timing Unit: its sighting, the step out of SEEKING, the correction, the outlier and the return
from HOLDOVER; where the manual gives E no value it is the free value (log entry 5). A BEACON of a DRAINING link
counts as heard and does nothing else. R116, R2: the record is rewritten CONSUMED and no memory changes, and a
frame that identifies no neighbour, is addressed to another node or finds no link to act on changes nothing else,
a BEACON of a PROBING, SILENT or FAILED link among them. That an offset is wrapped into its range whatever its size
(log entry 30) and that the parent link is the one of the recorded index and node id (log entry 35) are the model's
readings. -/
def Obligations.ClaimsOfControlFrames : Prop :=
  ∀ (s : State) (a b l k : Nat) (d h body : List Byte) (n : LinkIx), s.quiet = true →
    s.claimRoom b = true → s.path.slot = .deciding a d (k + 1) →
    s.classifier = .deciding b l (.ready h body) →
    (∀ kind : Byte, s.identifies (hdrSource h) = true → (hdrDest h = s.path.ownId ∨ hdrDest h = 0xFFFF) →
      ((hdrKind h = 3 ∨ hdrKind h = 4) ∧ s.linkOf (hdrSource h) = some n ∧
          (∃ timer, (s.link n).state = .probing timer) ∧ kind = 1 ∨
        hdrKind h = 3 ∧ s.linkOf (hdrSource h) = none ∧ s.linkTable.acceptUnsolicited = true ∧
          (s.link n).state = .empty ∧ (∀ m, m < n → (s.link m).state ≠ .empty) ∧ kind = 2) →
      ∃ t, exec .claim s = .next t ∧
        t = { s with
          linkTable := { s.linkTable with
            links := t.linkTable.links
            pendingReplies :=
              if hdrKind h = 4 ∨ hdrSource h ∈ s.linkTable.pendingReplies then s.linkTable.pendingReplies
              else if s.linkTable.pendingReplies.length < 4 then s.linkTable.pendingReplies ++ [hdrSource h]
              else s.linkTable.pendingReplies.tail ++ [hdrSource h] }
          pool := { s.pool with entries := t.pool.entries, queues := t.pool.queues,
                                heldList := t.pool.heldList }
          classifier := .idle
          path := { s.path with slot := .claimed a d true, queue := t.path.queue, tails := t.path.tails }
          work := s.outlierDue.map Work.due } ∧
        t.path.queue ++ t.path.tails =
          s.path.queue ++ s.path.tails ++ [.write .rewrite a (overlay d 6 [0x11, 0, 0xFF, 0xFF])] ∧
        t.link n = { s.link n with
          neighbour := some (hdrSource h)
          state := .active, estimate := 16384, rate := (s.link n).floor, pace := 0, undelivered := 0,
          missCount := 0, heard := false, climb := none, climbing := false, planPair := none,
          timingPair := none, lastDelivered := false, lastRetried := false,
          cost := costOf (s.link n).floor 16384,
          sticky := { (s.link n).sticky with
            costSaturated := (s.link n).sticky.costSaturated || costOf (s.link n).floor 16384 == 65535 },
          attention := (s.link n).attention ||| kind } ∧
        (∀ m, m ≠ n → t.link m = s.link m) ∧ (s.pool.heldList = [] → t.pool = s.pool) ∧
        (s.PoolOk → s.Reevaluated t ∧ ∀ g, g ∉ s.pool.heldList → t.frame g = s.frame g)) ∧
    (hdrKind h = 3 → s.identifies (hdrSource h) = true → s.linkOf (hdrSource h) = some n →
      (hdrDest h = s.path.ownId ∨ hdrDest h = 0xFFFF) → (s.link n).carrying = true →
      ∃ t, exec .claim s = .next t ∧
        t = { s with
          linkTable := { s.linkTable with
            pendingReplies := if hdrSource h ∈ s.linkTable.pendingReplies then s.linkTable.pendingReplies
              else if s.linkTable.pendingReplies.length < 4 then s.linkTable.pendingReplies ++ [hdrSource h]
              else s.linkTable.pendingReplies.tail ++ [hdrSource h] }
          classifier := .idle
          path := { s.path with slot := .claimed a d true, queue := t.path.queue, tails := t.path.tails }
          work := s.outlierDue.map Work.due } ∧
        t.path.queue ++ t.path.tails =
          s.path.queue ++ s.path.tails ++ [.write .rewrite a (overlay d 6 [0x11, 0, 0xFF, 0xFF])]) ∧
    (∀ (x : Sighting) (seen : Bank (Option Sighting) 16), hdrKind h = 2 →
      s.identifies (hdrSource h) = true → s.linkOf (hdrSource h) = some n → (s.link n).usable = true →
      x = ⟨bodyDepth body, bodyHoldover body, bodySuperframe body, bodyOffset body, rxSuperframe d, rxOffset d⟩ →
      seen = bankPut s.timing.sightings n (some x) →
      ∃ t, exec .claim s = .next t ∧
        t = { s with
          linkTable := { s.linkTable with links := t.linkTable.links }
          routes := (RouteTable.learnAll s.path.ownId n (s.link n).cost (bodyEntries body)
            (s.routes, false)).1
          pool := { s.pool with entries := t.pool.entries, queues := t.pool.queues,
                                heldList := t.pool.heldList }
          timing := t.timing
          reports := { s.reports with timingLatch := t.reports.timingLatch }
          classifier := .idle
          path := { s.path with slot := .claimed a d true, queue := t.path.queue, tails := t.path.tails }
          work := t.outlierDue.map Work.due
          freeIndex := t.freeIndex } ∧
        t.path.queue ++ t.path.tails =
          s.path.queue ++ s.path.tails ++ [.write .rewrite a (overlay d 6 [0x11, 0, 0xFF, 0xFF])] ∧
        t.link n = { s.link n with
          heard := true
          missCount := 0
          timingPair := some ⟨bodyDepth body, bodyHoldover body⟩
          planPair := some ⟨bodyGeneration body, bodyAnnounce body⟩
          attention := if (s.link n).planPair = none ∨
              (s.link n).planPair = some ⟨bodyGeneration body, bodyAnnounce body⟩
            then (s.link n).attention else (s.link n).attention ||| 128 } ∧
        (∀ m, m ≠ n → t.link m = s.link m) ∧
        ((RouteTable.learnAll s.path.ownId n (s.link n).cost (bodyEntries body) (s.routes, false)).2 = false →
          t.pool = s.pool) ∧
        ((RouteTable.learnAll s.path.ownId n (s.link n).cost (bodyEntries body) (s.routes, false)).2 = true →
          s.PoolOk → s.Reevaluated t ∧ ∀ g, g ∉ s.pool.heldList → t.frame g = s.frame g) ∧
        (s.timing.state ≠ .seeking ∨ s.timing.role = .root ∨ 13 < x.depth ∨ x.holdover = true →
          t.freeIndex = s.freeIndex) ∧
        (s.timing.role = .root ∨ s.timing.state = .root → t.timing = s.timing ∧ t.reports = s.reports) ∧
        (s.timing.role = .follower →
          (∀ p node depth, s.timing.state = .locked p node depth →
            ((p ≠ n ∨ node ≠ hdrSource h ∨ 13 < x.depth ∨ x.holdover = true) →
              t.timing = { s.timing with sightings := seen } ∧ t.reports = s.reports) ∧
            (∀ o : Int, p = n → node = hdrSource h → x.depth ≤ 13 → x.holdover = false →
              (o - ((x.receiveOffset : Int) - (x.offset + s.timing.propagation : Nat))) % (s.nominal : Int) = 0 →
              -((s.nominal : Int) / 2) ≤ o → o < (s.nominal : Int) / 2 →
              t.reports.timingLatch = (if x.depth + 1 = depth then s.reports.timingLatch
                else some ⟨.locked p node (x.depth + 1)⟩) ∧
              (500 < o.natAbs → t.timing = { s.timing with
                sightings := seen, heard := true, state := .locked p node (x.depth + 1)
                outliers := s.timing.outliers + 1 }) ∧
              (o.natAbs ≤ 500 → t.timing = { s.timing with
                sightings := seen, heard := true, state := .locked p node (x.depth + 1), outliers := 0
                adjust := max (-8) (min 8 (s.timing.adjust + max (-8) (min 8 (o.tdiv 4)))) }))) ∧
          (∀ p node depth, s.timing.state = .holdover p node depth →
            ((p ≠ n ∨ node ≠ hdrSource h ∨ 13 < x.depth ∨ x.holdover = true) →
              t.timing = { s.timing with sightings := seen } ∧ t.reports = s.reports) ∧
            (∀ o : Int, p = n → node = hdrSource h → x.depth ≤ 13 → x.holdover = false →
              (o - ((x.receiveOffset : Int) - (x.offset + s.timing.propagation : Nat))) % (s.nominal : Int) = 0 →
              -((s.nominal : Int) / 2) ≤ o → o < (s.nominal : Int) / 2 →
              t.reports.timingLatch = some ⟨.locked p node (x.depth + 1)⟩ ∧
              t.timing = { s.timing with
                sightings := seen, heard := true, state := .locked p node (x.depth + 1), outliers := 0
                silence := 0, holdover := 0, adjust := max (-8) (min 8 (o.tdiv 4)) })) ∧
          (s.timing.state = .seeking → (13 < x.depth ∨ x.holdover = true) →
            t.timing = { s.timing with sightings := seen } ∧ t.reports = s.reports) ∧
          (∀ (m : LinkIx) (y : Sighting) (E P : Nat), s.timing.state = .seeking → x.depth ≤ 13 →
            x.holdover = false → bankGet seen m = some y → y.depth ≤ 13 → y.holdover = false →
            (s.link m).usable = true →
            (∀ i z, bankGet seen i = some z → z.depth ≤ 13 → z.holdover = false → (s.link i).usable = true →
              y.depth < z.depth ∨ y.depth = z.depth ∧ m ≤ i) →
            (y.receiveSuperframe = s.timing.number.extractLsb' 0 8 ∧
                y.receiveOffset + E = s.timing.timebase ∨
              s.elapsedSince y = some E ∨
              s.elapsedSince y = none ∧ E = Config.unstatedElapsed s.freeIndex) →
            P = y.offset + s.timing.propagation + E →
            t.freeIndex = (if s.elapsedSince y = none then s.freeIndex + 1 else s.freeIndex) ∧
            t.reports.timingLatch = some ⟨t.timing.state⟩ ∧
            t.timing = { s.timing with
              sightings := seen
              stepEnd := some ⟨s.timing.timebase + s.nominal - P % s.nominal,
                y.superframe + BitVec.ofNat 32 (P / s.nominal) + 1⟩
              adjust := 0, outliers := 0, silence := 0, heard := true
              state := .locked m ((s.link m).neighbour.getD 0) (y.depth + 1) }))) ∧
    (hdrKind h = 2 → s.identifies (hdrSource h) = true → s.linkOf (hdrSource h) = some n →
      (s.link n).state = .draining →
      exec .claim s = .next (State.issue { s with
        linkTable := { s.linkTable with
          links := bankPut s.linkTable.links n { s.link n with
            heard := true
            missCount := 0
            timingPair := some ⟨bodyDepth body, bodyHoldover body⟩
            planPair := some ⟨bodyGeneration body, bodyAnnounce body⟩
            attention := if (s.link n).planPair = none ∨
                (s.link n).planPair = some ⟨bodyGeneration body, bodyAnnounce body⟩
              then (s.link n).attention else (s.link n).attention ||| 128 } }
        classifier := .idle
        path := { s.path with slot := .claimed a d true }
        work := s.outlierDue.map Work.due }
        [.write .rewrite a (overlay d 6 [0x11, 0, 0xFF, 0xFF])])) ∧
    ((hdrKind h = 2 ∨ hdrKind h = 3 ∨ hdrKind h = 4) →
      (s.identifies (hdrSource h) = false ∨
        hdrKind h = 2 ∧ s.linkOf (hdrSource h) = some n ∧ (s.link n).carrying = false ∨
        hdrKind h ≠ 2 ∧ hdrDest h ≠ s.path.ownId ∧ hdrDest h ≠ 0xFFFF ∨
        hdrKind h ≠ 2 ∧ s.linkOf (hdrSource h) = some n ∧
          ((s.link n).state = .silent ∨ (∃ r, (s.link n).state = .failed r) ∨
            hdrKind h = 4 ∧ (s.link n).carrying = true) ∨
        s.linkOf (hdrSource h) = none ∧
          (hdrKind h = 4 ∨ hdrKind h = 2 ∨ s.linkTable.acceptUnsolicited = false ∨
            ∀ m, (s.link m).state ≠ .empty)) → s.outlierDue = [] →
      exec .claim s = .next (State.issue { s with
        classifier := .idle
        path := { s.path with slot := .claimed a d true } }
        [.write .rewrite a (overlay d 6 [0x11, 0, 0xFF, 0xFF])]))

/-- R115, R167: when the hold budget runs out before a claim, the held write is released unchanged, the
Classifier is IDLE and nothing of the decision takes effect. What is the model's here: the row brought early
lets what is left of the budget pass (log entry 14), the released write stands in the slot until the port takes
it (log entry 6), and of the decision's reads those in the queue go on without an issuer while a tail is dropped
(log entry 33). -/
def Obligations.BudgetExpiryAbandonsTheDecision : Prop :=
  ∀ (s : State) (a k : Nat) (d : List Byte), s.quiet = true → s.path.slot = .deciding a d k →
    exec .holdBudgetExpiry s = .next { s with
      path := { s.path with
        slot := .released a d
        queue := s.path.queue.map Injected.orphan
        tails := s.path.tails.filter fun x => !x.ofClassifier }
      classifier := .idle
      pins := { s.pins with sfs := s.pins.sfs.drop k }
      timing := { s.timing with timebase := s.timing.timebase + k } }

/-! ### The Local Intake -/

/-- R122, R123, R126, R127: the read of the next local send entry, its answer, and the item of a HANDING Intake,
which it hands over when the backlog's tagless place is free. -/
def Obligations.LocalEntriesAreFetched : Prop :=
  ∀ (s : State) (w : Windows), s.quiet = true → s.path.windows = some w →
    (s.path.engine = .running → s.intake.stage = .idle → s.intake.index ≠ s.intake.post →
      s.room 1 = true →
      exec .localEntryFetch s = .next (State.issue
        { s with intake := { s.intake with stage := .fetchingEntry } }
        (readAccesses .intakeEntry (w.localBase + 16 * s.intake.index) 16))) ∧
    (∀ (a n k m : Nat) (rest : List Injected) (e : LocalEntry), s.headTurn = true →
      s.path.queue = .read .intakeEntry a n k m true true :: rest →
      e = readLocalEntry (((memRead s.mem a n).drop k).take m) →
      (s.path.engine = .running → lengthOk e.length = true →
        exec .localEntryReadDone s = .next (State.issue
          { s.dropHead with intake := { s.intake with stage := .fetchingHeader e [] } }
          (readAccesses .intakeHeader e.buffer 20))) ∧
      (s.path.engine = .running → lengthOk e.length = false → s.taglessWaiting = false →
        exec .localEntryReadDone s = .next { s.dropHead with
          pool := { s.pool with backlog := s.pool.backlog ++ [.tagless e.buffer .malformed] }
          intake := { s.intake with
            stage := .idle
            index := if s.intake.index + 1 < w.localSize then s.intake.index + 1 else 0 } }) ∧
      (s.path.engine = .running → lengthOk e.length = false → s.taglessWaiting = true →
        exec .localEntryReadDone s = .next { s.dropHead with
          intake := { s.intake with stage := .handing e [] .malformed } }) ∧
      (s.isQuiescing = true → s.taglessWaiting = false →
        exec .localEntryReadDone s = .next { s.dropHead with
          pool := { s.pool with backlog := s.pool.backlog ++ [.tagless e.buffer .quiesced] }
          intake := { s.intake with
            stage := .idle
            index := if s.intake.index + 1 < w.localSize then s.intake.index + 1 else 0 } }) ∧
      (s.isQuiescing = true → s.taglessWaiting = true →
        exec .localEntryReadDone s = .next { s.dropHead with
          intake := { s.intake with stage := .handing e [] .quiesced } })) ∧
    (∀ (e : LocalEntry) (h : List Byte) (st : ReleaseStatus), s.intake.stage = .handing e h st →
      (s.taglessWaiting = true → exec .taglessHandover s = .next s) ∧
      (s.taglessWaiting = false →
        exec .taglessHandover s = .next { s with
          pool := { s.pool with backlog := s.pool.backlog ++ [.tagless e.buffer st] }
          intake := { s.intake with
            stage := .idle
            index := if s.intake.index + 1 < w.localSize then s.intake.index + 1 else 0 } }))

/-- R123, R126, R127, R163: an answered local header is judged, its read run answered by one row, be it one access or
several, together with the bytes answered before; a refused frame is released MALFORMED with tag none, and while
QUIESCING every frame QUIESCED; the item joins the backlog, or the Intake enters HANDING while another tagless item
waits there. That the port takes the accesses of the run one after another is the model's choice (log entry 29). -/
def Obligations.LocalHeadersAreJudged : Prop :=
  ∀ (s : State) (w : Windows) (run : List ReadPiece) (e : LocalEntry) (got h : List Byte) (rest : List Injected),
    s.quiet = true → s.path.windows = some w → run ≠ [] →
    (s.passingHeld = false ∨ run.length = 1 ∧ s.headTurn = true) →
    s.path.queue = readAccessesAux .intakeHeader run ++ rest →
    s.intake.stage = .fetchingHeader e got → h = got ++ s.runBytes run →
    (s.path.engine = .running →
      headerOk h e.length = true ∧ hdrKind h = 1 ∧ hdrSource h = s.path.ownId ∧ hdrHopLimit h ≠ 0 ∧
        hdrDest h ≠ 0 ∧ hdrDest h ≠ 0xFFFF ∧ hdrDest h ≠ s.path.ownId →
      exec .localHeaderReadDone s = .next { s.dropHeads run.length with
        intake := { s.intake with stage := .fetched e h } }) ∧
    (∀ st : ReleaseStatus,
      (s.isQuiescing = true ∧ st = .quiesced ∨
        s.path.engine = .running ∧ st = .malformed ∧
          ¬(headerOk h e.length = true ∧ hdrKind h = 1 ∧ hdrSource h = s.path.ownId ∧ hdrHopLimit h ≠ 0 ∧
            hdrDest h ≠ 0 ∧ hdrDest h ≠ 0xFFFF ∧ hdrDest h ≠ s.path.ownId)) →
      (s.taglessWaiting = false →
        exec .localHeaderReadDone s = .next { s.dropHeads run.length with
          pool := { s.pool with backlog := s.pool.backlog ++ [.tagless e.buffer st] }
          intake := { s.intake with
            stage := .idle
            index := if s.intake.index + 1 < w.localSize then s.intake.index + 1 else 0 } }) ∧
      (s.taglessWaiting = true →
        exec .localHeaderReadDone s = .next { s.dropHeads run.length with
          intake := { s.intake with stage := .handing e h st } }))

/-- R124, R125, R126, R9, R23, R24: the admission of a local frame, at first and when a STALLED Intake has a
signal: granted, on a class queue or on the held list, and patched with its hop limit unchanged; refused by a
queue and STALLED on the link; or released NO_ROUTE with tag none. Only an admission request waits for room for
the patch run: a VIA frame whose next hop is not a usable link makes none. -/
def Obligations.LocalFramesAreAdmitted : Prop :=
  ∀ (s : State) (w : Windows) (e : LocalEntry) (h : List Byte) (m : LinkIx) (c : Instr), s.quiet = true →
    s.path.engine = .running → s.path.windows = some w →
    (s.room (patchLength e.buffer) = true ∨ hdrMode h = .via ∧ s.usableLinkOf (hdrNextHop h) = none) →
    (c = .localAdmission ∧ s.intake.stage = .fetched e h ∨
      c = .localIntakeRetry ∧ s.intake.stage = .stalled e h m true) →
    (∀ n, (hdrMode h = .table ∧ s.lookup (hdrDest h) = some n ∨
        hdrMode h = .via ∧ s.usableLinkOf (hdrNextHop h) = some n) →
      (∀ g, (hdrClass h = .expedited ∨ s.pool.reserve < s.freeCount) → 1 ≤ s.freeCount →
        s.queuedCount n < (s.link n).queueCap → s.lowestFree = some g →
        ∃ t, exec c s = .next t ∧
          t = { s with
            pool := { s.pool with entries := t.pool.entries, queues := t.pool.queues }
            path := { s.path with queue := t.path.queue, tails := t.path.tails }
            intake := { s.intake with
              stage := .idle
              index := if s.intake.index + 1 < w.localSize then s.intake.index + 1 else 0 } } ∧
          t.frame g = some { origin := .localSend, buffer := e.buffer, length := e.length, dest := hdrDest h,
                             cls := hdrClass h, mode := hdrMode h, place := .queued n,
                             budget := some (s.link n).defaultBudget, expiry := 0, age := 0 } ∧
          (∀ x, x ≠ g → t.frame x = s.frame x) ∧
          (t.queuesOf n).get (hdrClass h) = (s.queuesOf n).get (hdrClass h) ++ [g] ∧
          (∀ x, x ≠ hdrClass h → (t.queuesOf n).get x = (s.queuesOf n).get x) ∧
          (∀ x, x ≠ n → t.queuesOf x = s.queuesOf x) ∧
          t.path.queue ++ t.path.tails = s.path.queue ++ s.path.tails ++
            writeAccesses .patch e.buffer (patchedHeader h (hdrHopLimit h) s.path.ownId)) ∧
      ((s.freeCount = 0 ∨ (hdrClass h ≠ .expedited ∧ s.freeCount ≤ s.pool.reserve) ∨
          (s.link n).queueCap ≤ s.queuedCount n) →
        exec c s = .next { s with intake := { s.intake with stage := .stalled e h n false } })) ∧
    (hdrMode h = .table → s.lookup (hdrDest h) = none →
      ∀ g, (hdrClass h = .expedited ∨ s.pool.reserve < s.freeCount) → 1 ≤ s.freeCount →
        s.pool.heldList.length < s.pool.heldLimit → s.lowestFree = some g →
        ∃ t, exec c s = .next t ∧
          t = { s with
            pool := { s.pool with entries := t.pool.entries, heldList := s.pool.heldList ++ [g] }
            path := { s.path with queue := t.path.queue, tails := t.path.tails }
            intake := { s.intake with
              stage := .idle
              index := if s.intake.index + 1 < w.localSize then s.intake.index + 1 else 0 } } ∧
          t.frame g = some { origin := .localSend, buffer := e.buffer, length := e.length, dest := hdrDest h,
                             cls := hdrClass h, mode := .table, place := .held,
                             budget := none, expiry := 0, age := 0 } ∧
          (∀ x, x ≠ g → t.frame x = s.frame x) ∧
          t.path.queue ++ t.path.tails = s.path.queue ++ s.path.tails ++
            writeAccesses .patch e.buffer (patchedHeader h (hdrHopLimit h) s.path.ownId)) ∧
    ((hdrMode h = .via ∧ s.usableLinkOf (hdrNextHop h) = none ∨
        hdrMode h = .table ∧ s.lookup (hdrDest h) = none ∧
          (s.freeCount = 0 ∨ (hdrClass h ≠ .expedited ∧ s.freeCount ≤ s.pool.reserve) ∨
            s.pool.heldLimit ≤ s.pool.heldList.length)) →
      (s.taglessWaiting = false →
        exec c s = .next { s with
          pool := { s.pool with backlog := s.pool.backlog ++ [.tagless e.buffer .noRoute] }
          intake := { s.intake with
            stage := .idle
            index := if s.intake.index + 1 < w.localSize then s.intake.index + 1 else 0 } }) ∧
      (s.taglessWaiting = true →
        exec c s = .next { s with intake := { s.intake with stage := .handing e h .noRoute } }))

/-! ### Completions -/

/-- R146, R147, R15, R170, R53, R54, R55, R61, R66: a completion record that does not match is removed and ignored.
The matched record of an own frame is retired: its buffer is free, its position's mark NONE, and the consumer index
advances. The outcome of a beacon does nothing else; that of a probe or reply counts only while its link holds the
node it was sent to and is ACTIVE, BLOCKED or DRAINING, and then as a data frame's does, but for pace, climb and the
frame: it can unblock the link, block it with the diversion of its frames, or break off a drain with their release
CUT; a DRAINING link that holds nothing afterwards is SILENT. Of the queued counts only that of the link which is
blocked or broken off can fall, and a Local Intake STALLED on it is then told (R20, R125). R168: when a write waits for the place that the record
leaves, all this happens as with the slot EMPTY, and the write is then copied and passes, what waits behind it
following in its turn, where a further completion record takes the slot again. That LAST_RETRIED follows every
DELIVERED and UNDELIVERED outcome (log entry 20), that a parent is told by its link index alone (log entry 35), that
a waiting access is sorted at its turn (log entry 17) and that all which waited are taken in the same step (log
entry 37) are the model's readings. -/
def Obligations.CompletionsAreMatchedAndRetired : Prop :=
  ∀ (s : State) (c : CompletionItem) (cs : List CompletionItem), s.quiet = true →
    s.path.engine ≠ .unanchored → s.completion.queue = c :: cs →
    ((∀ a d p, s.path.slot ≠ .waiting a d p) →
      (c.pos ≠ s.completion.consumer ∨ txcIndex c.record ≠ c.pos ∨ s.inFlightAt c.pos = none ∨
        (∃ r, s.inFlightAt c.pos = some r ∧ r.lap ≠ txcLap c.record)) →
      exec .completionProcess s = .next { s with completion := { s.completion with queue := cs } }) ∧
    (∀ (r : InFlight) (b : BufIx), (∀ a d p, s.path.slot ≠ .waiting a d p) → c.pos = s.completion.consumer →
      txcIndex c.record = c.pos → s.inFlightAt c.pos = some r → r.lap = txcLap c.record →
      (r.carried = .beacon b ∨
        ∃ n node, (r.carried = .probe b n node ∨ r.carried = .reply b n node) ∧
          (s.isQuiescing = true ∨
            ((s.link n).state = .draining → s.queuedCount n ≠ 0 ∨ s.othersInFlight c.pos n ≠ 0) ∧
            ((s.link n).holds node = false ∨ (s.link n).carrying = false ∨
              txcOutcome c.record = .expired ∨ txcOutcome c.record = .aborted))) →
      exec .completionProcess s = .next (State.setMark { s with
        sched := { s.sched with
          inFlight := s.sched.inFlight.filter fun x => x.pos != c.pos
          buffers := bankPut s.sched.buffers b none }
        completion := {
          queue := cs
          consumer := if s.completion.consumer + 1 < s.sched.ringSize.getD 0
            then s.completion.consumer + 1 else 0 } } c.pos .none)) ∧
    (∀ (r : InFlight) (b : BufIx) (n : LinkIx) (node : NodeId), (∀ a d p, s.path.slot ≠ .waiting a d p) →
      c.pos = s.completion.consumer → txcIndex c.record = c.pos → s.inFlightAt c.pos = some r →
      r.lap = txcLap c.record → (r.carried = .probe b n node ∨ r.carried = .reply b n node) →
      s.path.engine = .running → (s.link n).holds node = true → (s.link n).carrying = true →
      ((s.link n).state = .draining → (s.link n).climbing = false) → s.PoolOk →
      (txcOutcome c.record = .delivered ∨ txcOutcome c.record = .undelivered) →
      ∃ t, exec .completionProcess s = .next t ∧
        t = { s with
          linkTable := { s.linkTable with links := t.linkTable.links
                                          pendingReplies := t.linkTable.pendingReplies }
          routes := t.routes
          timing := t.timing
          reports := { s.reports with timingLatch := t.reports.timingLatch }
          pool := { s.pool with entries := t.pool.entries, queues := t.pool.queues,
                                heldList := t.pool.heldList, backlog := t.pool.backlog }
          intake := { s.intake with stage := t.intake.stage }
          path := { s.path with marks := t.path.marks }
          sched := { s.sched with
            inFlight := s.sched.inFlight.filter fun x => x.pos != c.pos
            buffers := bankPut s.sched.buffers b none }
          completion := {
            queue := cs
            consumer := if s.completion.consumer + 1 < s.sched.ringSize.getD 0
              then s.completion.consumer + 1 else 0 } } ∧
        t.mark c.pos = .none ∧ (∀ p, p ≠ c.pos → t.mark p = s.mark p) ∧
        (∀ m, m ≠ n → t.link m = s.link m) ∧
        ((t.link n).state = .silent → s.LinkLost t n) ∧ ((t.link n).state ≠ .silent → s.LinksKept t) ∧
        (txcOutcome c.record = .delivered →
          t.link n = { s.link n with
            estimate := average (s.link n).estimate (deliverySample (txcAttempts c.record)) (s.link n).weight
            cost := costOf (s.link n).rate (t.link n).estimate
            state := if (s.link n).state ≠ .draining then .active
              else if s.queuedCount n = 0 ∧ s.othersInFlight c.pos n = 0 then .silent else .draining
            undelivered := 0
            lastDelivered := true
            lastRetried := decide (1 < txcAttempts c.record)
            sticky := { (s.link n).sticky with
              costSaturated := (s.link n).sticky.costSaturated || (t.link n).cost == 65535 }
            attention := if (s.link n).isBlocked = true then (s.link n).attention ||| 8
              else if (t.link n).state = .silent then (s.link n).attention ||| 32
              else (s.link n).attention } ∧
          ((s.link n).isBlocked = true →
            s.Reevaluated t ∧ (∀ g, g ∉ s.pool.heldList → t.frame g = s.frame g) ∧
            t.pool.backlog = s.pool.backlog ∧ t.intake = s.intake) ∧
          ((s.link n).isBlocked = false → t.pool = s.pool ∧ t.intake = s.intake)) ∧
        (∀ l, txcOutcome c.record = .undelivered →
          l = { s.link n with
            estimate := average (s.link n).estimate 0 (s.link n).weight
            cost := costOf (s.link n).rate (average (s.link n).estimate 0 (s.link n).weight)
            undelivered := min 255 ((s.link n).undelivered + 1)
            lastDelivered := false
            lastRetried := decide (1 < txcAttempts c.record)
            sticky := { (s.link n).sticky with
              everUndelivered := true
              costSaturated := (s.link n).sticky.costSaturated ||
                costOf (s.link n).rate (average (s.link n).estimate 0 (s.link n).weight) == 65535 } } →
          ((s.link n).isBlocked = true ∨
              min 255 ((s.link n).undelivered + 1) < (s.link n).blockThreshold →
            t.pool = s.pool ∧ t.intake = s.intake ∧
            (t.link n = if (s.link n).state = .draining ∧ s.queuedCount n = 0 ∧
                s.othersInFlight c.pos n = 0
              then { l with state := .silent, attention := l.attention ||| 32 } else l)) ∧
          ((s.link n).state = .active →
            (s.link n).blockThreshold ≤ min 255 ((s.link n).undelivered + 1) →
            t.link n = { l with
              state := .blocked (s.link n).blockHold
              attention := l.attention ||| 4
              sticky := { l.sticky with blockedSeen := true }
              climbing := false
              climb := if (s.link n).climbing = true then (s.link n).climb.map fun x => { x with run := 0 }
                else (s.link n).climb } ∧
            t.pool.heldList = s.pool.heldList ∧ t.pool.backlog = s.pool.backlog ∧
            s.Diverted t n (fun _ _ => []) ∧
            ∀ g, g ∉ (s.queuesOf n).all → t.frame g = s.frame g) ∧
          ((s.link n).state = .draining →
            (s.link n).blockThreshold ≤ min 255 ((s.link n).undelivered + 1) →
            t.link n = { l with state := .silent, attention := l.attention ||| 32 } ∧
            t.pool.heldList = s.pool.heldList ∧ s.QueueCut t n (fun _ _ => []) ∧
            t.pool.backlog = s.pool.backlog ++ (s.queuesOf n).all.map ReleaseItem.entry ∧
            ∀ g, g ∉ (s.queuesOf n).all → t.frame g = s.frame g))) ∧
    (∀ (a p : Nat) (d : List Byte), s.path.slot = .waiting a d p → cs.length < 32 → s.queueFull = false →
      ∃ t, exec .completionProcess { s with path := { s.path with slot := .empty, waiting := [] } } = .next t ∧
        ((∀ x ∈ s.path.waiting, s.onlyPasses x) →
          exec .completionProcess s = .next { t with
            mem := memAfter (memWrite s.mem a d) s.path.waiting
            completion := { t.completion with queue := cs ++ [⟨p, d⟩] } }) ∧
        (∀ (b q : Nat) (e : List Byte) (rest : List Access), s.path.waiting = .write b e :: rest →
          s.writeAction b e = .copied q → cs.length = 31 → (∀ x ∈ rest, x.isWrite = true) →
          exec .completionProcess s = .next { t with
            mem := memWrite s.mem a d
            completion := { t.completion with queue := cs ++ [⟨p, d⟩] }
            path := { t.path with slot := .waiting b e q, waiting := rest } }))

/-- R148, R34, R73, R190: a matched data frame of a SILENT link is released SENT when DELIVERED and CUT
otherwise, and no link record changes; while QUIESCING it is released SENT or QUIESCED in any state of its
link. R27, R28, R17: in any other state an ABORTED frame is released CUT; an UNDELIVERED one is requeued at the head
of the queue of its new or old link, or held, or released NO_ROUTE, and with its budget at 0 released UNDELIVERED;
an EXPIRED one returns so once, and the second time is released EXPIRED; a DELIVERED one is released SENT. The
in-flight record leaves the table and the consumer index advances. R61: a DRAINING link that then holds nothing
queued and nothing in flight enters SILENT with attention DRAINED, and otherwise stays DRAINING; that a parent is then
told by its link index alone is the model's choice (log entry 35). (The outcomes that unblock, block or break off a
drain are DeliveredFramesAreSampled.) -/
def Obligations.CompletedFramesAreReleased : Prop :=
  ∀ (s : State) (c : CompletionItem) (cs : List CompletionItem) (r : InFlight) (g : Tag) (n : LinkIx)
    (f : Frame), s.quiet = true →
    (∀ a d p, s.path.slot ≠ .waiting a d p) → s.completion.queue = c :: cs →
    c.pos = s.completion.consumer → txcIndex c.record = c.pos → s.inFlightAt c.pos = some r →
    r.lap = txcLap c.record → r.carried = .data g n → s.frame g = some f → f.inFlight = true →
    (∀ st : ReleaseStatus,
      (s.path.engine = .running ∧ (s.link n).state = .silent ∧
          st = (if txcOutcome c.record = .delivered then .sent else .cut) ∨
        s.isQuiescing = true ∧ st = (if txcOutcome c.record = .delivered then .sent else .quiesced)) →
      exec .completionProcess s = .next (State.setMark { s with
        pool := { s.pool with
          entries := bankPut s.pool.entries g (some { f with place := .releasing st })
          backlog := s.pool.backlog ++ [.entry g] }
        sched := { s.sched with inFlight := s.sched.inFlight.filter fun x => x.pos != c.pos }
        completion := {
          queue := cs
          consumer := if s.completion.consumer + 1 < s.sched.ringSize.getD 0
            then s.completion.consumer + 1 else 0 } } c.pos .none)) ∧
    (s.path.engine = .running → (s.link n).state ≠ .silent → f.link? = some n →
      ((s.link n).state = .active ∨ (s.link n).state = .draining → txcOutcome c.record = .undelivered →
        min 255 ((s.link n).undelivered + 1) < (s.link n).blockThreshold) →
      ((s.link n).usable = true → txcOutcome c.record ≠ .delivered) →
      ∃ t, exec .completionProcess s = .next t ∧
        t = { s with
          linkTable := { s.linkTable with links := t.linkTable.links
                                          pendingReplies := t.linkTable.pendingReplies }
          routes := t.routes
          timing := t.timing
          reports := { s.reports with timingLatch := t.reports.timingLatch }
          pool := { s.pool with entries := t.pool.entries, queues := t.pool.queues,
                                heldList := t.pool.heldList, backlog := t.pool.backlog }
          path := { s.path with marks := t.path.marks }
          sched := { s.sched with inFlight := s.sched.inFlight.filter fun x => x.pos != c.pos }
          completion := {
            queue := cs
            consumer := if s.completion.consumer + 1 < s.sched.ringSize.getD 0
              then s.completion.consumer + 1 else 0 } } ∧
        t.mark c.pos = .none ∧ (∀ p, p ≠ c.pos → t.mark p = s.mark p) ∧
        (∀ m, m ≠ n → t.link m = s.link m) ∧ ((s.link n).carrying = false → t.link n = s.link n) ∧
        ((s.link n).state ≠ .draining ∨ t.queuedCount n ≠ 0 ∨ s.othersInFlight c.pos n ≠ 0 →
          s.LinksKept t ∧ (t.link n).state = (s.link n).state) ∧
        ((s.link n).state = .draining → t.queuedCount n = 0 → s.othersInFlight c.pos n = 0 →
          s.LinkLost t n ∧ (t.link n).state = .silent ∧
            (t.link n).attention ||| 32 = (t.link n).attention) ∧
        (∀ x, x ≠ g → t.frame x = s.frame x) ∧
        (∀ st f', (txcOutcome c.record = .delivered ∧ st = .sent ∧ f' = f ∨
            txcOutcome c.record = .aborted ∧ st = .cut ∧ f' = f ∨
            txcOutcome c.record = .undelivered ∧ f.budget.getD 0 = 0 ∧ st = .undelivered ∧ f' = f ∨
            txcOutcome c.record = .expired ∧ f.expiry ≠ 0 ∧ st = .expired ∧ f' = f) →
          t.frame g = some { f' with place := .releasing st } ∧ t.pool.queues = s.pool.queues ∧
          t.pool.heldList = s.pool.heldList ∧ t.pool.backlog = s.pool.backlog ++ [.entry g]) ∧
        (∀ f' target,
          (∃ b, txcOutcome c.record = .undelivered ∧ f.budget = some (b + 1) ∧ f' = { f with budget := some b } ∧
              target = (if f.mode = .table then s.lookup f.dest
                else if (s.link n).carrying = true then some n else none)) ∨
            txcOutcome c.record = .expired ∧ f.expiry = 0 ∧ f' = { f with expiry := 1 } ∧
              target = (if (s.link n).carrying = true then some n
                else if f.mode = .table then s.lookup f.dest else none) →
          (∀ m, target = some m →
            t.frame g = some { f' with place := .queued m } ∧
            (t.queuesOf m).get f.cls = g :: (s.queuesOf m).get f.cls ∧
            (∀ k, k ≠ f.cls → (t.queuesOf m).get k = (s.queuesOf m).get k) ∧
            (∀ k, k ≠ m → t.queuesOf k = s.queuesOf k) ∧ t.pool.heldList = s.pool.heldList ∧
            t.pool.backlog = s.pool.backlog) ∧
          (target = none → f.mode = .table → s.pool.heldList.length < s.pool.heldLimit →
            t.frame g = some { f' with place := .held, age := 0 } ∧ t.pool.queues = s.pool.queues ∧
            t.pool.heldList = s.pool.heldList ++ [g] ∧ t.pool.backlog = s.pool.backlog) ∧
          (target = none → (f.mode = .via ∨ s.pool.heldLimit ≤ s.pool.heldList.length) →
            t.frame g = some { f' with place := .releasing .noRoute } ∧ t.pool.queues = s.pool.queues ∧
            t.pool.heldList = s.pool.heldList ∧ t.pool.backlog = s.pool.backlog ++ [.entry g])))

/-- R73, R74, R75, R76, R78, R53, R66, R67, R81, R84, R85, R148: the link record after a data-frame outcome. A
DELIVERED one on an ACTIVE, BLOCKED or DRAINING link: the sample moves D by the moving average, the cost follows D
and r, k becomes 0, LAST_DELIVERED is set, pace or the climb takes its step, and the frame is released SENT; a
BLOCKED link is ACTIVE again and the held list is re-evaluated (R55, R31). An UNDELIVERED one: the sample 0, pace
lowers r or the climb ends by loss with its act applied, and k rises. An ACTIVE link at the block threshold then
enters BLOCKED and its TABLE frames are diverted where their lookup names another link (R54, R29), and the frame
itself is requeued by a lookup made after that, or released (R53, R27); a DRAINING one at the threshold enters
SILENT, its queued frames are released CUT, and the frame's own link is no target any more (R61). An EXPIRED one sets
only EVER_EXPIRED, an ABORTED one nothing. After any of them a DRAINING link that holds nothing is SILENT with
attention DRAINED (R61). Of the queued counts only that of the link which is blocked or broken off can fall, and a
Local Intake STALLED on it is then told (R20, R125). A climb runs only on an ACTIVE link (R83, R86). That LAST_RETRIED follows every DELIVERED
and UNDELIVERED outcome (log entry 20) and that a parent is told by its link index alone (log entry 35) are the
model's readings. -/
def Obligations.DeliveredFramesAreSampled : Prop :=
  ∀ (s : State) (c : CompletionItem) (cs : List CompletionItem) (r : InFlight) (g : Tag) (n : LinkIx)
    (f : Frame), s.quiet = true → s.PoolOk → s.path.engine = .running →
    (∀ a d p, s.path.slot ≠ .waiting a d p) →
    s.completion.queue = c :: cs → c.pos = s.completion.consumer → txcIndex c.record = c.pos →
    s.inFlightAt c.pos = some r → r.lap = txcLap c.record → r.carried = .data g n →
    s.frame g = some f → f.inFlight = true → (s.link n).carrying = true →
    ((s.link n).climbing = true → (s.link n).state = .active) →
    ∃ t, exec .completionProcess s = .next t ∧
      t = { s with
        linkTable := { s.linkTable with links := t.linkTable.links
                                        pendingReplies := t.linkTable.pendingReplies }
        routes := t.routes
        timing := t.timing
        reports := { s.reports with timingLatch := t.reports.timingLatch }
        pool := { s.pool with entries := t.pool.entries, queues := t.pool.queues,
                              heldList := t.pool.heldList, backlog := t.pool.backlog }
        intake := { s.intake with stage := t.intake.stage }
        path := { s.path with marks := t.path.marks }
        sched := { s.sched with inFlight := s.sched.inFlight.filter fun x => x.pos != c.pos }
        completion := {
          queue := cs
          consumer := if s.completion.consumer + 1 < s.sched.ringSize.getD 0
            then s.completion.consumer + 1 else 0 } } ∧
      t.mark c.pos = .none ∧ (∀ p, p ≠ c.pos → t.mark p = s.mark p) ∧
      (∀ m, m ≠ n → t.link m = s.link m) ∧
      ((t.link n).state = .silent → s.LinkLost t n) ∧ ((t.link n).state ≠ .silent → s.LinksKept t) ∧
      (txcOutcome c.record ≠ .undelivered ∨ (s.link n).isBlocked = true ∨
          min 255 ((s.link n).undelivered + 1) < (s.link n).blockThreshold → t.intake = s.intake) ∧
      (txcOutcome c.record = .delivered →
        ((s.link n).isBlocked = false →
          t.pool = { s.pool with
            entries := bankPut s.pool.entries g (some { f with place := .releasing .sent })
            backlog := s.pool.backlog ++ [.entry g] }) ∧
        t.frame g = some { f with place := .releasing .sent } ∧
        t.pool.backlog = s.pool.backlog ++ [.entry g] ∧
        ((s.link n).isBlocked = true →
          s.Reevaluated t ∧ ∀ x, x ∉ s.pool.heldList → x ≠ g → t.frame x = s.frame x) ∧
        t.link n = { s.link n with
          estimate := average (s.link n).estimate (deliverySample (txcAttempts c.record)) (s.link n).weight
          cost := costOf (t.link n).rate (t.link n).estimate
          state := if (s.link n).state ≠ .draining then .active
            else if s.queuedCount n = 0 ∧ s.othersInFlight c.pos n = 0 then .silent else .draining
          undelivered := 0
          lastDelivered := true
          lastRetried := decide (1 < txcAttempts c.record)
          rate := (t.link n).rate
          pace := (t.link n).pace
          climb := (t.link n).climb
          climbing := (t.link n).climbing
          sticky := { (s.link n).sticky with
            costSaturated := (s.link n).sticky.costSaturated ||
              costOf (s.link n).rate (t.link n).estimate == 65535 || (t.link n).cost == 65535 }
          attention := (t.link n).attention } ∧
        ((s.link n).climbing = false →
          (t.link n).climb = (s.link n).climb ∧ (t.link n).climbing = false ∧
          (t.link n).attention = (if (s.link n).isBlocked = true then (s.link n).attention ||| 8
            else if (t.link n).state = .silent then (s.link n).attention ||| 32
            else (s.link n).attention) ∧
          (txcAttempts c.record ≠ 1 →
            (t.link n).rate = (s.link n).rate ∧ (t.link n).pace = (s.link n).pace) ∧
          (txcAttempts c.record = 1 → (s.link n).pace + (s.link n).upStep < 64 →
            (t.link n).rate = (s.link n).rate ∧
            (t.link n).pace = (s.link n).pace + (s.link n).upStep) ∧
          (txcAttempts c.record = 1 → 64 ≤ (s.link n).pace + (s.link n).upStep →
            (t.link n).pace = 0 ∧
            (t.link n).rate =
              if (s.link n).rate < (s.link n).ceiling then (s.link n).rate + 1 else (s.link n).rate)) ∧
        (∀ x, (s.link n).climbing = true → (s.link n).climb = some x →
          (txcAttempts c.record ≠ 1 ∨ x.run + 1 < 4 →
            (t.link n).climb = some { x with run := if txcAttempts c.record = 1 then x.run + 1 else 0 } ∧
            (t.link n).rate = (s.link n).rate ∧ (t.link n).pace = (s.link n).pace ∧
            (t.link n).climbing = true ∧ (t.link n).attention = (s.link n).attention) ∧
          (txcAttempts c.record = 1 → 4 ≤ x.run + 1 →
            (t.link n).climb = some { x with mark := (s.link n).rate, run := 0 } ∧
            ((s.link n).rate < (s.link n).ceiling →
              (t.link n).rate = (s.link n).rate + 1 ∧ (t.link n).pace = (s.link n).pace ∧
              (t.link n).climbing = true ∧ (t.link n).attention = (s.link n).attention) ∧
            ((s.link n).ceiling ≤ (s.link n).rate →
              (t.link n).rate = (s.link n).rate ∧ (t.link n).pace = 0 ∧
              (t.link n).climbing = false ∧ (t.link n).attention = (s.link n).attention ||| 64)))) ∧
      (∀ (rate ceiling : Nat) (l : LinkRec), txcOutcome c.record = .undelivered →
        ((s.link n).climbing = false ∧ rate = max (s.link n).floor ((s.link n).rate - (s.link n).downStep) ∧
            ceiling = (s.link n).ceiling ∨
          ∃ x, (s.link n).climbing = true ∧ (s.link n).climb = some x ∧
            (x.act = .keep ∧ rate = x.mark ∧ ceiling = x.mark ∨
              x.act = .returnRate ∧ rate = x.start ∧ ceiling = (s.link n).ceiling)) →
        l = { s.link n with
          estimate := average (s.link n).estimate 0 (s.link n).weight
          rate := rate
          ceiling := ceiling
          pace := 0
          cost := costOf rate (average (s.link n).estimate 0 (s.link n).weight)
          undelivered := min 255 ((s.link n).undelivered + 1)
          lastDelivered := false
          lastRetried := decide (1 < txcAttempts c.record)
          climbing := false
          climb := if (s.link n).climbing = true then (s.link n).climb.map fun x => { x with run := 0 }
            else (s.link n).climb
          attention := if (s.link n).climbing = true then (s.link n).attention ||| 64
            else (s.link n).attention
          sticky := { (s.link n).sticky with
            everUndelivered := true
            hitFloor := (s.link n).sticky.hitFloor || rate == (s.link n).floor
            costSaturated := (s.link n).sticky.costSaturated ||
              costOf (s.link n).rate (average (s.link n).estimate 0 (s.link n).weight) == 65535 ||
              costOf rate (average (s.link n).estimate 0 (s.link n).weight) == 65535 } } →
        ((s.link n).isBlocked = true ∨
            min 255 ((s.link n).undelivered + 1) < (s.link n).blockThreshold →
          t.link n = if (s.link n).state = .draining ∧ t.queuedCount n = 0 ∧ s.othersInFlight c.pos n = 0
            then { l with state := .silent, attention := l.attention ||| 32 } else l) ∧
        ((s.link n).state = .active →
          (s.link n).blockThreshold ≤ min 255 ((s.link n).undelivered + 1) →
          t.link n = { l with
            state := .blocked (s.link n).blockHold
            attention := l.attention ||| 4
            sticky := { l.sticky with blockedSeen := true } } ∧
          (∀ f' : Frame, f.link? = some n →
            f' = s.requeuedAt f (if f.mode = .table then t.lookup f.dest else some n) →
            s.FramePlaced t g f' [] ∧ s.Diverted t n (f'.headOf g) ∧
            ∀ x, x ≠ g → x ∉ (s.queuesOf n).all → t.frame x = s.frame x)) ∧
        ((s.link n).state = .draining →
          (s.link n).blockThreshold ≤ min 255 ((s.link n).undelivered + 1) →
          t.link n = { l with state := .silent, attention := l.attention ||| 32 } ∧
          (∀ f' : Frame, f.link? = some n →
            f' = s.requeuedAt f (if f.mode = .table then t.lookup f.dest else none) →
            s.FramePlaced t g f' ((s.queuesOf n).all.map ReleaseItem.entry) ∧ s.QueueCut t n (f'.headOf g) ∧
            ∀ x, x ≠ g → x ∉ (s.queuesOf n).all → t.frame x = s.frame x))) ∧
      (∀ l : LinkRec, txcOutcome c.record = .expired ∨ txcOutcome c.record = .aborted →
        l = { s.link n with
          sticky := { (s.link n).sticky with
            everExpired := (s.link n).sticky.everExpired || txcOutcome c.record == .expired } } →
        t.link n = if (s.link n).state = .draining ∧ t.queuedCount n = 0 ∧ s.othersInFlight c.pos n = 0
          then { l with state := .silent, attention := l.attention ||| 32 } else l)

/-- R76: D' is D plus the floor of ((s - D) W + 8) / 16, lies between D and s inclusive, and a sample equal to D
leaves it unchanged; the clamp never changes the result. -/
def Obligations.MovingAverageLiesBetween : Prop :=
  ∀ d x w : Nat, d ≤ 32768 → x ≤ 32768 → 1 ≤ w → w ≤ 15 →
    (average d x w : Int) = (d : Int) + (((x : Int) - (d : Int)) * (w : Int) + 8) / 16 ∧
    min d x ≤ average d x w ∧ average d x w ≤ max d x ∧ average d d w = d

/-! ### Slots and boundaries -/

/-- R135, R136, R138, R151: a slot writes nothing and only time passes up to its start: while QUIESCING, IDLE,
for a link in EMPTY, PROBING, SILENT or FAILED, for a link that carries frames with none queued or the ring full,
for a BLOCKED one with its probe buffer busy or the ring full, as BEACON with its buffer busy or the ring full,
and as SHARED with no reply pending and no link to probe. That a row brought early lets the time up to the slot's
start pass is the model's choice (log entry 14). -/
def Obligations.UnusedSlotsWriteNothing : Prop :=
  ∀ (s : State) (j : SlotIx), s.quiet = true → s.timing.nextSlot = j.val →
    s.path.engine ≠ .unanchored → s.slotTime j.val < s.superframeEnd →
    (s.isQuiescing = true ∨ bankGet s.sched.activePlan.slots j = .idle ∨
      (∃ n, bankGet s.sched.activePlan.slots j = .tx n ∧
        ((s.link n).closed = true ∨ (∃ k, (s.link n).state = .probing k) ∨ s.ringFree = false ∨
          ((s.link n).state = .active ∨ (s.link n).state = .draining) ∧ s.queuedCount n = 0 ∨
          (s.link n).isBlocked = true ∧ s.bufferFree (probeBuffer n) = false)) ∨
      (bankGet s.sched.activePlan.slots j = .beacon ∧
        (s.bufferFree s.sched.beaconBuffer = false ∨ s.ringFree = false)) ∨
      (bankGet s.sched.activePlan.slots j = .shared ∧ s.linkTable.pendingReplies = [] ∧
        ∀ n k, (s.link n).state = .probing k →
          (s.link n).probeSent = true ∨ s.bufferFree (probeBuffer n) = false ∨ s.ringFree = false)) →
    exec .slotStart s = .next
      { s.elapse (s.slotTime j.val - s.timing.timebase) with
        timing := { s.timing with
          timebase := s.timing.timebase + (s.slotTime j.val - s.timing.timebase)
          nextSlot := j.val + 1 } }

/-- R12, R137, R142, R106, R10: the BEACON slot with its buffer and a ring position free: the frame's writes and
then its descriptor are issued, the in-flight record is made, the buffer is busy, the next beacon buffer
toggles; the rate is the lowest at which the beacon fits the slot. The body carries the superframe number, the transmit
offset, the depth and flags, the plan generation and, after the own entry, one route entry for each chosen position.
The Route Table chooses the first 23 LEARNED entries, or all there are, from the cursor on, wrapping from 255 to 0; its
cursor moves to the position after the last of them, and each POISONED one has its count lowered, and is due to be freed
when it comes to 0. That a row brought early lets the time up to the slot's start
pass is the model's choice (log entry 14). -/
def Obligations.BeaconSlotSendsABeacon : Prop :=
  ∀ (s e : State) (j : SlotIx), s.quiet = true → s.path.engine = .running → s.timing.nextSlot = j.val →
    s.slotTime j.val < s.superframeEnd → bankGet s.sched.activePlan.slots j = .beacon →
    s.bufferFree s.sched.beaconBuffer = true → s.ringFree = true →
    e = s.elapse (s.slotTime j.val - s.timing.timebase) →
    ∃ (t : State) (frame : List Byte) (rate : Nat) (chosen : List RoutePos), exec .slotStart s = .next t ∧
      t = { e with
        timing := { e.timing with nextSlot := j.val + 1 }
        path := { e.path with queue := t.path.queue, tails := t.path.tails }
        routes := { s.routes with
          cursor := match chosen.getLast? with
            | some p => (p.val + 1) % 256
            | none => s.routes.cursor
          entries := t.routes.entries }
        sched := { s.sched with
          inFlight := s.sched.inFlight ++
            [⟨s.sched.producer, .beacon s.sched.beaconBuffer, s.sched.lap, false, false⟩]
          producer := if s.sched.producer + 1 < s.sched.ringSize.getD 0 then s.sched.producer + 1 else 0
          lap := if s.sched.producer + 1 < s.sched.ringSize.getD 0 then s.sched.lap else !s.sched.lap
          buffers := bankPut s.sched.buffers s.sched.beaconBuffer (some s.sched.producer)
          nextBeacon := !s.sched.nextBeacon }
        work := (chosen.filter fun p => match s.routes.entry p with
          | some ⟨_, .poisoned _ _ k⟩ => decide (k ≤ 1)
          | _ => false).map fun p => .due (.poisonCountExpiry p) } ∧
      chosen.length ≤ 23 ∧
      chosen.Pairwise (fun p q => (p.val + 256 - s.routes.cursor % 256) % 256 <
        (q.val + 256 - s.routes.cursor % 256) % 256) ∧
      (∀ p ∈ chosen, ∃ d b, s.routes.entry p = some ⟨d, b⟩ ∧ ∀ h, b ≠ .pinned h) ∧
      (∀ (p : RoutePos) (d : NodeId) (b : RouteBody), s.routes.entry p = some ⟨d, b⟩ → (∀ h, b ≠ .pinned h) →
        p ∉ chosen → chosen.length = 23 ∧ ∀ q ∈ chosen,
          (q.val + 256 - s.routes.cursor % 256) % 256 < (p.val + 256 - s.routes.cursor % 256) % 256) ∧
      (∀ p d sq age k, p ∈ chosen → s.routes.entry p = some ⟨d, .poisoned sq age k⟩ →
        t.routes.entry p = some ⟨d, .poisoned sq age (k - 1)⟩) ∧
      (∀ p, (p ∉ chosen ∨ ∀ d sq age k, s.routes.entry p ≠ some ⟨d, .poisoned sq age k⟩) →
        t.routes.entry p = s.routes.entry p) ∧
      t.path.queue ++ t.path.tails = e.path.queue ++ e.path.tails ++
        writeAccesses .ownFrame (s.bufferAddress s.sched.beaconBuffer) frame ++
        [.write (.descriptor s.sched.producer) (s.txAddress s.sched.producer) (descriptorBytes {
          lap := s.sched.lap, rate := rate, attempts := 1, launchSuperframe := s.timing.number
          buffer := s.bufferAddress s.sched.beaconBuffer, length := frame.length, dest := 0xFFFF
          launch := s.slotTime j.val + 10
          deadline := s.slotTime j.val + 10 + s.slotBudget - airtime rate frame.length })] ∧
      (airtime rate frame.length ≤ s.slotBudget ∨ rate = 7) ∧
      (∀ r, r < rate → s.slotBudget < airtime r frame.length) ∧
      frame.take 20 = ownHeader 2 s.path.ownId 0xFFFF (frame.length - 20) ∧
      frame.length = 30 + 6 * (1 + chosen.length) ∧
      bodyCount (frame.drop 20) = 1 + chosen.length ∧
      bodySuperframe (frame.drop 20) = s.timing.number ∧
      bodyOffset (frame.drop 20) = (s.slotTime j.val + 10) % 65536 ∧
      bodyDepth (frame.drop 20) = s.timing.state.depth % 16 ∧
      bodyHoldover (frame.drop 20) = s.timing.state.holdoverFlag ∧
      (∀ c, s.sched.stage = .announced c →
        bodyGeneration (frame.drop 20) = (s.sched.plan c).generation ∧
        bodyAnnounce (frame.drop 20) = true) ∧
      ((∀ c, s.sched.stage ≠ .announced c) →
        bodyGeneration (frame.drop 20) = s.sched.activePlan.generation ∧
        bodyAnnounce (frame.drop 20) = false) ∧
      bodyEntry (frame.drop 20) 0 = ⟨s.path.ownId, 0, s.routes.ownSeq⟩ ∧
      (∀ (i : Nat) (p : RoutePos) (x : RouteEntry), chosen[i]? = some p → s.routes.entry p = some x →
        (∀ st q alt seq age, x.body = .live st q alt seq age →
          bodyEntry (frame.drop 20) (i + 1) = ⟨x.dest, q.metric % 65536, seq⟩) ∧
        (∀ seq age count, x.body = .poisoned seq age count →
          bodyEntry (frame.drop 20) (i + 1) = ⟨x.dest, 65535, seq⟩))

/-- R135, R138, R139, R140, R25, R142, R13: a TX slot. Of an ACTIVE or DRAINING link with one frame queued that
fits, in the slot or with the IDLE slot after it: the frame leaves its queue for the ring position its descriptor
takes, and a BULK or BACKGROUND frame raises the interleave counter. A burst of several: EXPEDITED and INTERACTIVE
frames in that order, each queue from its head; the first that does not fit what is left of the budget ends its
class; BULK and BACKGROUND alternate by the counter. A Local Intake STALLED on the link is told that its queued count
has fallen (R20, R125). Of a BLOCKED link: a probe. R136, R14: a SHARED slot serves
the oldest pending reply, or probes the first link after the rotation pointer that asks for it. That a row brought
early lets the time up to the slot's start pass is the model's choice (log entry 14); that a pending reply whose
node no link holds is removed even with every reply buffer busy is its reading (log entry 24). -/
def Obligations.TxSlotsSendFramesOrProbes : Prop :=
  ∀ (s e : State) (j : SlotIx) (n : LinkIx), s.quiet = true → s.path.engine = .running →
    s.timing.nextSlot = j.val → s.slotTime j.val < s.superframeEnd → s.ringFree = true →
    e = s.elapse (s.slotTime j.val - s.timing.timebase) →
    (∀ g f budget, bankGet s.sched.activePlan.slots j = .tx n →
      ((s.link n).state = .active ∨ (s.link n).state = .draining) →
      (s.queuesOf n).all = [g] → s.frame g = some f →
      (airtime (s.link n).rate f.length ≤ s.slotBudget ∧ budget = s.slotBudget ∨
        s.slotBudget < airtime (s.link n).rate f.length ∧
          airtime (s.link n).rate f.length ≤ s.slotBudget + s.slotLength ∧
          budget = s.slotBudget + s.slotLength ∧
          ∃ k : SlotIx, k.val = j.val + 1 ∧ bankGet s.sched.activePlan.slots k = .idle) →
      ∃ t, exec .slotStart s = .next t ∧
        t = { e with
          timing := { e.timing with nextSlot := j.val + 1 }
          path := { e.path with queue := t.path.queue, tails := t.path.tails }
          intake := { s.intake with stage := s.intake.stage.afterFall n }
          pool := { s.pool with
            entries := bankPut s.pool.entries g (some { f with place := .inRing n s.sched.producer })
            queues := bankPut s.pool.queues n ⟨[], [], [], []⟩ }
          linkTable := { s.linkTable with
            links := bankPut s.linkTable.links n { s.link n with
              interleave :=
                if (s.queuesOf n).bulk = [] ∧ (s.queuesOf n).background = [] then (s.link n).interleave
                else ((s.link n).interleave + 1) % 4 } }
          sched := { s.sched with
            inFlight := s.sched.inFlight ++ [⟨s.sched.producer, .data g n, s.sched.lap, false, false⟩]
            producer := if s.sched.producer + 1 < s.sched.ringSize.getD 0 then s.sched.producer + 1 else 0
            lap := if s.sched.producer + 1 < s.sched.ringSize.getD 0 then s.sched.lap else !s.sched.lap } } ∧
        t.path.queue ++ t.path.tails = e.path.queue ++ e.path.tails ++
          [.write (.descriptor s.sched.producer) (s.txAddress s.sched.producer) (descriptorBytes {
            lap := s.sched.lap, rate := (s.link n).rate, attempts := (s.link n).attempts
            launchSuperframe := s.timing.number, buffer := f.buffer, length := f.length
            dest := (s.link n).node, launch := s.slotTime j.val + 10
            deadline := s.slotTime j.val + 10 + budget - airtime (s.link n).rate f.length })]) ∧
    (∀ (N counter : Nat) (sent kept : List (Tag × Frame)) (left : ClassQueues),
      bankGet s.sched.activePlan.slots j = .tx n →
      ((s.link n).state = .active ∨ (s.link n).state = .draining) → s.PoolOk →
      s.sched.ringSize = some N → s.sched.producer < N → s.sched.inFlight.length + sent.length ≤ N →
      (∀ x : Tag × Frame, x ∈ sent ++ kept → s.frame x.1 = some x.2) →
      (sent.map fun x : Tag × Frame => airtime (s.link n).rate x.2.length).sum ≤ s.slotBudget →
      (kept = [] ∧ counter = (s.link n).interleave ∧ left = ⟨[], [], [], []⟩ ∧ sent ≠ [] ∧
          (∃ i, s.queuesOf n = ⟨(sent.take i).map Prod.fst, (sent.drop i).map Prod.fst, [], []⟩) ∨
        (∃ g f h fh, s.queuesOf n = ⟨[g], [h], [], []⟩ ∧ sent = [(g, f)] ∧ kept = [(h, fh)] ∧
          counter = (s.link n).interleave ∧ left = ⟨[], [h], [], []⟩ ∧
          s.slotBudget < airtime (s.link n).rate f.length + airtime (s.link n).rate fh.length) ∨
        (∃ g f h fh, s.queuesOf n = ⟨[], [], [g], [h]⟩ ∧ kept = [] ∧
          sent = (if (s.link n).interleave = 3 then [(h, fh), (g, f)] else [(g, f), (h, fh)]) ∧
          counter = ((s.link n).interleave + 2) % 4 ∧ left = ⟨[], [], [], []⟩)) →
      ∃ t, exec .slotStart s = .next t ∧
        t = { e with
          timing := { e.timing with nextSlot := j.val + 1 }
          path := { e.path with queue := t.path.queue, tails := t.path.tails }
          intake := { s.intake with stage := s.intake.stage.afterFall n }
          pool := { s.pool with entries := t.pool.entries, queues := bankPut s.pool.queues n left }
          linkTable := { s.linkTable with
            links := bankPut s.linkTable.links n { s.link n with interleave := counter } }
          sched := { s.sched with
            inFlight := s.sched.inFlight ++ (sent.mapIdx fun (i : Nat) (x : Tag × Frame) =>
              (⟨(s.sched.producer + i) % N, .data x.1 n,
                if s.sched.producer + i < N then s.sched.lap else !s.sched.lap, false, false⟩ : InFlight))
            producer := (s.sched.producer + sent.length) % N
            lap := if s.sched.producer + sent.length < N then s.sched.lap else !s.sched.lap } } ∧
        (∀ (i : Nat) (x : Tag × Frame), sent[i]? = some x →
          t.frame x.1 = some { x.2 with place := .inRing n ((s.sched.producer + i) % N) }) ∧
        (∀ g, g ∉ sent.map Prod.fst → t.frame g = s.frame g) ∧
        t.path.queue ++ t.path.tails = e.path.queue ++ e.path.tails ++ (sent.mapIdx fun (i : Nat) (x : Tag × Frame) =>
          Injected.write (.descriptor ((s.sched.producer + i) % N)) (s.txAddress ((s.sched.producer + i) % N))
            (descriptorBytes {
              lap := if s.sched.producer + i < N then s.sched.lap else !s.sched.lap
              rate := (s.link n).rate, attempts := (s.link n).attempts
              launchSuperframe := s.timing.number, buffer := x.2.buffer, length := x.2.length
              dest := (s.link n).node, launch := s.slotTime j.val + 10
              deadline := s.slotTime j.val + 10 + s.slotBudget - airtime (s.link n).rate x.2.length }))) ∧
    (bankGet s.sched.activePlan.slots j = .tx n → (s.link n).isBlocked = true →
      s.bufferFree (probeBuffer n) = true →
      ∃ t, exec .slotStart s = .next t ∧
        t = { e with
          timing := { e.timing with nextSlot := j.val + 1 }
          path := { e.path with queue := t.path.queue, tails := t.path.tails }
          sched := { s.sched with
            inFlight := s.sched.inFlight ++
              [⟨s.sched.producer, .probe (probeBuffer n) n (s.link n).node, s.sched.lap, false, false⟩]
            producer := if s.sched.producer + 1 < s.sched.ringSize.getD 0 then s.sched.producer + 1 else 0
            lap := if s.sched.producer + 1 < s.sched.ringSize.getD 0 then s.sched.lap else !s.sched.lap
            buffers := bankPut s.sched.buffers (probeBuffer n) (some s.sched.producer) } } ∧
        t.path.queue ++ t.path.tails = e.path.queue ++ e.path.tails ++
          writeAccesses .ownFrame (s.bufferAddress (probeBuffer n))
            (ownHeader 3 s.path.ownId (s.link n).node 0) ++
          [.write (.descriptor s.sched.producer) (s.txAddress s.sched.producer) (descriptorBytes {
            lap := s.sched.lap, rate := (s.link n).floor, attempts := (s.link n).attempts
            launchSuperframe := s.timing.number, buffer := s.bufferAddress (probeBuffer n), length := 20
            dest := (s.link n).node, launch := s.slotTime j.val + 10
            deadline := s.slotTime j.val + 10 + s.slotBudget - airtime (s.link n).floor 20 })]) ∧
    (∀ (b : BufIx) (kind : Nat) (node : NodeId) (carried : Carried) (replies : List NodeId)
      (links : Bank LinkRec 16) (pointer : LinkIx), bankGet s.sched.activePlan.slots j = .shared →
      (s.linkTable.pendingReplies = node :: replies ∧ s.linkOf node = some n ∧ 18 ≤ b.val ∧
          s.bufferFree b = true ∧ (∀ x : BufIx, 18 ≤ x.val → x < b → s.bufferFree x = false) ∧ kind = 4 ∧
          carried = .reply b n node ∧ links = s.linkTable.links ∧ pointer = s.sched.probePointer ∨
        (s.linkTable.pendingReplies = [] ∧ replies = [] ∨
            ∃ gone, s.linkTable.pendingReplies = gone :: replies ∧ s.linkOf gone = none) ∧
          b = probeBuffer n ∧ kind = 3 ∧ node = (s.link n).node ∧ carried = .probe b n node ∧
          links = bankPut s.linkTable.links n { s.link n with probeSent := true } ∧ pointer = n ∧
          ∃ i, i < 16 ∧ n.val = (s.sched.probePointer.val + 1 + i) % 16 ∧
            ∀ m : LinkIx, (∃ x, x < 16 ∧ m.val = (s.sched.probePointer.val + 1 + x) % 16 ∧ x ≤ i) →
              ((∃ timer, (s.link m).state = .probing timer) ∧ (s.link m).probeSent = false ∧
                s.bufferFree (probeBuffer m) = true ↔ m = n)) →
      ∃ t, exec .slotStart s = .next t ∧
        t = { e with
          timing := { e.timing with nextSlot := j.val + 1 }
          path := { e.path with queue := t.path.queue, tails := t.path.tails }
          linkTable := { s.linkTable with links := links, pendingReplies := replies }
          sched := { s.sched with
            inFlight := s.sched.inFlight ++ [⟨s.sched.producer, carried, s.sched.lap, false, false⟩]
            producer := if s.sched.producer + 1 < s.sched.ringSize.getD 0 then s.sched.producer + 1 else 0
            lap := if s.sched.producer + 1 < s.sched.ringSize.getD 0 then s.sched.lap else !s.sched.lap
            buffers := bankPut s.sched.buffers b (some s.sched.producer)
            probePointer := pointer } } ∧
        t.path.queue ++ t.path.tails = e.path.queue ++ e.path.tails ++
          writeAccesses .ownFrame (s.bufferAddress b) (ownHeader kind s.path.ownId node 0) ++
          [.write (.descriptor s.sched.producer) (s.txAddress s.sched.producer) (descriptorBytes {
            lap := s.sched.lap, rate := (s.link n).floor, attempts := (s.link n).attempts
            launchSuperframe := s.timing.number, buffer := s.bufferAddress b, length := 20
            dest := node, launch := s.slotTime j.val + 10
            deadline := s.slotTime j.val + 10 + s.slotBudget - airtime (s.link n).floor 20 })])

/-- R151, R152, R153, R155: the boundary: the timebase is 0, A and the step end are cleared, the number rises by
one or takes the value the step fixed, the sightings are emptied, a pending change to ROOT takes effect and SFS
is pulsed and then shows the low 8 bits of the new number, least significant first, whatever the order in which the
blocks then take it; the Command Unit, the Completion Unit and packet memory have no part in it. With slot 0 IDLE and nothing due, in every order: ages rise (R32, R102), timers fall
and superframes without a beacon are counted (R48, R56, R58), the boundary count rises (R105), the switch stage
moves (R132), the silence or holdover count moves (R159, R160), and while QUIESCING only what R40, R105, R162 and
R190 leave. A threshold reached makes its consequence due. That a row brought early lets the time up to the
superframe's end pass is the model's choice (log entry 14), as are that the consequences of the block that comes
first wait in the work list (log entry 8) and that what SFS has not shown yet of the old number's bits is dropped (log
entry 36). -/
def Obligations.BoundaryBeginsASuperframe : Prop :=
  ∀ (s : State) (order : List Block), s.quiet = true → s.path.engine ≠ .unanchored →
    ∃ t, exec (.superframeBoundary order) s = .next t ∧
      t = { s with
        pins := { s.pins with sfs := t.pins.sfs }
        path := { s.path with engine := t.path.engine, slot := t.path.slot, queue := t.path.queue,
                              tails := t.path.tails }
        classifier := t.classifier
        intake := { s.intake with stage := t.intake.stage }
        pool := { s.pool with entries := t.pool.entries, queues := t.pool.queues }
        linkTable := { s.linkTable with links := t.linkTable.links,
                                        pendingReplies := t.linkTable.pendingReplies }
        routes := t.routes
        sched := { s.sched with
          active := t.sched.active, stage := t.sched.stage, producer := t.sched.producer
          lap := t.sched.lap, inFlight := t.sched.inFlight, buffers := t.sched.buffers
          nextBeacon := t.sched.nextBeacon, probePointer := t.sched.probePointer }
        timing := t.timing
        reports := { s.reports with planLatch := t.reports.planLatch, timingLatch := t.reports.timingLatch }
        work := t.work } ∧
      t.timing.timebase = 0 ∧ t.timing.adjust = 0 ∧ t.timing.stepEnd = none ∧
      t.timing.number = (match s.timing.stepEnd with
        | some e => e.number
        | none => s.timing.number + 1) ∧
      (∀ n, bankGet t.timing.sightings n = none) ∧ t.sfs = true ∧
      t.pins.sfs = true :: (List.range 8).map (fun i => t.timing.number.getLsbD i) ∧
      (s.timing.pendingRoot = true → t.timing.role = .root ∧ t.timing.state = .root ∧
        t.timing.pendingRoot = false ∧ t.reports.timingLatch = some ⟨.root⟩) ∧
      (s.timing.pendingRoot = false → t.timing.role = s.timing.role ∧ t.timing.state = s.timing.state ∧
        t.timing.pendingRoot = false ∧ t.reports.timingLatch = s.reports.timingLatch) ∧
      t.timing.propagation = s.timing.propagation ∧ t.timing.outliers = s.timing.outliers ∧
      (∀ p node depth, t.timing.state = .locked p node depth →
        t.timing.heard = false ∧ t.timing.holdover = s.timing.holdover ∧
        t.timing.silence = (if s.timing.heard = true then 0
          else if s.path.engine = .running then s.timing.silence + 1 else s.timing.silence) ∧
        (s.path.engine = .running → s.timing.heard = false → 8 ≤ s.timing.silence + 1 →
          t.work.head? = some (.due .silenceLimit))) ∧
      (∀ p node depth, t.timing.state = .holdover p node depth →
        t.timing.heard = s.timing.heard ∧ t.timing.silence = s.timing.silence ∧
        t.timing.holdover = (if s.path.engine = .running then s.timing.holdover + 1 else s.timing.holdover) ∧
        (s.path.engine = .running → 64 ≤ s.timing.holdover + 1 →
          t.work.head? = some (.due .holdoverTimeout))) ∧
      (t.timing.state = .root ∨ t.timing.state = .seeking →
        t.timing.heard = s.timing.heard ∧ t.timing.silence = s.timing.silence ∧
        t.timing.holdover = s.timing.holdover) ∧
      (s.path.engine = .running →
        ((∀ p node depth, t.timing.state = .locked p node depth →
            s.timing.heard = true ∨ s.timing.silence + 1 < 8) ∧
          (∀ p node depth, t.timing.state = .holdover p node depth → s.timing.holdover + 1 < 64)) →
        (∀ rest, order = .framePool :: rest → ∀ g f, s.frame g = some f → f.age < 255 →
          ((∃ n, f.place = .queued n) → s.pool.maxAge f.cls ≤ f.age → .due (.agedRelease g) ∈ t.work) ∧
          (f.place = .held → s.pool.holdTimeout ≤ f.age + 1 → .due (.holdTimeout g) ∈ t.work) ∧
          (f.place = .held → f.age + 1 < s.pool.holdTimeout → s.pool.maxAge f.cls ≤ f.age →
            .due (.agedRelease g) ∈ t.work)) ∧
        (∀ rest, order = .linkTable :: rest → ∀ n,
          ((s.link n).state = .probing 1 → .due (.openTimeout n) ∈ t.work) ∧
          ((s.link n).state = .blocked 1 → .due (.blockHoldExpiry n) ∈ t.work) ∧
          (((s.link n).state = .active ∨ (s.link n).state = .draining ∨
              ∃ k, (s.link n).state = .blocked (k + 2)) → (s.link n).heard = false →
            s.linkTable.missLimit ≤ (s.link n).missCount + 1 → .due (.beaconLoss n) ∈ t.work)) ∧
        (∀ rest, order = .routeTable :: rest →
          (∀ p d st h q x age, s.routes.entry p = some ⟨d, .live st h q x age⟩ → age < 255 →
            (128 ≤ age + 1 → .due (.routeAgePoison p) ∈ t.work) ∧
            (st = false → 32 ≤ age + 1 → age + 1 < 128 → .due (.routeStale p) ∈ t.work)) ∧
          (16 ≤ s.routes.boundaryCount + 1 → .due .ownSequenceAdvance ∈ t.work))) ∧
      (s.path.engine = .running → s.superframeEnd ≤ s.timing.timebase →
        (∀ a d, s.path.slot ≠ .deciding a d 0) →
        ((∀ p node depth, t.timing.state = .locked p node depth →
            s.timing.heard = true ∨ s.timing.silence + 1 < 8) ∧
          (∀ p node depth, t.timing.state = .holdover p node depth → s.timing.holdover + 1 < 64) ∧
          (∀ g f, s.frame g = some f → ((∃ n, f.place = .queued n) ∨ f.place = .held) →
            f.age + 1 ≤ s.pool.maxAge f.cls ∧ (f.place = .held → f.age + 1 < s.pool.holdTimeout)) ∧
          (∀ n, (∀ k, (s.link n).state = .probing k ∨ (s.link n).state = .blocked k → 2 ≤ k) ∧
            ((s.link n).carrying = true →
              (if (s.link n).heard = true then (s.link n).missCount else (s.link n).missCount + 1) <
                s.linkTable.missLimit)) ∧
          (∀ p d st h q x age, s.routes.entry p = some ⟨d, .live st h q x age⟩ →
            age + 1 < 128 ∧ (st = true ∨ age + 1 < 32)) ∧
          s.routes.boundaryCount + 1 < 16 ∧
          (∀ c, s.sched.stage = .announced c → bankGet (s.sched.plan c).slots 0 = .idle) ∧
          ((∀ c, s.sched.stage ≠ .announced c) → bankGet s.sched.activePlan.slots 0 = .idle)) →
        t = { s with
          pins := { s.pins with sfs := t.pins.sfs }
          pool := { s.pool with entries := t.pool.entries }
          linkTable := { s.linkTable with links := t.linkTable.links }
          routes := { s.routes with entries := t.routes.entries
                                    boundaryCount := s.routes.boundaryCount + 1 }
          sched := { s.sched with
            active := (match s.sched.stage with
              | .announced c => c
              | _ => s.sched.active)
            stage := (match s.sched.stage with
              | .accepted c => .announced c
              | _ => .none) }
          timing := t.timing
          reports := { s.reports with
            timingLatch := t.reports.timingLatch
            planLatch := (match s.sched.stage with
              | .announced c => some ⟨c, (s.sched.plan c).generation, t.timing.number⟩
              | _ => s.reports.planLatch) } } ∧
        (∀ g, t.frame g = (s.frame g).map fun f =>
          { f with age := if f.age < 255 then f.age + 1 else f.age }) ∧
        (∀ n, t.link n = { s.link n with
          state := (match (s.link n).state with
            | .probing k => .probing (k - 1)
            | .blocked k => .blocked (k - 1)
            | x => x)
          missCount := if (s.link n).carrying = true ∧ (s.link n).heard = false then (s.link n).missCount + 1
            else (s.link n).missCount
          heard := false
          probeSent := false }) ∧
        (∀ p, t.routes.entry p = (s.routes.entry p).map fun x => ⟨x.dest, match x.body with
          | .pinned h => .pinned h
          | .live st h q y age => .live st h q y (if age < 255 then age + 1 else age)
          | .poisoned y age k => .poisoned y (if age < 255 then age + 1 else age) k⟩)) ∧
      (∀ m c, s.path.engine = .quiescing m c → s.superframeEnd ≤ s.timing.timebase →
        (∀ a d, s.path.slot ≠ .deciding a d 0) →
        (s.routes.boundaryCount + 1 < 16 → (c + 1 < 64 ∨ 64 ≤ c ∨ s.sched.inFlight = []) →
          t = { s with
            pins := { s.pins with sfs := t.pins.sfs }
            path := { s.path with engine := .quiescing m (min 64 (c + 1)) }
            pool := { s.pool with entries := t.pool.entries }
            routes := { s.routes with boundaryCount := s.routes.boundaryCount + 1 }
            timing := t.timing
            reports := { s.reports with timingLatch := t.reports.timingLatch } } ∧
          ∀ g, t.frame g = (s.frame g).map fun f =>
            { f with age := if f.age < 255 then f.age + 1 else f.age }) ∧
        (∀ rest, order = .engine :: rest → c = 63 → s.sched.inFlight ≠ [] →
          t.path.engine = .quiescing m 64 ∧ .due .quiesceLimit ∈ t.work))

/-- R102, R105, R106: the consequences at the Route Table, each carried out by its own row; nothing else changes.
R93 to R100: what one advertised entry does to the table, by what the table holds for its destination and by the
serial comparison of its sequence (R92), and whether it created or revived an entry; the entries of a beacon are
taken one after another. -/
def Obligations.RouteConsequencesAreCarriedOut : Prop :=
  (∀ (s : State) (p : RoutePos) (ws : List Work), (∀ w ∈ ws, ∃ c, w = .due c) →
    (∀ d st h q x age, s.work = .due (.routeStale p) :: ws →
      s.routes.entry p = some ⟨d, .live st h q x age⟩ →
      exec .routeStale s = .next { s with
        routes := s.routes.setEntry p (some ⟨d, .live true h q x age⟩), work := ws }) ∧
    (∀ d st h q x age, s.work = .due (.routeAgePoison p) :: ws →
      s.routes.entry p = some ⟨d, .live st h q x age⟩ →
      exec .routeAgePoison s = .next { s with
        routes := s.routes.setEntry p (some ⟨d, .poisoned x 0 4⟩), work := ws }) ∧
    (∀ d x age, s.work = .due (.poisonCountExpiry p) :: ws →
      s.routes.entry p = some ⟨d, .poisoned x age 0⟩ →
      exec .poisonCountExpiry s = .next { s with routes := s.routes.setEntry p none, work := ws }) ∧
    (s.work = .due .ownSequenceAdvance :: ws →
      exec .ownSequenceAdvance s = .next { s with
        routes := { s.routes with ownSeq := s.routes.ownSeq + 1, boundaryCount := 0 }, work := ws })) ∧
  (∀ (rt : RouteTable) (own : NodeId) (n : LinkIx) (cost : Nat) (flag : Bool),
    RouteTable.learnAll own n cost [] (rt, flag) = (rt, flag) ∧
    ∀ a as, RouteTable.learnAll own n cost (a :: as) (rt, flag) =
      RouteTable.learnAll own n cost as
        ((rt.learn own n cost a).1, flag || (rt.learn own n cost a).2)) ∧
  (∀ (rt : RouteTable) (own : NodeId) (n : LinkIx) (cost cand : Nat) (a : Advert),
    cand = (if a.metric = 65535 then 65535 else min 65535 (a.metric + cost + rt.penalty)) →
    (a.dest = 0 ∨ a.dest = 0xFFFF ∨ a.dest = own → rt.learn own n cost a = (rt, false)) ∧
    (a.dest ≠ 0 → a.dest ≠ 0xFFFF → a.dest ≠ own → rt.posOf a.dest = none →
      (cand = 65535 → rt.learn own n cost a = (rt, false)) ∧
      (∀ p, cand < 65535 →
        (rt.lowestFree = some p ∨ rt.lowestFree = none ∧
          ((∃ d x age k, rt.entry p = some ⟨d, .poisoned x age k⟩ ∧
              ∀ q d' x' age' k', rt.entry q = some ⟨d', .poisoned x' age' k'⟩ → k < k' ∨ k = k' ∧ p ≤ q) ∨
            (∀ q d' x' age' k', rt.entry q ≠ some ⟨d', .poisoned x' age' k'⟩) ∧
              ∃ d st h y x age, rt.entry p = some ⟨d, .live st h y x age⟩ ∧ cand < h.metric ∧
                ∀ q d' st' h' y' x' age', rt.entry q = some ⟨d', .live st' h' y' x' age'⟩ →
                  h'.metric < h.metric ∨
                    h'.metric = h.metric ∧ (age' < age ∨ age' = age ∧ p ≤ q))) →
        rt.learn own n cost a = (rt.setEntry p (some ⟨a.dest, .live false ⟨n, cand⟩ none a.seq 0⟩), true)) ∧
      (rt.lowestFree = none → (∀ q d x age k, rt.entry q ≠ some ⟨d, .poisoned x age k⟩) →
        (∀ q d st h y x age, rt.entry q = some ⟨d, .live st h y x age⟩ → h.metric ≤ cand) →
        rt.learn own n cost a = (rt, false))) ∧
    (∀ (p : RoutePos) (e : RouteEntry) (result : RouteBody) (revived newer equal : Bool) (held : BitVec 16),
      a.dest ≠ 0 → a.dest ≠ 0xFFFF → a.dest ≠ own → rt.posOf a.dest = some p → rt.entry p = some e →
      e.dest = a.dest →
      newer = decide (1 ≤ (a.seq - held).toNat ∧ (a.seq - held).toNat ≤ 32767) →
      equal = decide (a.seq = held) →
      ((∃ h, e.body = .pinned h ∧ result = e.body ∧ revived = false) ∨
        (∃ age k, e.body = .poisoned held age k ∧
          (newer = true ∧ cand < 65535 ∧ result = .live false ⟨n, cand⟩ none a.seq 0 ∧ revived = true ∨
            newer = true ∧ cand = 65535 ∧ result = .poisoned a.seq 0 4 ∧ revived = false ∨
            newer = false ∧ result = e.body ∧ revived = false)) ∨
        (∃ st h q age, e.body = .live st h q held age ∧ revived = false ∧
          (newer = true ∧ cand < 65535 ∧ result = .live false ⟨n, cand⟩ none a.seq 0 ∨
            newer = true ∧ cand = 65535 ∧ result = .poisoned a.seq 0 4 ∨
            newer = false ∧ equal = false ∧ result = e.body ∨
            equal = true ∧ h.link = n ∧
              (cand < 65535 ∧ q = none ∧ result = .live false ⟨n, cand⟩ none held 0 ∨
                (∃ x, q = some x ∧ cand < 65535 ∧ x.metric + rt.hysteresis < cand ∧
                  result = .live false x (some ⟨n, cand⟩) held 0) ∨
                (∃ x, q = some x ∧ cand < 65535 ∧ cand ≤ x.metric + rt.hysteresis ∧
                  result = .live false ⟨n, cand⟩ q held 0) ∨
                (∃ x, q = some x ∧ cand = 65535 ∧ result = .live st x none held age) ∨
                q = none ∧ cand = 65535 ∧ result = .poisoned held 0 4) ∨
            equal = true ∧ h.link ≠ n ∧ (∃ x, q = some x ∧ x.link = n) ∧
              result = .live st h (if cand < 65535 then some ⟨n, cand⟩ else none) held age ∨
            equal = true ∧ h.link ≠ n ∧ (∀ x, q = some x → x.link ≠ n) ∧
              (cand + rt.hysteresis < h.metric ∧ result = .live false ⟨n, cand⟩ (some h) held 0 ∨
                h.metric ≤ cand + rt.hysteresis ∧ cand < 65535 ∧
                  (∀ x, q = some x → cand < x.metric) ∧ result = .live st h (some ⟨n, cand⟩) held age ∨
                h.metric ≤ cand + rt.hysteresis ∧ (cand = 65535 ∨ ∃ x, q = some x ∧ x.metric ≤ cand) ∧
                  result = e.body)))) →
      rt.learn own n cost a = (rt.setEntry p (some ⟨a.dest, result⟩), revived)))

/-- R158, R159, R160, R154: the consequences at the Timing Unit, each with its TIMING notice; nothing else
changes. -/
def Obligations.TimingConsequencesAreCarriedOut : Prop :=
  ∀ (s : State) (ws : List Work), (∀ w ∈ ws, ∃ c, w = .due c) →
    (∀ p node depth, s.work = .due .silenceLimit :: ws → s.timing.state = .locked p node depth →
      exec .silenceLimit s = .next { s with
        timing := { s.timing with state := .holdover p node depth, holdover := 0 }
        reports := { s.reports with timingLatch := some ⟨.holdover p node depth⟩ }
        work := ws }) ∧
    (∀ p node depth, s.work = .due .holdoverTimeout :: ws → s.timing.state = .holdover p node depth →
      exec .holdoverTimeout s = .next { s with
        timing := { s.timing with state := .seeking }
        reports := { s.reports with timingLatch := some ⟨.seeking⟩ }
        work := ws }) ∧
    (∀ p node depth, s.work = .due .outlierLimit :: ws → s.timing.state = .locked p node depth →
      exec .outlierLimit s = .next { s with
        timing := { s.timing with state := .seeking, adjust := 0 }
        reports := { s.reports with timingLatch := some ⟨.seeking⟩ }
        work := ws })

/-- R48, R56, R58, R59, R45, R65, R86, R103, R161, R30, R20, R125: a link at its open timeout, its block hold or its
beacon miss limit enters FAILED with that reason and attention FAILED. The Route Table treats every entry that names it:
an alternate becomes the primary, an entry without one is POISONED with count 4 and age 0, an alternate on the link is
dropped, and PINNED and POISONED entries stand. Its queued frames are re-dispatched: a TABLE frame to the tail of the
queue its lookup names, without a route to the held list with age 0 while that has room, and released NO_ROUTE like a
VIA frame after it; a Local Intake STALLED on the link is told when there was a frame. The Timing Unit is told (a parent
by its link index, log entry 35), the link's climb ends and its pending reply is removed; the other records are
unchanged. -/
def Obligations.FailingLinksEnterFailed : Prop :=
  ∀ (s : State) (n : LinkIx) (ws : List Work) (c : Instr) (reason : FailureReason), s.PoolOk →
    (∀ p e, s.routes.entry p = some e → e.body.ok = true) → (∀ w ∈ ws, ∃ x, w = .due x) →
    (c = .openTimeout ∧ reason = .openTimeout ∧ s.work = .due (.openTimeout n) :: ws ∧
        (s.link n).state = .probing 0 ∨
      c = .blockHoldExpiry ∧ reason = .blockage ∧ s.work = .due (.blockHoldExpiry n) :: ws ∧
        (s.link n).state = .blocked 0 ∨
      c = .beaconLoss ∧ reason = .beaconLoss ∧ s.work = .due (.beaconLoss n) :: ws ∧
        (s.link n).carrying = true ∧ s.linkTable.missLimit ≤ (s.link n).missCount) →
    ∃ t, exec c s = .next t ∧
      t = { s with
        linkTable := { s.linkTable with
          links := bankPut s.linkTable.links n { s.link n with
            state := .failed reason
            climbing := false
            climb := if (s.link n).climbing = true then (s.link n).climb.map fun x => { x with run := 0 }
              else (s.link n).climb
            attention := (s.link n).attention ||| 16 }
          pendingReplies := s.linkTable.pendingReplies.filter fun x => some x != (s.link n).neighbour }
        routes := s.routes.dropLink n
        pool := { s.pool with entries := t.pool.entries, queues := t.pool.queues,
                              heldList := t.pool.heldList, backlog := t.pool.backlog }
        intake := { s.intake with
          stage := if s.queuedCount n = 0 then s.intake.stage else s.intake.stage.afterFall n }
        timing := t.timing
        reports := { s.reports with timingLatch := t.reports.timingLatch }
        work := ws } ∧
      s.routes.LinkDropped t.routes n ∧ t.queuedCount n = 0 ∧
      (∀ g f, g ∈ (s.queuesOf n).all → s.frame g = some f →
        (f.mode = .via → t.frame g = some { f with place := .releasing .noRoute }) ∧
        (∀ m, f.mode = .table → t.lookup f.dest = some m → t.frame g = some { f with place := .queued m })) ∧
      (∀ (m : LinkIx) (k : TrafficClass), m ≠ n → (t.queuesOf m).get k = (s.queuesOf m).get k ++
        ((s.queuesOf n).get k).filter fun g => t.tableRoute (s.frame g) == some m) ∧
      (∀ (homeless held : List Tag),
        homeless = ((s.queuesOf n).all.filter fun g =>
          tableFrame (s.frame g) && t.tableRoute (s.frame g) == none) →
        held = homeless.take (s.pool.heldLimit - s.pool.heldList.length) →
        t.pool.heldList = s.pool.heldList ++ held ∧
        (∀ g f, g ∈ held → s.frame g = some f → t.frame g = some { f with place := .held, age := 0 }) ∧
        (∀ g f, g ∈ homeless → g ∉ held → s.frame g = some f →
          t.frame g = some { f with place := .releasing .noRoute }) ∧
        t.pool.backlog = s.pool.backlog ++ ((s.queuesOf n).all.filter fun g =>
          !tableFrame (s.frame g) || (homeless.contains g && !held.contains g)).map ReleaseItem.entry) ∧
      (∀ g, g ∉ (s.queuesOf n).all → t.frame g = s.frame g) ∧
      (s.timing.state.parent = some n →
        t.timing = { s.timing with state := .seeking, adjust := 0 } ∧
        t.reports.timingLatch = some ⟨.seeking⟩) ∧
      (s.timing.state.parent ≠ some n → t.timing = s.timing ∧ t.reports = s.reports)

/-- R32, R33, R34: an entry above its class's maximum age is released AGED, and a HELD one at its hold timeout
NO_ROUTE: it leaves its queue or the held list and joins the release backlog. The fall of a queued count reaches
the Local Intake, which has its signal when it is STALLED on that link (R20, R125), and on a DRAINING link the drain test:
with nothing queued and nothing in flight left it enters SILENT with attention DRAINED, and the Route Table, the Timing
Unit and the pending replies are told (R61, R45, R103, R161). A parent is told by its link index alone (log
entry 35). -/
def Obligations.AgedFramesAreReleased : Prop :=
  ∀ (s : State) (g : Tag) (f : Frame) (ws : List Work), (∀ w ∈ ws, ∃ x, w = .due x) →
    s.frame g = some f →
    (∀ n, s.work = .due (.agedRelease g) :: ws → f.place = .queued n → s.pool.maxAge f.cls < f.age →
      ∃ t, exec .agedRelease s = .next t ∧
        t = { s with
          pool := { s.pool with
            entries := bankPut s.pool.entries g (some { f with place := .releasing .aged })
            queues := t.pool.queues
            backlog := s.pool.backlog ++ [.entry g] }
          intake := { s.intake with stage := s.intake.stage.afterFall n }
          linkTable := { s.linkTable with links := t.linkTable.links,
                                          pendingReplies := t.linkTable.pendingReplies }
          routes := t.routes
          timing := t.timing
          reports := { s.reports with timingLatch := t.reports.timingLatch }
          work := ws } ∧
        (∀ c, (t.queuesOf n).get c = ((s.queuesOf n).get c).filter fun x => x != g) ∧
        (∀ m, m ≠ n → t.queuesOf m = s.queuesOf m ∧ t.link m = s.link m) ∧
        (s.path.engine ≠ .running ∨ (s.link n).state ≠ .draining ∨ t.queuedCount n ≠ 0 ∨ s.inFlightCount n ≠ 0 →
          t.linkTable = s.linkTable ∧ t.routes = s.routes ∧ t.timing = s.timing ∧ t.reports = s.reports) ∧
        (s.path.engine = .running → (s.link n).state = .draining → t.queuedCount n = 0 → s.inFlightCount n = 0 →
          s.LinkLost t n ∧
          t.link n = { s.link n with
            state := .silent
            climbing := false
            climb := if (s.link n).climbing = true then (s.link n).climb.map fun x => { x with run := 0 }
              else (s.link n).climb
            attention := (s.link n).attention ||| 32 })) ∧
    (∀ c st, f.place = .held →
      (c = .agedRelease ∧ st = .aged ∧ s.work = .due (.agedRelease g) :: ws ∧
          s.pool.maxAge f.cls < f.age ∨
        c = .holdTimeout ∧ st = .noRoute ∧ s.work = .due (.holdTimeout g) :: ws ∧
          s.pool.holdTimeout ≤ f.age) →
      exec c s = .next { s with
        pool := { s.pool with
          entries := bankPut s.pool.entries g (some { f with place := .releasing st })
          heldList := s.pool.heldList.filter fun x => x != g
          backlog := s.pool.backlog ++ [.entry g] }
        work := ws })

/-- R145, R190, R15, R40: at the quiesce limit the in-flight table becomes empty, the consumer index equals the
producer index, the own-frame buffers of the records given up are free, their positions' marks NONE, and their
frames released ABANDONED, joining the release backlog in ascending tag order. -/
def Obligations.QuiesceLimitGivesUpTheFlight : Prop :=
  ∀ (s : State) (ws : List Work), (∀ w ∈ ws, ∃ x, w = .due x) → s.work = .due .quiesceLimit :: ws →
    s.isQuiescing = true →
    ∃ t, exec .quiesceLimit s = .next t ∧
      t = { s with
        path := { s.path with marks := t.path.marks }
        pool := { s.pool with
          entries := t.pool.entries
          backlog := s.pool.backlog ++ ((List.finRange 512).filter fun g =>
            (s.sched.inFlight.any fun r => r.tag? == some g) && (s.frame g).any Frame.inFlight).map
              ReleaseItem.entry }
        sched := { s.sched with inFlight := [], buffers := t.sched.buffers }
        completion := { s.completion with consumer := s.sched.producer }
        work := ws } ∧
      (∀ b, t.bufferFree b = true ↔
        s.bufferFree b = true ∨ ∃ r ∈ s.sched.inFlight, r.carried.buffer? = some b) ∧
      (∀ b, (∀ r ∈ s.sched.inFlight, r.carried.buffer? ≠ some b) →
        bankGet t.sched.buffers b = bankGet s.sched.buffers b) ∧
      (∀ r ∈ s.sched.inFlight, t.mark r.pos = .none) ∧
      (∀ p, (∀ r ∈ s.sched.inFlight, r.pos ≠ p) → t.mark p = s.mark p) ∧
      (∀ r ∈ s.sched.inFlight, ∀ g n f, r.carried = .data g n → s.frame g = some f → f.inFlight = true →
        t.frame g = some { f with place := .releasing .abandoned }) ∧
      (∀ g, ((∀ r ∈ s.sched.inFlight, ∀ n, r.carried ≠ .data g n) ∨
          ∀ f, s.frame g = some f → f.inFlight = false) → t.frame g = s.frame g)

/-- R191, R69, R111, R129, R150, R10, R146, R162, R165, R168, R181: the end of a quiesce: link records, pending
replies, route entries, the switch stage, own-frame buffers, the completion queue and fetch marks take their
values; the outlier and silence counts, the heard flag and the sightings with either mode, and with UNANCHOR A,
the step end, the pending change to ROOT, the holdover count and the notice latches as well; a WAITING completion
write passes, copied only with KEEP; and the RESPONSE DONE is ready. That the engine's own next state, the window
table and the stop of the timebase come only at the write of that RESPONSE is the model's reading (log
entry 27). -/
def Obligations.QuiesceEndClearsTheBlocks : Prop :=
  ∀ (s c : State) (code : Byte) (seq : BitVec 16) (m : ResetMode) (k : Nat), s.work = [] →
    s.path.engine = .quiescing m k → s.command.stage = .applying code seq → s.sched.inFlight = [] →
    s.pool.backlog = [] → s.intake.stage = .idle → s.path.waiting = [] →
    c = { s with
      path := { s.path with marks := Vector.replicate 256 .none }
      linkTable := { s.linkTable with links := Vector.replicate 16 LinkRec.reset, pendingReplies := [] }
      routes := { s.routes with entries := Vector.replicate 256 none, cursor := 0 }
      sched := { s.sched with
        stage := .none, buffers := Vector.replicate 22 none, nextBeacon := false, probePointer := 15 }
      completion := { s.completion with queue := [] }
      timing := { s.timing with
        outliers := 0, silence := 0, heard := false, sightings := Vector.replicate 16 none
        adjust := if m = .keep then s.timing.adjust else 0
        stepEnd := if m = .keep then s.timing.stepEnd else none
        pendingRoot := if m = .keep then s.timing.pendingRoot else false
        holdover := if m = .keep then s.timing.holdover else 0 }
      reports := { s.reports with
        planLatch := if m = .keep then s.reports.planLatch else none
        timingLatch := if m = .keep then s.reports.timingLatch else none }
      command := { s.command with stage := .responding code seq .done [] } } →
    (s.path.slot = .empty → exec .quiesceEnd s = .next c) ∧
    (∀ a d p, s.path.slot = .waiting a d p → s.queueFull = false →
      exec .quiesceEnd s = .next { c with
        mem := memWrite s.mem a d
        path := { c.path with slot := .empty }
        completion := { s.completion with queue := if m = .keep then [⟨p, d⟩] else [] } })

/-! ### Reports -/

/-- R181, R183, R35, R65, R125, R187, R191: with ring room, the report of the highest order, or the one the writer
waits with, is written at P with the phase, P advances, and its effect happens at once: the Command Unit is IDLE,
the entry FREE and a STALLED Intake told of it, the attention set empty, the latch empty; with the injection queue
full the writer waits with the report chosen. At the RESPONSE of an ENGINE_RESET the engine takes its next state:
RUNNING with KEEP, and UNANCHORED with UNANCHOR, where a completion write that waits passes without a copy (R168).
What UNANCHORED clears at that write, and not before, is the model's reading (log entry 27). R186: with the enable
set INT is asserted from the write on, for P then differs from C; it is low once UNANCHORED, and a writer that
waits leaves it as it is. -/
def Obligations.ReportsAreWrittenInOrder : Prop :=
  ∀ (s : State) (w : Windows), s.quiet = true → s.path.engine ≠ .unanchored → s.path.windows = some w →
    (s.reports.producer + w.repSize - s.reports.consumed) % w.repSize + 1 < w.repSize →
    (∀ code seq st payload, s.command.stage = .responding code seq st payload →
      (s.reports.chosen = none ∨ s.reports.chosen = some .response) →
      (s.room 1 = false →
        exec .reportWrite s = .next { s with reports := { s.reports with chosen := some .response } }) ∧
      (∀ c : State, s.room 1 = true →
        c = { s.issue [.write .report (w.repBase + 32 * s.reports.producer)
            (reportBytes s.reports.phase 1 ([code, st.code] ++ halfBytes seq ++ payload))] with
          reports := { s.reports.advance w.repSize with chosen := none }
          command := { s.command with stage := .idle, args := [] } } →
        (s.path.engine = .running → exec .reportWrite s = .next c) ∧
        (∀ k, s.path.engine = .quiescing .keep k →
          exec .reportWrite s = .next { c with path := { c.path with engine := .running } }) ∧
        (∀ k (u : State), s.path.engine = .quiescing .unanchor k → s.path.waiting = [] →
          u = { c with
            pins := { c.pins with sfs := [] }
            path := { c.path with
              engine := .unanchored, windows := none, staging := List.replicate 256 0 }
            completion := { c.completion with queue := [] }
            timing := { c.timing with timebase := 0, epoch := c.timing.epoch + c.timing.timebase } } →
          ((∀ a d p, s.path.slot ≠ .waiting a d p) → exec .reportWrite s = .next u) ∧
          (∀ a d p, s.path.slot = .waiting a d p → c.queueFull = false →
            exec .reportWrite s = .next { u with
              mem := memWrite s.mem a d
              path := { u.path with slot := .empty } })))) ∧
    (∀ b st rest, s.pool.backlog = .tagless b st :: rest →
      (s.reports.chosen = some .release ∨ s.reports.chosen = none ∧
        ∀ code seq x payload, s.command.stage ≠ .responding code seq x payload) →
      (s.room 1 = false →
        exec .reportWrite s = .next { s with reports := { s.reports with chosen := some .release } }) ∧
      (s.room 1 = true →
        exec .reportWrite s = .next { s.issue [.write .report (w.repBase + 32 * s.reports.producer)
            (reportBytes s.reports.phase 2 ([0xFF, 0xFF, 2, st.code] ++ natWord b))] with
          reports := { s.reports.advance w.repSize with chosen := none }
          pool := { s.pool with backlog := rest } })) ∧
    (∀ g f st rest, s.pool.backlog = .entry g :: rest → s.frame g = some f → f.place = .releasing st →
      (s.reports.chosen = some .release ∨ s.reports.chosen = none ∧
        ∀ code seq x payload, s.command.stage ≠ .responding code seq x payload) →
      (s.room 1 = false →
        exec .reportWrite s = .next { s with reports := { s.reports with chosen := some .release } }) ∧
      (s.room 1 = true →
        exec .reportWrite s = .next { s.issue [.write .report (w.repBase + 32 * s.reports.producer)
            (reportBytes s.reports.phase 2
              (natHalf g.val ++ [f.origin.code, st.code] ++ natWord f.buffer))] with
          reports := { s.reports.advance w.repSize with chosen := none }
          intake := { s.intake with stage := match s.intake.stage with
            | .stalled e h n _ => .stalled e h n true
            | x => x }
          pool := { s.pool with backlog := rest, entries := bankPut s.pool.entries g none } })) ∧
    (∀ n, (s.link n).attention ≠ 0 →
      (s.reports.chosen = some (.attention n) ∨ s.reports.chosen = none ∧ s.pool.backlog = [] ∧
        (∀ m, m < n → (s.link m).attention = 0) ∧
        ∀ code seq x payload, s.command.stage ≠ .responding code seq x payload) →
      (s.room 1 = false →
        exec .reportWrite s = .next { s with reports := { s.reports with chosen := some (.attention n) } }) ∧
      (s.room 1 = true →
        exec .reportWrite s = .next { s.issue [.write .report (w.repBase + 32 * s.reports.producer)
            (reportBytes s.reports.phase 3 ([toByte n.val, toByte (s.link n).state.code] ++
              halfBytes (s.link n).node ++ [(s.link n).attention, toByte (s.link n).state.reasonCode]))] with
          reports := { s.reports.advance w.repSize with chosen := none }
          linkTable := { s.linkTable with
            links := bankPut s.linkTable.links n { s.link n with attention := 0 } } })) ∧
    (∀ p, s.reports.planLatch = some p →
      (s.reports.chosen = some .planActive ∨ s.reports.chosen = none ∧ s.pool.backlog = [] ∧
        (∀ m, (s.link m).attention = 0) ∧
        ∀ code seq x payload, s.command.stage ≠ .responding code seq x payload) →
      (s.room 1 = false →
        exec .reportWrite s = .next { s with reports := { s.reports with chosen := some .planActive } }) ∧
      (s.room 1 = true →
        exec .reportWrite s = .next { s.issue [.write .report (w.repBase + 32 * s.reports.producer)
            (reportBytes s.reports.phase 4
              ([p.context.code, p.generation, 0, 0] ++ wordBytes p.superframe))] with
          reports := { s.reports.advance w.repSize with planLatch := none, chosen := none } })) ∧
    (∀ x, s.reports.timingLatch = some x →
      (s.reports.chosen = some .timing ∨ s.reports.chosen = none ∧ s.pool.backlog = [] ∧
        (∀ m, (s.link m).attention = 0) ∧ s.reports.planLatch = none ∧
        ∀ code seq y payload, s.command.stage ≠ .responding code seq y payload) →
      (s.room 1 = false →
        exec .reportWrite s = .next { s with reports := { s.reports with chosen := some .timing } }) ∧
      (s.room 1 = true →
        exec .reportWrite s = .next { s.issue [.write .report (w.repBase + 32 * s.reports.producer)
            (reportBytes s.reports.phase 5
              [x.state.code, linkByte x.state.parent, toByte x.state.depth])] with
          reports := { s.reports.advance w.repSize with timingLatch := none, chosen := none } })) ∧
    (s.reports.producer < w.repSize → s.reports.consumed < w.repSize →
      ∃ t, exec .reportWrite s = .next t ∧ (t.path.engine = .unanchored → t.int = false) ∧
        (t.path.engine ≠ .unanchored →
          (t.reports.producer = s.reports.producer → t.int = s.int) ∧
          (t.reports.producer ≠ s.reports.producer → t.int = s.reports.intEnable)))

/-! ### The Command Unit -/

/-- R177, R178, R179: the IDLE unit issues the read of the record at its consumer index, and holds the arguments
of the command as read until it is answered; NOP is answered DONE and an
unknown code UNKNOWN_COMMAND, with nothing else changed but the read. -/
def Obligations.CommandsAreFetchedAndAnswered : Prop :=
  ∀ (s : State) (w : Windows) (seq : BitVec 16) (code : Byte), s.quiet = true → s.path.windows = some w →
    (s.path.engine = .running → s.command.stage = .idle → s.command.consumer ≠ s.command.post →
      s.room 1 = true →
      exec .commandFetch s = .next (State.issue { s with command := { s.command with stage := .fetching } }
        (readAccesses .command (w.cmdBase + 32 * s.command.consumer) 32))) ∧
    (s.fetchedCommand = some (.nop seq) →
      exec (.nop seq) s = .next { s.dropHead with
        command := { s.command with
          consumer := if s.command.consumer + 1 < w.cmdSize then s.command.consumer + 1 else 0
          args := (s.fetchedRecord.getD []).drop 4
          stage := .responding 0x00 seq .done [] } }) ∧
    (s.fetchedCommand = some (.unknownCommand code seq) →
      exec (.unknownCommand code seq) s = .next { s.dropHead with
        command := { s.command with
          consumer := if s.command.consumer + 1 < w.cmdSize then s.command.consumer + 1 else 0
          args := (s.fetchedRecord.getD []).drop 4
          stage := .responding code seq .unknownCommand [] } })

/-- R47: LINK_OPEN, accepted and refused, by its tests in order. -/
def Obligations.LinkOpenPlacesProbing : Prop :=
  ∀ (s : State) (seq : BitVec 16) (link : Byte) (node : NodeId) (floor ceiling attempts : Byte),
    s.quiet = true → s.fetchedCommand = some (.linkOpen seq link node floor ceiling attempts) →
    (15 < link.toNat →
      exec (.linkOpen seq link node floor ceiling attempts) s =
        .next (s.commandRead.respond 0x10 seq .badArgument)) ∧
    (∀ n : LinkIx, link.toNat = n.val → (s.link n).closed = false →
      exec (.linkOpen seq link node floor ceiling attempts) s =
        .next (s.commandRead.respond 0x10 seq .refusedState)) ∧
    (∀ n : LinkIx, link.toNat = n.val → (s.link n).closed = true →
      (node = 0 ∨ node = 0xFFFF ∨ node = s.path.ownId ∨ ∃ m, m ≠ n ∧ s.linkOf node = some m) →
      exec (.linkOpen seq link node floor ceiling attempts) s =
        .next (s.commandRead.respond 0x10 seq .badArgument)) ∧
    (∀ n : LinkIx, link.toNat = n.val → (s.link n).closed = true → node ≠ 0 → node ≠ 0xFFFF →
      node ≠ s.path.ownId → (s.linkOf node = none ∨ s.linkOf node = some n) →
      ∃ l, exec (.linkOpen seq link node floor ceiling attempts) s =
          .next ((s.commandRead.setLink n l).respond 0x10 seq .done) ∧
        l = { s.link n with
          neighbour := some node
          state := .probing s.linkTable.openTimeout
          floor := min 7 floor.toNat
          ceiling := max (min 7 floor.toNat) (min 7 ceiling.toNat)
          attempts := max 1 (min 8 attempts.toNat)
          rate := min 7 floor.toNat
          cost := costOf (min 7 floor.toNat) (s.link n).estimate
          undelivered := 0
          missCount := 0
          probeSent := false
          heard := false
          sticky := { (s.link n).sticky with
            costSaturated := (s.link n).sticky.costSaturated ||
              costOf (min 7 floor.toNat) (s.link n).estimate == 65535 } })

/-- R64: LINK_TUNE, refused for a hard parameter outside EMPTY, SILENT and FAILED, and otherwise every selected
value clamped and stored, with r moved to the nearer end. That the cost is recomputed only when r moves is the
model's reading (log entry 26). -/
def Obligations.LinkTuneStoresSelectedValues : Prop :=
  ∀ (s : State) (seq : BitVec 16) (link : Byte) (sel : BitVec 16) (v : TuneValues), s.quiet = true →
    s.fetchedCommand = some (.linkTune seq link sel v) →
    (15 < link.toNat →
      exec (.linkTune seq link sel v) s = .next (s.commandRead.respond 0x11 seq .badArgument)) ∧
    (∀ n : LinkIx, link.toNat = n.val → (s.link n).closed = false →
      (sel.getLsbD 0 = true ∨ sel.getLsbD 1 = true ∨ sel.getLsbD 2 = true) →
      exec (.linkTune seq link sel v) s = .next (s.commandRead.respond 0x11 seq .refusedState)) ∧
    (∀ n : LinkIx, link.toNat = n.val →
      ((s.link n).closed = true ∨
        (sel.getLsbD 0 = false ∧ sel.getLsbD 1 = false ∧ sel.getLsbD 2 = false)) →
      ∃ l, exec (.linkTune seq link sel v) s =
          .next ((s.commandRead.setLink n l).respond 0x11 seq .done) ∧
        l.floor = (if sel.getLsbD 0 then min 7 v.floor.toNat else (s.link n).floor) ∧
        l.attempts = (if sel.getLsbD 2 then max 1 (min 8 v.attempts.toNat) else (s.link n).attempts) ∧
        l.defaultBudget = (if sel.getLsbD 3 then min 3 v.budget.toNat else (s.link n).defaultBudget) ∧
        l.weight = (if sel.getLsbD 4 then max 1 (min 15 v.weight.toNat) else (s.link n).weight) ∧
        l.upStep = (if sel.getLsbD 5 then max 1 (min 16 v.upStep.toNat) else (s.link n).upStep) ∧
        l.downStep = (if sel.getLsbD 6 then max 1 (min 2 v.downStep.toNat) else (s.link n).downStep) ∧
        l.blockThreshold =
          (if sel.getLsbD 7 then max 1 (min 7 v.blockThreshold.toNat) else (s.link n).blockThreshold) ∧
        l.blockHold = (if sel.getLsbD 8 then max 1 (min 255 v.blockHold.toNat) else (s.link n).blockHold) ∧
        l.queueCap = (if sel.getLsbD 9 then max 8 (min 256 v.queueCap.toNat) else (s.link n).queueCap) ∧
        (sel.getLsbD 0 = true ∨ sel.getLsbD 1 = true →
          l.ceiling = max l.floor
            (if sel.getLsbD 1 then min 7 v.ceiling.toNat else (s.link n).ceiling) ∧
          l.rate = max l.floor (min l.ceiling (s.link n).rate)) ∧
        (sel.getLsbD 0 = false → sel.getLsbD 1 = false →
          l.ceiling = (s.link n).ceiling ∧ l.rate = (s.link n).rate) ∧
        l.cost = (if l.rate = (s.link n).rate then (s.link n).cost else costOf l.rate (s.link n).estimate) ∧
        l.sticky = { (s.link n).sticky with
          costSaturated := (s.link n).sticky.costSaturated ||
            (l.rate != (s.link n).rate && l.cost == 65535) } ∧
        l = { s.link n with
          floor := l.floor, ceiling := l.ceiling, attempts := l.attempts, rate := l.rate, cost := l.cost
          defaultBudget := l.defaultBudget, weight := l.weight, upStep := l.upStep, downStep := l.downStep
          blockThreshold := l.blockThreshold, blockHold := l.blockHold, queueCap := l.queueCap
          sticky := l.sticky })

/-- R60, R61, R45, R86, R103, R161: LINK_DRAIN of a usable link: DRAINING, or SILENT with attention DRAINED at
once when it holds nothing, with the Route Table treating every entry that names it; refused in any other state. A
parent is told by its link index (log entry 35). -/
def Obligations.LinkDrainTakesNoNewTraffic : Prop :=
  ∀ (s : State) (seq : BitVec 16) (link : Byte), s.quiet = true →
    s.fetchedCommand = some (.linkDrain seq link) →
    (15 < link.toNat → exec (.linkDrain seq link) s = .next (s.commandRead.respond 0x12 seq .badArgument)) ∧
    (∀ n : LinkIx, link.toNat = n.val → (s.link n).usable = false →
      exec (.linkDrain seq link) s = .next (s.commandRead.respond 0x12 seq .refusedState)) ∧
    (∀ n : LinkIx, link.toNat = n.val → (s.link n).usable = true → s.path.engine = .running →
      ∃ t : State, exec (.linkDrain seq link) s = .next (t.respond 0x12 seq .done) ∧
        t = { s.commandRead with
          linkTable := { s.linkTable with links := t.linkTable.links,
                                          pendingReplies := t.linkTable.pendingReplies }
          routes := t.routes
          timing := t.timing
          reports := { s.reports with timingLatch := t.reports.timingLatch } } ∧
        t.link n = { s.link n with
          state := if s.queuedCount n = 0 ∧ s.inFlightCount n = 0 then .silent else .draining
          climbing := false
          climb := if (s.link n).climbing = true then (s.link n).climb.map fun x => { x with run := 0 }
            else (s.link n).climb
          attention := if s.queuedCount n = 0 ∧ s.inFlightCount n = 0 then (s.link n).attention ||| 32
            else (s.link n).attention } ∧
        (∀ m, m ≠ n → t.link m = s.link m) ∧
        (s.queuedCount n ≠ 0 ∨ s.inFlightCount n ≠ 0 ∨
            (∀ p e, s.routes.entry p = some e → e.body.ok = true) →
          s.routes.LinkDropped t.routes n) ∧
        (s.queuedCount n ≠ 0 ∨ s.inFlightCount n ≠ 0 →
          t.linkTable.pendingReplies = s.linkTable.pendingReplies) ∧
        (s.queuedCount n = 0 → s.inFlightCount n = 0 →
          t.linkTable.pendingReplies =
            s.linkTable.pendingReplies.filter fun x => some x != (s.link n).neighbour) ∧
        (s.timing.state.parent = some n →
          t.timing = { s.timing with state := .seeking, adjust := 0 } ∧
          t.reports.timingLatch = some ⟨.seeking⟩) ∧
        (s.timing.state.parent ≠ some n → t.timing = s.timing ∧ t.reports = s.reports))

/-- R62, R36, R144, R45, R86, R103, R161, R20, R125: LINK_CUT: SILENT with the Route Table told and treating every entry that names
the link, every queued frame released CUT in class order, a Local Intake STALLED on the link told when there was one,
and every unfetched descriptor naming the link recalled by a SKIP write; REFUSED_STATE in
EMPTY, DONE with nothing changed in SILENT. The order of the SKIP writes, the oldest in-flight record first, is
the model's choice (log entry 12), as is that a parent is told by its link index alone (log entry 35). -/
def Obligations.LinkCutSilencesAndRecalls : Prop :=
  ∀ (s : State) (seq : BitVec 16) (link : Byte), s.quiet = true → s.PoolOk →
    s.fetchedCommand = some (.linkCut seq link) →
    (15 < link.toNat → exec (.linkCut seq link) s = .next (s.commandRead.respond 0x13 seq .badArgument)) ∧
    (∀ n : LinkIx, link.toNat = n.val → (s.link n).state = .empty →
      exec (.linkCut seq link) s = .next (s.commandRead.respond 0x13 seq .refusedState)) ∧
    (∀ n : LinkIx, link.toNat = n.val → (s.link n).state = .silent →
      exec (.linkCut seq link) s = .next (s.commandRead.respond 0x13 seq .done)) ∧
    (∀ n : LinkIx, link.toNat = n.val → (s.link n).state ≠ .empty → (s.link n).state ≠ .silent →
      ∃ t : State, exec (.linkCut seq link) s = .next (t.respond 0x13 seq .done) ∧
        t = { s.commandRead with
          path := { s.commandRead.path with queue := t.path.queue, tails := t.path.tails }
          linkTable := { s.linkTable with
            links := bankPut s.linkTable.links n { s.link n with
              state := .silent
              climbing := false
              climb := if (s.link n).climbing = true then (s.link n).climb.map fun x => { x with run := 0 }
                else (s.link n).climb }
            pendingReplies := s.linkTable.pendingReplies.filter fun x => some x != (s.link n).neighbour }
          routes := s.routes.dropLink n
          pool := { s.pool with
            entries := t.pool.entries
            queues := bankPut s.pool.queues n ⟨[], [], [], []⟩
            backlog := s.pool.backlog ++ (s.queuesOf n).all.map ReleaseItem.entry }
          intake := { s.intake with
            stage := if s.queuedCount n = 0 then s.intake.stage else s.intake.stage.afterFall n }
          sched := { s.sched with inFlight := s.sched.inFlight.map (fun r =>
            if r.names n ∧ r.fetched = false ∧ r.recalled = false then { r with recalled := true } else r) }
          timing := t.timing
          reports := { s.reports with timingLatch := t.reports.timingLatch } } ∧
        s.routes.LinkDropped t.routes n ∧
        (∀ g f, g ∈ (s.queuesOf n).all → s.frame g = some f →
          t.frame g = some { f with place := .releasing .cut }) ∧
        (∀ g, g ∉ (s.queuesOf n).all → t.frame g = s.frame g) ∧
        (s.timing.state.parent = some n →
          t.timing = { s.timing with state := .seeking, adjust := 0 } ∧
          t.reports.timingLatch = some ⟨.seeking⟩) ∧
        (s.timing.state.parent ≠ some n → t.timing = s.timing ∧ t.reports = s.reports) ∧
        t.path.queue ++ t.path.tails = s.commandRead.path.queue ++ s.commandRead.path.tails ++
          (s.sched.inFlight.filter fun r => r.names n && !r.fetched && !r.recalled).map fun r =>
            .write (.skip r.pos) (s.txAddress r.pos) (skipBytes r.lap))

/-- R63: LINK_CLEAR returns a SILENT or FAILED record with nothing in flight to its reset values, but for the
attention set and the interleave counter. -/
def Obligations.LinkClearReturnsTheRecord : Prop :=
  ∀ (s : State) (seq : BitVec 16) (link : Byte), s.quiet = true →
    s.fetchedCommand = some (.linkClear seq link) →
    (15 < link.toNat → exec (.linkClear seq link) s = .next (s.commandRead.respond 0x14 seq .badArgument)) ∧
    (∀ n : LinkIx, link.toNat = n.val → (s.link n).state ≠ .silent →
      (∀ r, (s.link n).state ≠ .failed r) →
      exec (.linkClear seq link) s = .next (s.commandRead.respond 0x14 seq .refusedState)) ∧
    (∀ n : LinkIx, link.toNat = n.val →
      ((s.link n).state = .silent ∨ ∃ r, (s.link n).state = .failed r) →
      (s.inFlightCount n ≠ 0 ∨ s.bufferFree (probeBuffer n) = false) →
      exec (.linkClear seq link) s = .next (s.commandRead.respond 0x14 seq .refusedBusy)) ∧
    (∀ n : LinkIx, link.toNat = n.val →
      ((s.link n).state = .silent ∨ ∃ r, (s.link n).state = .failed r) → s.inFlightCount n = 0 →
      s.bufferFree (probeBuffer n) = true →
      exec (.linkClear seq link) s = .next ((s.commandRead.setLink n
        { LinkRec.reset with attention := (s.link n).attention, interleave := (s.link n).interleave }).respond
        0x14 seq .done))

/-- R68, R67: LINK_QUERY is answered in every state with the record as it stands (Table 12-11), and clears its
sticky flags; nothing else changes. -/
def Obligations.LinkQueryShowsAndClears : Prop :=
  ∀ (s : State) (seq : BitVec 16) (link : Byte), s.quiet = true →
    s.fetchedCommand = some (.linkQuery seq link) →
    (15 < link.toNat → exec (.linkQuery seq link) s = .next (s.commandRead.respond 0x15 seq .badArgument)) ∧
    (∀ n : LinkIx, link.toNat = n.val →
      ∃ p, exec (.linkQuery seq link) s = .next ((s.commandRead.setLink n
          { s.link n with sticky := ⟨false, false, false, false, false⟩ }).respondWith 0x15 seq .done p) ∧
        p.length = 24 ∧
        field (byteAt p 0) 0 3 = (s.link n).state.code ∧ field (byteAt p 0) 4 2 = (s.link n).state.reasonCode ∧
        ((s.link n).floor ≤ 7 → (s.link n).ceiling ≤ 7 →
          field (byteAt p 1) 0 3 = (s.link n).floor ∧ field (byteAt p 1) 4 3 = (s.link n).ceiling) ∧
        half p 2 = (s.link n).neighbour.getD 0 ∧ byteAt p 4 = toByte (s.link n).rate ∧
        byteAt p 5 = toByte (s.link n).pace ∧ half p 6 = BitVec.ofNat 16 (s.link n).estimate ∧
        half p 8 = BitVec.ofNat 16 (s.link n).cost ∧ byteAt p 10 = toByte (s.link n).undelivered ∧
        byteAt p 11 = toByte (s.link n).missCount ∧ byteAt p 12 = toByte (s.link n).state.timer ∧
        ((byteAt p 13).getLsbD 0 = (s.link n).lastDelivered ∧ (byteAt p 13).getLsbD 1 = (s.link n).lastRetried ∧
          (byteAt p 13).getLsbD 2 = decide ((s.link n).rate = (s.link n).floor) ∧
          (byteAt p 13).getLsbD 3 = decide ((s.link n).rate = (s.link n).ceiling) ∧
          (byteAt p 13).getLsbD 4 = (s.link n).climbing) ∧
        ((byteAt p 14).getLsbD 0 = (s.link n).sticky.everUndelivered ∧
          (byteAt p 14).getLsbD 1 = (s.link n).sticky.everExpired ∧
          (byteAt p 14).getLsbD 2 = (s.link n).sticky.hitFloor ∧
          (byteAt p 14).getLsbD 3 = (s.link n).sticky.costSaturated ∧
          (byteAt p 14).getLsbD 4 = (s.link n).sticky.blockedSeen) ∧
        ((s.link n).climb = none → byteAt p 15 = 0 ∧ byteAt p 16 = 0) ∧
        (∀ c, (s.link n).climb = some c → c.run ≤ 3 → c.start ≤ 7 → c.mark ≤ 7 →
          (byteAt p 15).getLsbD 0 = true ∧ (byteAt p 15).getLsbD 1 = decide (c.act = .returnRate) ∧
          field (byteAt p 15) 2 2 = c.run ∧ field (byteAt p 16) 0 3 = c.start ∧ field (byteAt p 16) 4 3 = c.mark) ∧
        half p 17 = BitVec.ofNat 16 (s.queuedCount n) ∧ half p 19 = BitVec.ofNat 16 (s.inFlightCount n) ∧
        ((s.link n).planPair = none →
          byteAt p 21 = 0 ∧ (byteAt p 22).getLsbD 0 = false ∧ (byteAt p 22).getLsbD 1 = false) ∧
        (∀ x, (s.link n).planPair = some x → byteAt p 21 = x.generation ∧
          (byteAt p 22).getLsbD 0 = true ∧ (byteAt p 22).getLsbD 1 = x.announce) ∧
        ((s.link n).timingPair = none → (byteAt p 22).getLsbD 2 = false ∧
          (byteAt p 22).getLsbD 3 = false ∧ field (byteAt p 22) 4 4 = 0) ∧
        (∀ x, (s.link n).timingPair = some x → (byteAt p 22).getLsbD 2 = true ∧
          (byteAt p 22).getLsbD 3 = x.holdover ∧ (x.depth ≤ 15 → field (byteAt p 22) 4 4 = x.depth)))

/-- R83: LINK_CLIMB on an ACTIVE link without a climb running writes the climb record and sets CLIMBING; the
refusals stand in the order of its tests. -/
def Obligations.LinkClimbStartsAClimb : Prop :=
  ∀ (s : State) (seq : BitVec 16) (link act : Byte), s.quiet = true →
    s.fetchedCommand = some (.linkClimb seq link act) →
    (15 < link.toNat ∨ (act ≠ 1 ∧ act ≠ 2) →
      exec (.linkClimb seq link act) s = .next (s.commandRead.respond 0x16 seq .badArgument)) ∧
    (∀ n : LinkIx, link.toNat = n.val → (act = 1 ∨ act = 2) → (s.link n).state ≠ .active →
      exec (.linkClimb seq link act) s = .next (s.commandRead.respond 0x16 seq .refusedState)) ∧
    (∀ n : LinkIx, link.toNat = n.val → (act = 1 ∨ act = 2) → (s.link n).state = .active →
      (s.link n).climbing = true →
      exec (.linkClimb seq link act) s = .next (s.commandRead.respond 0x16 seq .refusedBusy)) ∧
    (∀ n : LinkIx, link.toNat = n.val → (act = 1 ∨ act = 2) → (s.link n).state = .active →
      (s.link n).climbing = false →
      exec (.linkClimb seq link act) s = .next ((s.commandRead.setLink n { s.link n with
        climbing := true
        climb := some ⟨if act = 1 then .keep else .returnRate, (s.link n).rate, (s.link n).rate, 0⟩ }).respond
        0x16 seq .done))

/-- R107, R95, R31, R108: ROUTE_PIN of a destination an entry holds turns that entry PINNED; another takes the
lowest free position, or in a full table that of the POISONED entry with the lowest count, else that of the live
entry with the largest metric, then the greatest age, then the lowest position, and is REFUSED_FULL when every
position is PINNED; the held frames are re-evaluated. ROUTE_UNPIN frees a PINNED entry; bad and absent operands
are refused. -/
def Obligations.PinsAreSetAndFreed : Prop :=
  ∀ (s : State) (seq : BitVec 16) (dest : NodeId) (link : Byte) (metric : BitVec 16), s.quiet = true →
    (s.fetchedCommand = some (.routePin seq dest link metric) →
      (15 < link.toNat ∨ dest = 0 ∨ dest = 0xFFFF ∨ dest = s.path.ownId →
        exec (.routePin seq dest link metric) s = .next (s.commandRead.respond 0x20 seq .badArgument)) ∧
      (∀ (n : LinkIx) (p : RoutePos), link.toNat = n.val → dest ≠ 0 → dest ≠ 0xFFFF →
        dest ≠ s.path.ownId →
        (s.routes.posOf dest = some p ∨ s.routes.posOf dest = none ∧ s.routes.lowestFree = some p ∨
          s.routes.posOf dest = none ∧ s.routes.lowestFree = none ∧
            ((∃ d x age k, s.routes.entry p = some ⟨d, .poisoned x age k⟩ ∧
                ∀ q d' x' age' k', s.routes.entry q = some ⟨d', .poisoned x' age' k'⟩ →
                  k < k' ∨ k = k' ∧ p ≤ q) ∨
              (∀ q d' x' age' k', s.routes.entry q ≠ some ⟨d', .poisoned x' age' k'⟩) ∧
                ∃ d st h y x age, s.routes.entry p = some ⟨d, .live st h y x age⟩ ∧
                  ∀ q d' st' h' y' x' age', s.routes.entry q = some ⟨d', .live st' h' y' x' age'⟩ →
                    h'.metric < h.metric ∨
                      h'.metric = h.metric ∧ (age' < age ∨ age' = age ∧ p ≤ q))) →
        ∃ t : State, exec (.routePin seq dest link metric) s = .next (t.respond 0x20 seq .done) ∧
          t = { s.commandRead with
            routes := s.routes.setEntry p (some ⟨dest, .pinned ⟨n, min 65534 metric.toNat⟩⟩)
            pool := { s.pool with entries := t.pool.entries, queues := t.pool.queues,
                                  heldList := t.pool.heldList } } ∧
          (s.pool.heldList = [] → t.pool = s.pool) ∧
          (s.PoolOk → s.Reevaluated t ∧ ∀ g, g ∉ s.pool.heldList → t.frame g = s.frame g)) ∧
      (∀ n : LinkIx, link.toNat = n.val → dest ≠ 0 → dest ≠ 0xFFFF → dest ≠ s.path.ownId →
        s.routes.posOf dest = none → (∀ p, ∃ d h, s.routes.entry p = some ⟨d, .pinned h⟩) →
        exec (.routePin seq dest link metric) s = .next (s.commandRead.respond 0x20 seq .refusedFull))) ∧
    (s.fetchedCommand = some (.routeUnpin seq dest) →
      (dest = 0 ∨ dest = 0xFFFF ∨ dest = s.path.ownId →
        exec (.routeUnpin seq dest) s = .next (s.commandRead.respond 0x21 seq .badArgument)) ∧
      (dest ≠ 0 → dest ≠ 0xFFFF → dest ≠ s.path.ownId → s.routes.pinnedAt dest = none →
        exec (.routeUnpin seq dest) s = .next (s.commandRead.respond 0x21 seq .refusedState)) ∧
      (∀ p, dest ≠ 0 → dest ≠ 0xFFFF → dest ≠ s.path.ownId → s.routes.pinnedAt dest = some p →
        exec (.routeUnpin seq dest) s = .next
          (State.respond { s.commandRead with routes := s.routes.setEntry p none } 0x21 seq .done)))

/-- R109: ROUTE_QUERY by destination and by position, with its whole payload (Table 12-12): the entry found, by
its kind and state, the lookup's result by the entry's kind (R104), and the table-wide fields; it changes nothing
but the answer. -/
def Obligations.RouteQueryChangesNothing : Prop :=
  ∀ (s : State) (seq : BitVec 16) (selector : Byte) (value : BitVec 16), s.quiet = true →
    s.fetchedCommand = some (.routeQuery seq selector value) →
    ((selector ≠ 0 ∧ selector ≠ 1 ∨ selector = 1 ∧ 255 < value.toNat) →
      exec (.routeQuery seq selector value) s = .next (s.commandRead.respond 0x22 seq .badArgument)) ∧
    ((selector = 0 ∨ selector = 1 ∧ value.toNat ≤ 255) →
      ∃ p, exec (.routeQuery seq selector value) s = .next (s.commandRead.respondWith 0x22 seq .done p) ∧
        p.length = 24 ∧ half p 16 = s.routes.ownSeq ∧ byteAt p 18 = toByte s.routes.cursor ∧
        half p 20 = BitVec.ofNat 16 (s.routes.entries.toList.countP fun e => e.isSome) ∧
        (((selector = 0 ∧ (value = 0 ∨ value = 0xFFFF ∨ value = s.path.ownId ∨ s.routes.posOf value = none)) ∨
            (selector = 1 ∧ ∃ q : RoutePos, value.toNat = q.val ∧ s.routes.entry q = none)) →
          byteAt p 0 = 0 ∧ half p 2 = (if selector = 0 then value else 0) ∧
          byteAt p 14 = linkByte (if selector = 0 then s.lookup value else none)) ∧
        (selector = 0 → value ≠ 0 → value ≠ 0xFFFF → value ≠ s.path.ownId →
          (∀ (n : LinkIx) (q : RoutePos) (e : RouteEntry), s.routes.posOf value = some q →
            s.routes.entry q = some e →
            ((∃ h, e.body = .pinned h ∧ h.link = n ∧ (s.link n).usable = true) ∨
              (∃ sq age k, e.body = .poisoned sq age k ∧ s.linkOf value = some n ∧ (s.link n).usable = true) ∨
              ∃ st h x sq age, e.body = .live st h x sq age ∧
                (h.link = n ∧ ((s.link n).state = .active ∨
                    ∀ y, x = some y → (s.link y.link).state ≠ .active) ∨
                  (s.link h.link).state ≠ .active ∧
                    ∃ y, x = some y ∧ y.link = n ∧ (s.link n).state = .active)) →
            byteAt p 14 = toByte n.val) ∧
          (∀ n : LinkIx, s.routes.posOf value = none → s.linkOf value = some n → (s.link n).usable = true →
            byteAt p 14 = toByte n.val) ∧
          (∀ (q : RoutePos) (d : NodeId) (h : Hop), s.routes.posOf value = some q →
            s.routes.entry q = some ⟨d, .pinned h⟩ → (s.link h.link).usable = false → byteAt p 14 = 0xFF) ∧
          ((s.routes.posOf value = none ∨ ∃ q d sq age k, s.routes.posOf value = some q ∧
              s.routes.entry q = some ⟨d, .poisoned sq age k⟩) →
            s.usableLinkOf value = none → byteAt p 14 = 0xFF)) ∧
        (∀ (q : RoutePos) (e : RouteEntry), s.routes.entry q = some e →
          (selector = 0 ∧ value ≠ 0 ∧ value ≠ 0xFFFF ∧ value ≠ s.path.ownId ∧
              s.routes.posOf value = some q ∧ e.dest = value ∨
            selector = 1 ∧ value.toNat = q.val) →
          (byteAt p 0).getLsbD 0 = true ∧ byteAt p 1 = toByte q.val ∧ half p 2 = e.dest ∧
          byteAt p 14 = linkByte (s.lookup e.dest) ∧
          (∀ h, e.body = .pinned h → field (byteAt p 0) 1 6 = 1 ∧ byteAt p 4 = toByte h.link.val ∧
            byteAt p 5 = 0xFF ∧ half p 6 = BitVec.ofNat 16 h.metric) ∧
          (∀ st h x sq age, e.body = .live st h x sq age →
            (byteAt p 0).getLsbD 1 = false ∧ field (byteAt p 0) 2 2 = (if st = true then 1 else 0) ∧
            (byteAt p 0).getLsbD 4 = x.isSome ∧ (byteAt p 0).getLsbD 5 = true ∧
            (byteAt p 0).getLsbD 6 = false ∧ byteAt p 4 = toByte h.link.val ∧
            half p 6 = BitVec.ofNat 16 h.metric ∧ half p 10 = sq ∧ byteAt p 12 = toByte age ∧
            (x = none → byteAt p 5 = 0xFF) ∧
            (∀ a, x = some a → byteAt p 5 = toByte a.link.val ∧ half p 8 = BitVec.ofNat 16 a.metric)) ∧
          (∀ sq age k, e.body = .poisoned sq age k →
            (byteAt p 0).getLsbD 1 = false ∧ field (byteAt p 0) 2 2 = 2 ∧ (byteAt p 0).getLsbD 4 = false ∧
            (byteAt p 0).getLsbD 5 = true ∧ (byteAt p 0).getLsbD 6 = true ∧ byteAt p 4 = 0xFF ∧
            byteAt p 5 = 0xFF ∧ half p 6 = 0xFFFF ∧ half p 10 = sq ∧ byteAt p 12 = toByte age ∧
            byteAt p 13 = toByte k)))

/-- R130, R131, R133: PLAN_WRITE of an inactive, not pending context, PLAN_SWITCH and PLAN_CANCEL, and the
refusals: a code that is no context's, an entry with an unknown code, and those by the switch stage. -/
def Obligations.PlanCommandsMoveTheStage : Prop :=
  ∀ (s : State) (seq : BitVec 16) (x first count : Byte) (entries : List Byte) (c : PlanContext),
    s.quiet = true → x = c.code →
    (s.fetchedCommand = some (.planWrite seq x first count entries) → ∀ es,
      slotEntries (entries.take (min (max 1 (min 16 count.toNat)) (64 - min 63 first.toNat))) = some es →
      (c = s.sched.active ∨ s.sched.stage = .accepted c ∨ s.sched.stage = .announced c →
        exec (.planWrite seq x first count entries) s =
          .next (s.commandRead.respond 0x30 seq .refusedState)) ∧
      (c ≠ s.sched.active → s.sched.stage ≠ .accepted c → s.sched.stage ≠ .announced c →
        exec (.planWrite seq x first count entries) s = .next (State.respond { s.commandRead with
          sched := s.sched.setPlan c
            ⟨writeSlots (s.sched.plan c).slots (min 63 first.toNat) es, (s.sched.plan c).generation + 1⟩ }
          0x30 seq .done))) ∧
    (s.fetchedCommand = some (.planSwitch seq x) →
      (s.sched.stage ≠ .none →
        exec (.planSwitch seq x) s = .next (s.commandRead.respond 0x31 seq .refusedBusy)) ∧
      (s.sched.stage = .none → c = s.sched.active →
        exec (.planSwitch seq x) s = .next (s.commandRead.respond 0x31 seq .refusedState)) ∧
      (s.sched.stage = .none → c ≠ s.sched.active → (s.sched.plan c).valid = false →
        exec (.planSwitch seq x) s = .next (s.commandRead.respond 0x31 seq .badPlan)) ∧
      (s.sched.stage = .none → c ≠ s.sched.active → (s.sched.plan c).valid = true →
        exec (.planSwitch seq x) s = .next
          (State.respond { s.commandRead with sched := { s.sched with stage := .accepted c } }
            0x31 seq .done))) ∧
    (s.fetchedCommand = some (.planCancel seq) →
      (s.sched.stage = .accepted c →
        exec (.planCancel seq) s = .next
          (State.respond { s.commandRead with sched := { s.sched with stage := .none } } 0x32 seq .done)) ∧
      (s.sched.stage = .none ∨ s.sched.stage = .announced c →
        exec (.planCancel seq) s = .next (s.commandRead.respond 0x32 seq .refusedState))) ∧
    (∀ y : Byte, 2 ≤ y.toNat →
      (s.fetchedCommand = some (.planWrite seq y first count entries) →
        exec (.planWrite seq y first count entries) s =
          .next (s.commandRead.respond 0x30 seq .badArgument)) ∧
      (s.fetchedCommand = some (.planSwitch seq y) →
        exec (.planSwitch seq y) s = .next (s.commandRead.respond 0x31 seq .badArgument))) ∧
    (s.fetchedCommand = some (.planWrite seq x first count entries) →
      slotEntries (entries.take (min (max 1 (min 16 count.toNat)) (64 - min 63 first.toNat))) = none →
      exec (.planWrite seq x first count entries) s = .next (s.commandRead.respond 0x30 seq .badArgument))

/-- R153: TIMING_SET, by the role named and the role held. -/
def Obligations.TimingSetHandlesTheRole : Prop :=
  ∀ (s : State) (seq : BitVec 16) (role prop : Byte), s.quiet = true →
    s.fetchedCommand = some (.timingSet seq role prop) →
    (role ≠ 1 → role ≠ 2 →
      exec (.timingSet seq role prop) s = .next (s.commandRead.respond 0x40 seq .badArgument)) ∧
    (role = 1 → exec (.timingSet seq role prop) s = .next (State.respond { s.commandRead with
      timing := { s.timing with
        propagation := min 7 prop.toNat
        pendingRoot := s.timing.pendingRoot || s.timing.role == .follower } } 0x40 seq .done)) ∧
    (role = 2 → s.timing.role = .follower →
      exec (.timingSet seq role prop) s = .next (State.respond { s.commandRead with
        timing := { s.timing with propagation := min 7 prop.toNat, pendingRoot := false } }
        0x40 seq .done)) ∧
    (role = 2 → s.timing.role = .root →
      exec (.timingSet seq role prop) s = .next (State.respond { s.commandRead with
        timing := { s.timing with propagation := min 7 prop.toNat, role := .follower, state := .seeking }
        reports := { s.reports with timingLatch := some ⟨.seeking⟩ } } 0x40 seq .done))

/-- R189, R180, R121, R127, R40, R144: an accepted ENGINE_RESET takes the engine to QUIESCING with count 0,
releases a held record in DECIDING unchanged, releases the entry in the Intake's hand and every queued and then
every held frame QUIESCED, recalls every unfetched descriptor and stays in APPLYING; another mode is refused and
the engine stays RUNNING. The order of the SKIP writes, the oldest in-flight record first, is the model's choice
(log entry 12), as are that the Intake's item joins the backlog before the pool's (log entry 21) and that the tail
of an abandoned decision's read run is dropped (log entry 33). -/
def Obligations.EngineResetStartsTheQuiesce : Prop :=
  ∀ (s : State) (seq : BitVec 16) (mode : Byte), s.quiet = true →
    s.fetchedCommand = some (.engineReset seq mode) →
    (mode ≠ 1 → mode ≠ 2 →
      exec (.engineReset seq mode) s = .next (s.commandRead.respond 0x50 seq .badArgument)) ∧
    (∀ (m : ResetMode) (w : Windows), (mode = 1 ∧ m = .keep ∨ mode = 2 ∧ m = .unanchor) →
      s.path.windows = some w →
      ∃ t, exec (.engineReset seq mode) s = .next t ∧
        t = { s.commandRead with
          path := { s.commandRead.path with
            engine := .quiescing m 0
            slot := t.path.slot, queue := t.path.queue, tails := t.path.tails }
          classifier := t.classifier
          intake := t.intake
          pool := { s.pool with entries := t.pool.entries, queues := t.pool.queues,
                                heldList := t.pool.heldList, backlog := t.pool.backlog }
          sched := { s.sched with inFlight := s.sched.inFlight.map (fun r =>
            if r.fetched = false ∧ r.recalled = false then { r with recalled := true } else r) }
          command := { s.commandRead.command with stage := .applying 0x50 seq } } ∧
        (∀ a d k, s.path.slot = .deciding a d k →
          t.path.slot = .released a d ∧ t.classifier = .idle ∧
          t.path.queue ++ t.path.tails = s.commandRead.path.queue.map Injected.orphan ++
            (s.commandRead.path.tails.filter fun x => !x.ofClassifier) ++
            (s.sched.inFlight.filter fun r => !r.fetched && !r.recalled).map fun r =>
              .write (.skip r.pos) (s.txAddress r.pos) (skipBytes r.lap)) ∧
        ((∀ a d k, s.path.slot ≠ .deciding a d k) →
          t.path.slot = s.path.slot ∧ t.classifier = s.classifier ∧
          t.path.queue ++ t.path.tails = s.commandRead.path.queue ++ s.commandRead.path.tails ++
            (s.sched.inFlight.filter fun r => !r.fetched && !r.recalled).map fun r =>
              .write (.skip r.pos) (s.txAddress r.pos) (skipBytes r.lap)) ∧
        (s.PoolOk → ∀ g f, s.frame g = some f →
          ((∃ n, f.place = .queued n) ∨ f.place = .held →
            t.frame g = some { f with place := .releasing .quiesced }) ∧
          (f.inFlight = true ∨ releasingEntry (some f) = true → t.frame g = some f)) ∧
        (s.PoolOk → (∀ n, t.queuesOf n = ⟨[], [], [], []⟩) ∧ t.pool.heldList = []) ∧
        (∀ items : List ReleaseItem, s.PoolOk →
          ((∃ e h, (s.intake.stage = .fetched e h ∨ ∃ n b, s.intake.stage = .stalled e h n b) ∧
              s.taglessWaiting = false ∧ items = [.tagless e.buffer .quiesced]) ∨
            (s.taglessWaiting = true ∨
              (∀ e h, s.intake.stage ≠ .fetched e h) ∧ ∀ e h n b, s.intake.stage ≠ .stalled e h n b) ∧
              items = []) →
          t.pool.backlog = s.pool.backlog ++ items ++
            (((List.finRange 16).flatMap fun n => (s.queuesOf n).all) ++ s.pool.heldList).map
              ReleaseItem.entry) ∧
        (∀ e h, (s.intake.stage = .fetched e h ∨ ∃ n b, s.intake.stage = .stalled e h n b) →
          (s.taglessWaiting = false → t.intake = { s.intake with
            stage := .idle
            index := if s.intake.index + 1 < w.localSize then s.intake.index + 1 else 0 }) ∧
          (s.taglessWaiting = true →
            t.intake = { s.intake with stage := .handing e h .quiesced })) ∧
        ((∀ e h, s.intake.stage ≠ .fetched e h) → (∀ e h n b, s.intake.stage ≠ .stalled e h n b) →
          t.intake = s.intake))
end

