-- ==== Sys2Proof/Laws/Bank.lean ====
section
/-!
SUPPORT. Banks: reading after writing, changing every place, and the searches in index order.
-/

namespace Sys2Proof.Machine

theorem bankGet_eq (b : Bank α n) (i : Fin n) : bankGet b i = b[i.val] := rfl

@[simp] theorem bankGet_bankPut_same (b : Bank α n) (i : Fin n) (v : α) : bankGet (bankPut b i v) i = v := by
  simp [bankGet_eq, bankPut]

theorem bankGet_bankPut_other (b : Bank α n) {i j : Fin n} (v : α) (h : i ≠ j) :
    bankGet (bankPut b i v) j = bankGet b j := by
  have h' : i.val ≠ j.val := fun e => h (Fin.ext e)
  simp [bankGet_eq, bankPut, h']

theorem bankGet_bankPut (b : Bank α n) (i j : Fin n) (v : α) :
    bankGet (bankPut b i v) j = if i = j then v else bankGet b j := by
  by_cases h : i = j
  · subst h; simp
  · simp [h, bankGet_bankPut_other b v h]

@[simp] theorem bankGet_bankMap (f : Fin n → α → β) (b : Bank α n) (i : Fin n) :
    bankGet (bankMap f b) i = f i (bankGet b i) := by
  simp [bankGet_eq, bankMap, Vector.get]

@[simp] theorem bankGet_replicate (v : α) (i : Fin n) : bankGet (Vector.replicate n v) i = v := by
  simp [bankGet_eq]

theorem bankPut_bankPut (b : Bank α n) (i : Fin n) (v w : α) : bankPut (bankPut b i v) i w = bankPut b i w := by
  simp [bankPut]

/-- What `bankFind` finds meets the test, and no place before it does. -/
theorem bankFind_some {p : Fin n → α → Bool} {b : Bank α n} {i : Fin n} (h : bankFind p b = some i) :
    p i (bankGet b i) = true := by
  have := List.find?_some h
  simpa [bankGet] using this

/-- `bankFind` finds nothing exactly when no place meets the test. -/
theorem bankFind_none {p : Fin n → α → Bool} {b : Bank α n} :
    bankFind p b = none ↔ ∀ i, p i (bankGet b i) = false := by
  simp [bankFind, bankGet]

/-- The record of a link after a record has been replaced. -/
@[simp] theorem State.link_setLink_same (s : State) (n : LinkIx) (l : LinkRec) : (s.setLink n l).link n = l := by
  simp [State.link, State.setLink]

/-- The other records are as they were. -/
theorem State.link_setLink_other (s : State) {n m : LinkIx} (l : LinkRec) (h : n ≠ m) :
    (s.setLink n l).link m = s.link m := by
  simp [State.link, State.setLink, bankGet_bankPut_other _ _ h]

/-- The entry of a tag after an entry has been replaced. -/
@[simp] theorem State.frame_setFrame_same (s : State) (t : Tag) (f : Option Frame) :
    (s.setFrame t f).frame t = f := by
  simp [State.frame, State.setFrame]

/-- The other entries are as they were. -/
theorem State.frame_setFrame_other (s : State) {t u : Tag} (f : Option Frame) (h : t ≠ u) :
    (s.setFrame t f).frame u = s.frame u := by
  simp [State.frame, State.setFrame, bankGet_bankPut_other _ _ h]

/-- The class queues of a link after they have been replaced. -/
@[simp] theorem State.queuesOf_setQueues_same (s : State) (n : LinkIx) (q : ClassQueues) :
    (s.setQueues n q).queuesOf n = q := by
  simp [State.queuesOf, State.setQueues]

/-- The class queues of the other links are as they were. -/
theorem State.queuesOf_setQueues_other (s : State) {n m : LinkIx} (q : ClassQueues) (h : n ≠ m) :
    (s.setQueues n q).queuesOf m = s.queuesOf m := by
  simp [State.queuesOf, State.setQueues, bankGet_bankPut_other _ _ h]

/-- The mark of a ring position after it has been set. -/
theorem State.mark_setMark_same (s : State) {p : Nat} (m : Mark) (h : p < 256) : (s.setMark p m).mark p = m := by
  simp [State.mark, State.setMark, index?, h]

/-- The marks of the other positions are as they were. -/
theorem State.mark_setMark_other (s : State) {p q : Nat} (m : Mark) (h : p ≠ q) :
    (s.setMark p m).mark q = s.mark q := by
  unfold State.mark State.setMark index?
  by_cases hp : p < 256 <;> by_cases hq : q < 256 <;> simp [hp, hq, bankGet_bankPut, h]

end Sys2Proof.Machine
end

