-- ==== Sys2Proof/Laws/Memory.lean ====
section
/-!
SUPPORT. Packet memory: every memory operation keeps the canonical form, a byte written reads as written, and
every other address reads as before.
-/

namespace Sys2Proof.Machine

/-- Every address listed is above a bound. -/
def Memory.above (x : Nat) : Memory → Prop
  | [] => True
  | (y, _) :: _ => x < y

theorem Memory.wf_cons {x : Nat} {c : Byte} {m : Memory} :
    Memory.wf ((x, c) :: m) = true ↔ c ≠ unwritten ∧ Memory.above x m ∧ Memory.wf m = true := by
  cases m with
  | nil => simp [Memory.wf, Memory.above]
  | cons y m => obtain ⟨y, d⟩ := y; simp [Memory.wf, Memory.above, and_assoc]

theorem memPut_above {x a : Nat} {b : Byte} {m : Memory} (h : Memory.above x m) (hx : x < a) :
    Memory.wf m = true → Memory.above x (memPut m a b) := by
  intro hm
  cases m with
  | nil => unfold memPut; split <;> simp_all [Memory.above]
  | cons y m =>
    obtain ⟨y, d⟩ := y
    simp only [Memory.above] at h
    rw [Memory.wf_cons] at hm
    unfold memPut
    split
    · split <;> simpa [Memory.above] using by omega
    · split
      · split
        · cases m with
          | nil => simp [Memory.above]
          | cons z m => obtain ⟨z, e⟩ := z; have := hm.2.1; simp [Memory.above] at *; omega
        · simpa [Memory.above] using hx
      · simpa [Memory.above] using h

/-- Writing a byte keeps the canonical form. -/
theorem memPut_wf {m : Memory} (a : Nat) (b : Byte) (h : Memory.wf m = true) : Memory.wf (memPut m a b) = true := by
  induction m with
  | nil => unfold memPut; split <;> simp_all [Memory.wf]
  | cons x m ih =>
    obtain ⟨x, c⟩ := x
    have hx := Memory.wf_cons.mp h
    unfold memPut
    split
    · split
      · exact h
      · rename_i hlt hb; exact Memory.wf_cons.mpr ⟨hb, by simpa [Memory.above] using hlt, h⟩
    · split
      · rename_i heq
        subst heq
        split
        · exact hx.2.2
        · rename_i hb; exact Memory.wf_cons.mpr ⟨hb, hx.2.1, hx.2.2⟩
      · exact Memory.wf_cons.mpr ⟨hx.1, memPut_above hx.2.1 (by omega) hx.2.2, ih hx.2.2⟩

/-- Writing bytes keeps the canonical form. -/
theorem memWrite_wf (d : List Byte) : ∀ (m : Memory) (a : Nat), Memory.wf m = true → Memory.wf (memWrite m a d) = true := by
  induction d with
  | nil => intro m a h; exact h
  | cons b d ih => intro m a h; exact ih _ _ (memPut_wf _ _ h)

theorem memByte_above {x : Nat} {m : Memory} (h : Memory.above x m) (hm : Memory.wf m = true) :
    memByte m x = unwritten := by
  induction m with
  | nil => rfl
  | cons y m ih =>
    obtain ⟨y, d⟩ := y
    have hw := Memory.wf_cons.mp hm
    simp only [Memory.above] at h
    have hy : ¬ x = y := by omega
    simp only [memByte, hy, if_false]
    refine ih ?_ hw.2.2
    cases m with
    | nil => trivial
    | cons z m => obtain ⟨z, e⟩ := z; have := hw.2.1; simp [Memory.above] at *; omega

/-- Reading after writing: the address written reads as the byte written, every other one as before. -/
theorem memByte_memPut {m : Memory} (a x : Nat) (b : Byte) (h : Memory.wf m = true) :
    memByte (memPut m a b) x = if x = a then b else memByte m x := by
  induction m with
  | nil =>
    unfold memPut
    split
    · rename_i hb; simp [memByte, hb]
    · simp [memByte]
  | cons y m ih =>
    obtain ⟨y, c⟩ := y
    have hw := Memory.wf_cons.mp h
    unfold memPut
    split
    · rename_i hlt
      split
      · rename_i hb
        by_cases hx : x = a
        · subst hx
          rw [if_pos rfl, hb]
          exact memByte_above (by simpa [Memory.above] using hlt) h
        · simp [hx]
      · simp [memByte]
    · split
      · rename_i heq
        subst heq
        split
        · rename_i hb
          by_cases hx : x = a
          · subst hx
            rw [if_pos rfl, hb]
            exact memByte_above hw.2.1 hw.2.2
          · simp [hx, memByte]
        · by_cases hx : x = a <;> simp [hx, memByte]
      · rename_i hne
        by_cases hx : x = y
        · subst hx
          have : ¬ x = a := fun e => hne e.symm
          simp [memByte, this]
        · simp only [memByte, hx, if_false]
          exact ih hw.2.2

/-- An address that no byte of a write has reads as before. -/
theorem memByte_memWrite_other (d : List Byte) : ∀ (m : Memory) (a x : Nat), Memory.wf m = true →
    (∀ i, i < d.length → x ≠ (a + i) % 4294967296) → memByte (memWrite m a d) x = memByte m x := by
  induction d with
  | nil => intro m a x _ _; rfl
  | cons b d ih =>
    intro m a x h hx
    rw [memWrite, ih _ _ _ (memPut_wf _ _ h), memByte_memPut _ _ _ h, if_neg]
    · simpa using hx 0 (by simp)
    · intro i hi
      have := hx (i + 1) (by simpa using hi)
      rwa [show a + 1 + i = a + (i + 1) by omega]

/-- The state's store keeps the canonical form. -/
theorem State.store_wf (s : State) (a : Nat) (d : List Byte) (h : Memory.wf s.mem = true) :
    Memory.wf (s.store a d).mem = true := memWrite_wf d s.mem a h

/-- Reset's memory has the canonical form. -/
theorem reset_memory_wf : Memory.wf State.reset.mem = true := rfl

end Sys2Proof.Machine
end

