-- ==== Sys2Proof/Laws/State.lean ====
section
/-!
SUPPORT. One lemma for each field of the state under each named update, true by definition, so that no proof
unfolds a record update.
-/

namespace Sys2Proof.Machine

@[simp] theorem State.store_pending (s : State) (a : Nat) (d : List Byte) : (s.store a d).pending = s.pending := rfl
@[simp] theorem State.store_mem (s : State) (a : Nat) (d : List Byte) : (s.store a d).mem = memWrite s.mem a d := rfl
@[simp] theorem State.store_pins (s : State) (a : Nat) (d : List Byte) : (s.store a d).pins = s.pins := rfl
@[simp] theorem State.store_path (s : State) (a : Nat) (d : List Byte) : (s.store a d).path = s.path := rfl
@[simp] theorem State.store_classifier (s : State) (a : Nat) (d : List Byte) : (s.store a d).classifier = s.classifier := rfl
@[simp] theorem State.store_intake (s : State) (a : Nat) (d : List Byte) : (s.store a d).intake = s.intake := rfl
@[simp] theorem State.store_pool (s : State) (a : Nat) (d : List Byte) : (s.store a d).pool = s.pool := rfl
@[simp] theorem State.store_linkTable (s : State) (a : Nat) (d : List Byte) : (s.store a d).linkTable = s.linkTable := rfl
@[simp] theorem State.store_routes (s : State) (a : Nat) (d : List Byte) : (s.store a d).routes = s.routes := rfl
@[simp] theorem State.store_sched (s : State) (a : Nat) (d : List Byte) : (s.store a d).sched = s.sched := rfl
@[simp] theorem State.store_completion (s : State) (a : Nat) (d : List Byte) : (s.store a d).completion = s.completion := rfl
@[simp] theorem State.store_timing (s : State) (a : Nat) (d : List Byte) : (s.store a d).timing = s.timing := rfl
@[simp] theorem State.store_command (s : State) (a : Nat) (d : List Byte) : (s.store a d).command = s.command := rfl
@[simp] theorem State.store_reports (s : State) (a : Nat) (d : List Byte) : (s.store a d).reports = s.reports := rfl
@[simp] theorem State.store_work (s : State) (a : Nat) (d : List Byte) : (s.store a d).work = s.work := rfl
@[simp] theorem State.store_freeIndex (s : State) (a : Nat) (d : List Byte) : (s.store a d).freeIndex = s.freeIndex := rfl

@[simp] theorem State.issue_pending (s : State) (xs : List Injected) : (s.issue xs).pending = s.pending := rfl
@[simp] theorem State.issue_mem (s : State) (xs : List Injected) : (s.issue xs).mem = s.mem := rfl
@[simp] theorem State.issue_pins (s : State) (xs : List Injected) : (s.issue xs).pins = s.pins := rfl
@[simp] theorem State.issue_path (s : State) (xs : List Injected) : (s.issue xs).path = s.path.fill (s.path.queue ++ s.path.tails ++ xs) := rfl
@[simp] theorem State.issue_classifier (s : State) (xs : List Injected) : (s.issue xs).classifier = s.classifier := rfl
@[simp] theorem State.issue_intake (s : State) (xs : List Injected) : (s.issue xs).intake = s.intake := rfl
@[simp] theorem State.issue_pool (s : State) (xs : List Injected) : (s.issue xs).pool = s.pool := rfl
@[simp] theorem State.issue_linkTable (s : State) (xs : List Injected) : (s.issue xs).linkTable = s.linkTable := rfl
@[simp] theorem State.issue_routes (s : State) (xs : List Injected) : (s.issue xs).routes = s.routes := rfl
@[simp] theorem State.issue_sched (s : State) (xs : List Injected) : (s.issue xs).sched = s.sched := rfl
@[simp] theorem State.issue_completion (s : State) (xs : List Injected) : (s.issue xs).completion = s.completion := rfl
@[simp] theorem State.issue_timing (s : State) (xs : List Injected) : (s.issue xs).timing = s.timing := rfl
@[simp] theorem State.issue_command (s : State) (xs : List Injected) : (s.issue xs).command = s.command := rfl
@[simp] theorem State.issue_reports (s : State) (xs : List Injected) : (s.issue xs).reports = s.reports := rfl
@[simp] theorem State.issue_work (s : State) (xs : List Injected) : (s.issue xs).work = s.work := rfl
@[simp] theorem State.issue_freeIndex (s : State) (xs : List Injected) : (s.issue xs).freeIndex = s.freeIndex := rfl

@[simp] theorem State.dropHead_pending (s : State) : s.dropHead.pending = s.pending := rfl
@[simp] theorem State.dropHead_mem (s : State) : s.dropHead.mem = s.mem := rfl
@[simp] theorem State.dropHead_pins (s : State) : s.dropHead.pins = s.pins := rfl
@[simp] theorem State.dropHead_path (s : State) : s.dropHead.path = s.path.fill (s.path.queue.tail ++ s.path.tails) := rfl
@[simp] theorem State.dropHead_classifier (s : State) : s.dropHead.classifier = s.classifier := rfl
@[simp] theorem State.dropHead_intake (s : State) : s.dropHead.intake = s.intake := rfl
@[simp] theorem State.dropHead_pool (s : State) : s.dropHead.pool = s.pool := rfl
@[simp] theorem State.dropHead_linkTable (s : State) : s.dropHead.linkTable = s.linkTable := rfl
@[simp] theorem State.dropHead_routes (s : State) : s.dropHead.routes = s.routes := rfl
@[simp] theorem State.dropHead_sched (s : State) : s.dropHead.sched = s.sched := rfl
@[simp] theorem State.dropHead_completion (s : State) : s.dropHead.completion = s.completion := rfl
@[simp] theorem State.dropHead_timing (s : State) : s.dropHead.timing = s.timing := rfl
@[simp] theorem State.dropHead_command (s : State) : s.dropHead.command = s.command := rfl
@[simp] theorem State.dropHead_reports (s : State) : s.dropHead.reports = s.reports := rfl
@[simp] theorem State.dropHead_work (s : State) : s.dropHead.work = s.work := rfl
@[simp] theorem State.dropHead_freeIndex (s : State) : s.dropHead.freeIndex = s.freeIndex := rfl

@[simp] theorem State.setLink_pending (s : State) (n : LinkIx) (l : LinkRec) : (s.setLink n l).pending = s.pending := rfl
@[simp] theorem State.setLink_mem (s : State) (n : LinkIx) (l : LinkRec) : (s.setLink n l).mem = s.mem := rfl
@[simp] theorem State.setLink_pins (s : State) (n : LinkIx) (l : LinkRec) : (s.setLink n l).pins = s.pins := rfl
@[simp] theorem State.setLink_path (s : State) (n : LinkIx) (l : LinkRec) : (s.setLink n l).path = s.path := rfl
@[simp] theorem State.setLink_classifier (s : State) (n : LinkIx) (l : LinkRec) : (s.setLink n l).classifier = s.classifier := rfl
@[simp] theorem State.setLink_intake (s : State) (n : LinkIx) (l : LinkRec) : (s.setLink n l).intake = s.intake := rfl
@[simp] theorem State.setLink_pool (s : State) (n : LinkIx) (l : LinkRec) : (s.setLink n l).pool = s.pool := rfl
@[simp] theorem State.setLink_linkTable (s : State) (n : LinkIx) (l : LinkRec) : (s.setLink n l).linkTable = { s.linkTable with links := bankPut s.linkTable.links n l } := rfl
@[simp] theorem State.setLink_routes (s : State) (n : LinkIx) (l : LinkRec) : (s.setLink n l).routes = s.routes := rfl
@[simp] theorem State.setLink_sched (s : State) (n : LinkIx) (l : LinkRec) : (s.setLink n l).sched = s.sched := rfl
@[simp] theorem State.setLink_completion (s : State) (n : LinkIx) (l : LinkRec) : (s.setLink n l).completion = s.completion := rfl
@[simp] theorem State.setLink_timing (s : State) (n : LinkIx) (l : LinkRec) : (s.setLink n l).timing = s.timing := rfl
@[simp] theorem State.setLink_command (s : State) (n : LinkIx) (l : LinkRec) : (s.setLink n l).command = s.command := rfl
@[simp] theorem State.setLink_reports (s : State) (n : LinkIx) (l : LinkRec) : (s.setLink n l).reports = s.reports := rfl
@[simp] theorem State.setLink_work (s : State) (n : LinkIx) (l : LinkRec) : (s.setLink n l).work = s.work := rfl
@[simp] theorem State.setLink_freeIndex (s : State) (n : LinkIx) (l : LinkRec) : (s.setLink n l).freeIndex = s.freeIndex := rfl

@[simp] theorem State.setQueues_pending (s : State) (n : LinkIx) (q : ClassQueues) : (s.setQueues n q).pending = s.pending := rfl
@[simp] theorem State.setQueues_mem (s : State) (n : LinkIx) (q : ClassQueues) : (s.setQueues n q).mem = s.mem := rfl
@[simp] theorem State.setQueues_pins (s : State) (n : LinkIx) (q : ClassQueues) : (s.setQueues n q).pins = s.pins := rfl
@[simp] theorem State.setQueues_path (s : State) (n : LinkIx) (q : ClassQueues) : (s.setQueues n q).path = s.path := rfl
@[simp] theorem State.setQueues_classifier (s : State) (n : LinkIx) (q : ClassQueues) : (s.setQueues n q).classifier = s.classifier := rfl
@[simp] theorem State.setQueues_intake (s : State) (n : LinkIx) (q : ClassQueues) : (s.setQueues n q).intake = s.intake := rfl
@[simp] theorem State.setQueues_pool (s : State) (n : LinkIx) (q : ClassQueues) : (s.setQueues n q).pool = { s.pool with queues := bankPut s.pool.queues n q } := rfl
@[simp] theorem State.setQueues_linkTable (s : State) (n : LinkIx) (q : ClassQueues) : (s.setQueues n q).linkTable = s.linkTable := rfl
@[simp] theorem State.setQueues_routes (s : State) (n : LinkIx) (q : ClassQueues) : (s.setQueues n q).routes = s.routes := rfl
@[simp] theorem State.setQueues_sched (s : State) (n : LinkIx) (q : ClassQueues) : (s.setQueues n q).sched = s.sched := rfl
@[simp] theorem State.setQueues_completion (s : State) (n : LinkIx) (q : ClassQueues) : (s.setQueues n q).completion = s.completion := rfl
@[simp] theorem State.setQueues_timing (s : State) (n : LinkIx) (q : ClassQueues) : (s.setQueues n q).timing = s.timing := rfl
@[simp] theorem State.setQueues_command (s : State) (n : LinkIx) (q : ClassQueues) : (s.setQueues n q).command = s.command := rfl
@[simp] theorem State.setQueues_reports (s : State) (n : LinkIx) (q : ClassQueues) : (s.setQueues n q).reports = s.reports := rfl
@[simp] theorem State.setQueues_work (s : State) (n : LinkIx) (q : ClassQueues) : (s.setQueues n q).work = s.work := rfl
@[simp] theorem State.setQueues_freeIndex (s : State) (n : LinkIx) (q : ClassQueues) : (s.setQueues n q).freeIndex = s.freeIndex := rfl

@[simp] theorem State.setFrame_pending (s : State) (t : Tag) (f : Option Frame) : (s.setFrame t f).pending = s.pending := rfl
@[simp] theorem State.setFrame_mem (s : State) (t : Tag) (f : Option Frame) : (s.setFrame t f).mem = s.mem := rfl
@[simp] theorem State.setFrame_pins (s : State) (t : Tag) (f : Option Frame) : (s.setFrame t f).pins = s.pins := rfl
@[simp] theorem State.setFrame_path (s : State) (t : Tag) (f : Option Frame) : (s.setFrame t f).path = s.path := rfl
@[simp] theorem State.setFrame_classifier (s : State) (t : Tag) (f : Option Frame) : (s.setFrame t f).classifier = s.classifier := rfl
@[simp] theorem State.setFrame_intake (s : State) (t : Tag) (f : Option Frame) : (s.setFrame t f).intake = s.intake := rfl
@[simp] theorem State.setFrame_pool (s : State) (t : Tag) (f : Option Frame) : (s.setFrame t f).pool = { s.pool with entries := bankPut s.pool.entries t f } := rfl
@[simp] theorem State.setFrame_linkTable (s : State) (t : Tag) (f : Option Frame) : (s.setFrame t f).linkTable = s.linkTable := rfl
@[simp] theorem State.setFrame_routes (s : State) (t : Tag) (f : Option Frame) : (s.setFrame t f).routes = s.routes := rfl
@[simp] theorem State.setFrame_sched (s : State) (t : Tag) (f : Option Frame) : (s.setFrame t f).sched = s.sched := rfl
@[simp] theorem State.setFrame_completion (s : State) (t : Tag) (f : Option Frame) : (s.setFrame t f).completion = s.completion := rfl
@[simp] theorem State.setFrame_timing (s : State) (t : Tag) (f : Option Frame) : (s.setFrame t f).timing = s.timing := rfl
@[simp] theorem State.setFrame_command (s : State) (t : Tag) (f : Option Frame) : (s.setFrame t f).command = s.command := rfl
@[simp] theorem State.setFrame_reports (s : State) (t : Tag) (f : Option Frame) : (s.setFrame t f).reports = s.reports := rfl
@[simp] theorem State.setFrame_work (s : State) (t : Tag) (f : Option Frame) : (s.setFrame t f).work = s.work := rfl
@[simp] theorem State.setFrame_freeIndex (s : State) (t : Tag) (f : Option Frame) : (s.setFrame t f).freeIndex = s.freeIndex := rfl

@[simp] theorem State.setClassifier_pending (s : State) (c : Classifier) : (s.setClassifier c).pending = s.pending := rfl
@[simp] theorem State.setClassifier_mem (s : State) (c : Classifier) : (s.setClassifier c).mem = s.mem := rfl
@[simp] theorem State.setClassifier_pins (s : State) (c : Classifier) : (s.setClassifier c).pins = s.pins := rfl
@[simp] theorem State.setClassifier_path (s : State) (c : Classifier) : (s.setClassifier c).path = s.path := rfl
@[simp] theorem State.setClassifier_classifier (s : State) (c : Classifier) : (s.setClassifier c).classifier = c := rfl
@[simp] theorem State.setClassifier_intake (s : State) (c : Classifier) : (s.setClassifier c).intake = s.intake := rfl
@[simp] theorem State.setClassifier_pool (s : State) (c : Classifier) : (s.setClassifier c).pool = s.pool := rfl
@[simp] theorem State.setClassifier_linkTable (s : State) (c : Classifier) : (s.setClassifier c).linkTable = s.linkTable := rfl
@[simp] theorem State.setClassifier_routes (s : State) (c : Classifier) : (s.setClassifier c).routes = s.routes := rfl
@[simp] theorem State.setClassifier_sched (s : State) (c : Classifier) : (s.setClassifier c).sched = s.sched := rfl
@[simp] theorem State.setClassifier_completion (s : State) (c : Classifier) : (s.setClassifier c).completion = s.completion := rfl
@[simp] theorem State.setClassifier_timing (s : State) (c : Classifier) : (s.setClassifier c).timing = s.timing := rfl
@[simp] theorem State.setClassifier_command (s : State) (c : Classifier) : (s.setClassifier c).command = s.command := rfl
@[simp] theorem State.setClassifier_reports (s : State) (c : Classifier) : (s.setClassifier c).reports = s.reports := rfl
@[simp] theorem State.setClassifier_work (s : State) (c : Classifier) : (s.setClassifier c).work = s.work := rfl
@[simp] theorem State.setClassifier_freeIndex (s : State) (c : Classifier) : (s.setClassifier c).freeIndex = s.freeIndex := rfl

@[simp] theorem State.setSlot_pending (s : State) (h : HeldSlot) : (s.setSlot h).pending = s.pending := rfl
@[simp] theorem State.setSlot_mem (s : State) (h : HeldSlot) : (s.setSlot h).mem = s.mem := rfl
@[simp] theorem State.setSlot_pins (s : State) (h : HeldSlot) : (s.setSlot h).pins = s.pins := rfl
@[simp] theorem State.setSlot_path (s : State) (h : HeldSlot) : (s.setSlot h).path = { s.path with slot := h } := rfl
@[simp] theorem State.setSlot_classifier (s : State) (h : HeldSlot) : (s.setSlot h).classifier = s.classifier := rfl
@[simp] theorem State.setSlot_intake (s : State) (h : HeldSlot) : (s.setSlot h).intake = s.intake := rfl
@[simp] theorem State.setSlot_pool (s : State) (h : HeldSlot) : (s.setSlot h).pool = s.pool := rfl
@[simp] theorem State.setSlot_linkTable (s : State) (h : HeldSlot) : (s.setSlot h).linkTable = s.linkTable := rfl
@[simp] theorem State.setSlot_routes (s : State) (h : HeldSlot) : (s.setSlot h).routes = s.routes := rfl
@[simp] theorem State.setSlot_sched (s : State) (h : HeldSlot) : (s.setSlot h).sched = s.sched := rfl
@[simp] theorem State.setSlot_completion (s : State) (h : HeldSlot) : (s.setSlot h).completion = s.completion := rfl
@[simp] theorem State.setSlot_timing (s : State) (h : HeldSlot) : (s.setSlot h).timing = s.timing := rfl
@[simp] theorem State.setSlot_command (s : State) (h : HeldSlot) : (s.setSlot h).command = s.command := rfl
@[simp] theorem State.setSlot_reports (s : State) (h : HeldSlot) : (s.setSlot h).reports = s.reports := rfl
@[simp] theorem State.setSlot_work (s : State) (h : HeldSlot) : (s.setSlot h).work = s.work := rfl
@[simp] theorem State.setSlot_freeIndex (s : State) (h : HeldSlot) : (s.setSlot h).freeIndex = s.freeIndex := rfl

@[simp] theorem State.setStage_pending (s : State) (g : IntakeStage) : (s.setStage g).pending = s.pending := rfl
@[simp] theorem State.setStage_mem (s : State) (g : IntakeStage) : (s.setStage g).mem = s.mem := rfl
@[simp] theorem State.setStage_pins (s : State) (g : IntakeStage) : (s.setStage g).pins = s.pins := rfl
@[simp] theorem State.setStage_path (s : State) (g : IntakeStage) : (s.setStage g).path = s.path := rfl
@[simp] theorem State.setStage_classifier (s : State) (g : IntakeStage) : (s.setStage g).classifier = s.classifier := rfl
@[simp] theorem State.setStage_intake (s : State) (g : IntakeStage) : (s.setStage g).intake = { s.intake with stage := g } := rfl
@[simp] theorem State.setStage_pool (s : State) (g : IntakeStage) : (s.setStage g).pool = s.pool := rfl
@[simp] theorem State.setStage_linkTable (s : State) (g : IntakeStage) : (s.setStage g).linkTable = s.linkTable := rfl
@[simp] theorem State.setStage_routes (s : State) (g : IntakeStage) : (s.setStage g).routes = s.routes := rfl
@[simp] theorem State.setStage_sched (s : State) (g : IntakeStage) : (s.setStage g).sched = s.sched := rfl
@[simp] theorem State.setStage_completion (s : State) (g : IntakeStage) : (s.setStage g).completion = s.completion := rfl
@[simp] theorem State.setStage_timing (s : State) (g : IntakeStage) : (s.setStage g).timing = s.timing := rfl
@[simp] theorem State.setStage_command (s : State) (g : IntakeStage) : (s.setStage g).command = s.command := rfl
@[simp] theorem State.setStage_reports (s : State) (g : IntakeStage) : (s.setStage g).reports = s.reports := rfl
@[simp] theorem State.setStage_work (s : State) (g : IntakeStage) : (s.setStage g).work = s.work := rfl
@[simp] theorem State.setStage_freeIndex (s : State) (g : IntakeStage) : (s.setStage g).freeIndex = s.freeIndex := rfl

@[simp] theorem State.pushBacklog_pending (s : State) (i : ReleaseItem) : (s.pushBacklog i).pending = s.pending := rfl
@[simp] theorem State.pushBacklog_mem (s : State) (i : ReleaseItem) : (s.pushBacklog i).mem = s.mem := rfl
@[simp] theorem State.pushBacklog_pins (s : State) (i : ReleaseItem) : (s.pushBacklog i).pins = s.pins := rfl
@[simp] theorem State.pushBacklog_path (s : State) (i : ReleaseItem) : (s.pushBacklog i).path = s.path := rfl
@[simp] theorem State.pushBacklog_classifier (s : State) (i : ReleaseItem) : (s.pushBacklog i).classifier = s.classifier := rfl
@[simp] theorem State.pushBacklog_intake (s : State) (i : ReleaseItem) : (s.pushBacklog i).intake = s.intake := rfl
@[simp] theorem State.pushBacklog_pool (s : State) (i : ReleaseItem) : (s.pushBacklog i).pool = { s.pool with backlog := s.pool.backlog ++ [i] } := rfl
@[simp] theorem State.pushBacklog_linkTable (s : State) (i : ReleaseItem) : (s.pushBacklog i).linkTable = s.linkTable := rfl
@[simp] theorem State.pushBacklog_routes (s : State) (i : ReleaseItem) : (s.pushBacklog i).routes = s.routes := rfl
@[simp] theorem State.pushBacklog_sched (s : State) (i : ReleaseItem) : (s.pushBacklog i).sched = s.sched := rfl
@[simp] theorem State.pushBacklog_completion (s : State) (i : ReleaseItem) : (s.pushBacklog i).completion = s.completion := rfl
@[simp] theorem State.pushBacklog_timing (s : State) (i : ReleaseItem) : (s.pushBacklog i).timing = s.timing := rfl
@[simp] theorem State.pushBacklog_command (s : State) (i : ReleaseItem) : (s.pushBacklog i).command = s.command := rfl
@[simp] theorem State.pushBacklog_reports (s : State) (i : ReleaseItem) : (s.pushBacklog i).reports = s.reports := rfl
@[simp] theorem State.pushBacklog_work (s : State) (i : ReleaseItem) : (s.pushBacklog i).work = s.work := rfl
@[simp] theorem State.pushBacklog_freeIndex (s : State) (i : ReleaseItem) : (s.pushBacklog i).freeIndex = s.freeIndex := rfl

@[simp] theorem State.respond_pending (s : State) (code : Byte) (seq : BitVec 16) (st : Status) : (s.respond code seq st).pending = s.pending := rfl
@[simp] theorem State.respond_mem (s : State) (code : Byte) (seq : BitVec 16) (st : Status) : (s.respond code seq st).mem = s.mem := rfl
@[simp] theorem State.respond_pins (s : State) (code : Byte) (seq : BitVec 16) (st : Status) : (s.respond code seq st).pins = s.pins := rfl
@[simp] theorem State.respond_path (s : State) (code : Byte) (seq : BitVec 16) (st : Status) : (s.respond code seq st).path = s.path := rfl
@[simp] theorem State.respond_classifier (s : State) (code : Byte) (seq : BitVec 16) (st : Status) : (s.respond code seq st).classifier = s.classifier := rfl
@[simp] theorem State.respond_intake (s : State) (code : Byte) (seq : BitVec 16) (st : Status) : (s.respond code seq st).intake = s.intake := rfl
@[simp] theorem State.respond_pool (s : State) (code : Byte) (seq : BitVec 16) (st : Status) : (s.respond code seq st).pool = s.pool := rfl
@[simp] theorem State.respond_linkTable (s : State) (code : Byte) (seq : BitVec 16) (st : Status) : (s.respond code seq st).linkTable = s.linkTable := rfl
@[simp] theorem State.respond_routes (s : State) (code : Byte) (seq : BitVec 16) (st : Status) : (s.respond code seq st).routes = s.routes := rfl
@[simp] theorem State.respond_sched (s : State) (code : Byte) (seq : BitVec 16) (st : Status) : (s.respond code seq st).sched = s.sched := rfl
@[simp] theorem State.respond_completion (s : State) (code : Byte) (seq : BitVec 16) (st : Status) : (s.respond code seq st).completion = s.completion := rfl
@[simp] theorem State.respond_timing (s : State) (code : Byte) (seq : BitVec 16) (st : Status) : (s.respond code seq st).timing = s.timing := rfl
@[simp] theorem State.respond_command (s : State) (code : Byte) (seq : BitVec 16) (st : Status) : (s.respond code seq st).command = { s.command with stage := .responding code seq st [] } := rfl
@[simp] theorem State.respond_reports (s : State) (code : Byte) (seq : BitVec 16) (st : Status) : (s.respond code seq st).reports = s.reports := rfl
@[simp] theorem State.respond_work (s : State) (code : Byte) (seq : BitVec 16) (st : Status) : (s.respond code seq st).work = s.work := rfl
@[simp] theorem State.respond_freeIndex (s : State) (code : Byte) (seq : BitVec 16) (st : Status) : (s.respond code seq st).freeIndex = s.freeIndex := rfl

@[simp] theorem State.respondWith_pending (s : State) (code : Byte) (seq : BitVec 16) (st : Status) (p : List Byte) : (s.respondWith code seq st p).pending = s.pending := rfl
@[simp] theorem State.respondWith_mem (s : State) (code : Byte) (seq : BitVec 16) (st : Status) (p : List Byte) : (s.respondWith code seq st p).mem = s.mem := rfl
@[simp] theorem State.respondWith_pins (s : State) (code : Byte) (seq : BitVec 16) (st : Status) (p : List Byte) : (s.respondWith code seq st p).pins = s.pins := rfl
@[simp] theorem State.respondWith_path (s : State) (code : Byte) (seq : BitVec 16) (st : Status) (p : List Byte) : (s.respondWith code seq st p).path = s.path := rfl
@[simp] theorem State.respondWith_classifier (s : State) (code : Byte) (seq : BitVec 16) (st : Status) (p : List Byte) : (s.respondWith code seq st p).classifier = s.classifier := rfl
@[simp] theorem State.respondWith_intake (s : State) (code : Byte) (seq : BitVec 16) (st : Status) (p : List Byte) : (s.respondWith code seq st p).intake = s.intake := rfl
@[simp] theorem State.respondWith_pool (s : State) (code : Byte) (seq : BitVec 16) (st : Status) (p : List Byte) : (s.respondWith code seq st p).pool = s.pool := rfl
@[simp] theorem State.respondWith_linkTable (s : State) (code : Byte) (seq : BitVec 16) (st : Status) (p : List Byte) : (s.respondWith code seq st p).linkTable = s.linkTable := rfl
@[simp] theorem State.respondWith_routes (s : State) (code : Byte) (seq : BitVec 16) (st : Status) (p : List Byte) : (s.respondWith code seq st p).routes = s.routes := rfl
@[simp] theorem State.respondWith_sched (s : State) (code : Byte) (seq : BitVec 16) (st : Status) (p : List Byte) : (s.respondWith code seq st p).sched = s.sched := rfl
@[simp] theorem State.respondWith_completion (s : State) (code : Byte) (seq : BitVec 16) (st : Status) (p : List Byte) : (s.respondWith code seq st p).completion = s.completion := rfl
@[simp] theorem State.respondWith_timing (s : State) (code : Byte) (seq : BitVec 16) (st : Status) (p : List Byte) : (s.respondWith code seq st p).timing = s.timing := rfl
@[simp] theorem State.respondWith_command (s : State) (code : Byte) (seq : BitVec 16) (st : Status) (p : List Byte) : (s.respondWith code seq st p).command = { s.command with stage := .responding code seq st p } := rfl
@[simp] theorem State.respondWith_reports (s : State) (code : Byte) (seq : BitVec 16) (st : Status) (p : List Byte) : (s.respondWith code seq st p).reports = s.reports := rfl
@[simp] theorem State.respondWith_work (s : State) (code : Byte) (seq : BitVec 16) (st : Status) (p : List Byte) : (s.respondWith code seq st p).work = s.work := rfl
@[simp] theorem State.respondWith_freeIndex (s : State) (code : Byte) (seq : BitVec 16) (st : Status) (p : List Byte) : (s.respondWith code seq st p).freeIndex = s.freeIndex := rfl

@[simp] theorem State.copyRecord_pending (s : State) (pos : Nat) (d : List Byte) : (s.copyRecord pos d).pending = s.pending := rfl
@[simp] theorem State.copyRecord_mem (s : State) (pos : Nat) (d : List Byte) : (s.copyRecord pos d).mem = s.mem := rfl
@[simp] theorem State.copyRecord_pins (s : State) (pos : Nat) (d : List Byte) : (s.copyRecord pos d).pins = s.pins := rfl
@[simp] theorem State.copyRecord_path (s : State) (pos : Nat) (d : List Byte) : (s.copyRecord pos d).path = s.path := rfl
@[simp] theorem State.copyRecord_classifier (s : State) (pos : Nat) (d : List Byte) : (s.copyRecord pos d).classifier = s.classifier := rfl
@[simp] theorem State.copyRecord_intake (s : State) (pos : Nat) (d : List Byte) : (s.copyRecord pos d).intake = s.intake := rfl
@[simp] theorem State.copyRecord_pool (s : State) (pos : Nat) (d : List Byte) : (s.copyRecord pos d).pool = s.pool := rfl
@[simp] theorem State.copyRecord_linkTable (s : State) (pos : Nat) (d : List Byte) : (s.copyRecord pos d).linkTable = s.linkTable := rfl
@[simp] theorem State.copyRecord_routes (s : State) (pos : Nat) (d : List Byte) : (s.copyRecord pos d).routes = s.routes := rfl
@[simp] theorem State.copyRecord_sched (s : State) (pos : Nat) (d : List Byte) : (s.copyRecord pos d).sched = s.sched := rfl
@[simp] theorem State.copyRecord_completion (s : State) (pos : Nat) (d : List Byte) : (s.copyRecord pos d).completion = { s.completion with queue := s.completion.queue ++ [⟨pos, d⟩] } := rfl
@[simp] theorem State.copyRecord_timing (s : State) (pos : Nat) (d : List Byte) : (s.copyRecord pos d).timing = s.timing := rfl
@[simp] theorem State.copyRecord_command (s : State) (pos : Nat) (d : List Byte) : (s.copyRecord pos d).command = s.command := rfl
@[simp] theorem State.copyRecord_reports (s : State) (pos : Nat) (d : List Byte) : (s.copyRecord pos d).reports = s.reports := rfl
@[simp] theorem State.copyRecord_work (s : State) (pos : Nat) (d : List Byte) : (s.copyRecord pos d).work = s.work := rfl
@[simp] theorem State.copyRecord_freeIndex (s : State) (pos : Nat) (d : List Byte) : (s.copyRecord pos d).freeIndex = s.freeIndex := rfl

@[simp] theorem State.popReply_pending (s : State) : s.popReply.pending = s.pending := rfl
@[simp] theorem State.popReply_mem (s : State) : s.popReply.mem = s.mem := rfl
@[simp] theorem State.popReply_pins (s : State) : s.popReply.pins = s.pins := rfl
@[simp] theorem State.popReply_path (s : State) : s.popReply.path = s.path := rfl
@[simp] theorem State.popReply_classifier (s : State) : s.popReply.classifier = s.classifier := rfl
@[simp] theorem State.popReply_intake (s : State) : s.popReply.intake = s.intake := rfl
@[simp] theorem State.popReply_pool (s : State) : s.popReply.pool = s.pool := rfl
@[simp] theorem State.popReply_linkTable (s : State) : s.popReply.linkTable = { s.linkTable with pendingReplies := s.linkTable.pendingReplies.tail } := rfl
@[simp] theorem State.popReply_routes (s : State) : s.popReply.routes = s.routes := rfl
@[simp] theorem State.popReply_sched (s : State) : s.popReply.sched = s.sched := rfl
@[simp] theorem State.popReply_completion (s : State) : s.popReply.completion = s.completion := rfl
@[simp] theorem State.popReply_timing (s : State) : s.popReply.timing = s.timing := rfl
@[simp] theorem State.popReply_command (s : State) : s.popReply.command = s.command := rfl
@[simp] theorem State.popReply_reports (s : State) : s.popReply.reports = s.reports := rfl
@[simp] theorem State.popReply_work (s : State) : s.popReply.work = s.work := rfl
@[simp] theorem State.popReply_freeIndex (s : State) : s.popReply.freeIndex = s.freeIndex := rfl

/-! ### Updates that touch two fields, or one through a test -/

@[simp] theorem State.commandRead_pending (s : State) : s.commandRead.pending = s.pending := rfl
@[simp] theorem State.commandRead_mem (s : State) : s.commandRead.mem = s.mem := rfl
@[simp] theorem State.commandRead_pins (s : State) : s.commandRead.pins = s.pins := rfl
@[simp] theorem State.commandRead_path (s : State) : s.commandRead.path = s.path.fill (s.path.queue.tail ++ s.path.tails) := rfl
@[simp] theorem State.commandRead_classifier (s : State) : s.commandRead.classifier = s.classifier := rfl
@[simp] theorem State.commandRead_intake (s : State) : s.commandRead.intake = s.intake := rfl
@[simp] theorem State.commandRead_pool (s : State) : s.commandRead.pool = s.pool := rfl
@[simp] theorem State.commandRead_linkTable (s : State) : s.commandRead.linkTable = s.linkTable := rfl
@[simp] theorem State.commandRead_routes (s : State) : s.commandRead.routes = s.routes := rfl
@[simp] theorem State.commandRead_sched (s : State) : s.commandRead.sched = s.sched := rfl
@[simp] theorem State.commandRead_completion (s : State) : s.commandRead.completion = s.completion := rfl
@[simp] theorem State.commandRead_timing (s : State) : s.commandRead.timing = s.timing := rfl
@[simp] theorem State.commandRead_reports (s : State) : s.commandRead.reports = s.reports := rfl
@[simp] theorem State.commandRead_work (s : State) : s.commandRead.work = s.work := rfl
@[simp] theorem State.commandRead_freeIndex (s : State) : s.commandRead.freeIndex = s.freeIndex := rfl
@[simp] theorem State.commandRead_stage (s : State) : s.commandRead.command.stage = s.command.stage := rfl
@[simp] theorem State.commandRead_post (s : State) : s.commandRead.command.post = s.command.post := rfl

@[simp] theorem State.setMark_pending (s : State) (p : Nat) (m : Mark) : (s.setMark p m).pending = s.pending := by
  unfold State.setMark; split <;> rfl
@[simp] theorem State.setMark_mem (s : State) (p : Nat) (m : Mark) : (s.setMark p m).mem = s.mem := by
  unfold State.setMark; split <;> rfl
@[simp] theorem State.setMark_pins (s : State) (p : Nat) (m : Mark) : (s.setMark p m).pins = s.pins := by
  unfold State.setMark; split <;> rfl
@[simp] theorem State.setMark_classifier (s : State) (p : Nat) (m : Mark) : (s.setMark p m).classifier = s.classifier := by
  unfold State.setMark; split <;> rfl
@[simp] theorem State.setMark_intake (s : State) (p : Nat) (m : Mark) : (s.setMark p m).intake = s.intake := by
  unfold State.setMark; split <;> rfl
@[simp] theorem State.setMark_pool (s : State) (p : Nat) (m : Mark) : (s.setMark p m).pool = s.pool := by
  unfold State.setMark; split <;> rfl
@[simp] theorem State.setMark_linkTable (s : State) (p : Nat) (m : Mark) : (s.setMark p m).linkTable = s.linkTable := by
  unfold State.setMark; split <;> rfl
@[simp] theorem State.setMark_routes (s : State) (p : Nat) (m : Mark) : (s.setMark p m).routes = s.routes := by
  unfold State.setMark; split <;> rfl
@[simp] theorem State.setMark_sched (s : State) (p : Nat) (m : Mark) : (s.setMark p m).sched = s.sched := by
  unfold State.setMark; split <;> rfl
@[simp] theorem State.setMark_completion (s : State) (p : Nat) (m : Mark) : (s.setMark p m).completion = s.completion := by
  unfold State.setMark; split <;> rfl
@[simp] theorem State.setMark_timing (s : State) (p : Nat) (m : Mark) : (s.setMark p m).timing = s.timing := by
  unfold State.setMark; split <;> rfl
@[simp] theorem State.setMark_command (s : State) (p : Nat) (m : Mark) : (s.setMark p m).command = s.command := by
  unfold State.setMark; split <;> rfl
@[simp] theorem State.setMark_reports (s : State) (p : Nat) (m : Mark) : (s.setMark p m).reports = s.reports := by
  unfold State.setMark; split <;> rfl
@[simp] theorem State.setMark_work (s : State) (p : Nat) (m : Mark) : (s.setMark p m).work = s.work := by
  unfold State.setMark; split <;> rfl
@[simp] theorem State.setMark_freeIndex (s : State) (p : Nat) (m : Mark) : (s.setMark p m).freeIndex = s.freeIndex := by
  unfold State.setMark; split <;> rfl
@[simp] theorem State.setMark_path_engine (s : State) (p : Nat) (m : Mark) :
    (s.setMark p m).path.engine = s.path.engine := by
  unfold State.setMark; split <;> rfl
@[simp] theorem State.setMark_path_ownId (s : State) (p : Nat) (m : Mark) :
    (s.setMark p m).path.ownId = s.path.ownId := by
  unfold State.setMark; split <;> rfl
@[simp] theorem State.setMark_path_windows (s : State) (p : Nat) (m : Mark) :
    (s.setMark p m).path.windows = s.path.windows := by
  unfold State.setMark; split <;> rfl
@[simp] theorem State.setMark_path_slot (s : State) (p : Nat) (m : Mark) :
    (s.setMark p m).path.slot = s.path.slot := by
  unfold State.setMark; split <;> rfl
@[simp] theorem State.setMark_path_waiting (s : State) (p : Nat) (m : Mark) :
    (s.setMark p m).path.waiting = s.path.waiting := by
  unfold State.setMark; split <;> rfl
@[simp] theorem State.setMark_path_holdBudget (s : State) (p : Nat) (m : Mark) :
    (s.setMark p m).path.holdBudget = s.path.holdBudget := by
  unfold State.setMark; split <;> rfl
@[simp] theorem State.setMark_path_queue (s : State) (p : Nat) (m : Mark) :
    (s.setMark p m).path.queue = s.path.queue := by
  unfold State.setMark; split <;> rfl
@[simp] theorem State.setMark_path_tails (s : State) (p : Nat) (m : Mark) :
    (s.setMark p m).path.tails = s.path.tails := by
  unfold State.setMark; split <;> rfl
@[simp] theorem State.setMark_path_staging (s : State) (p : Nat) (m : Mark) :
    (s.setMark p m).path.staging = s.path.staging := by
  unfold State.setMark; split <;> rfl

@[simp] theorem State.setTiming_pending (s : State) (t : TimingState) : (s.setTiming t).pending = s.pending := rfl
@[simp] theorem State.setTiming_mem (s : State) (t : TimingState) : (s.setTiming t).mem = s.mem := rfl
@[simp] theorem State.setTiming_pins (s : State) (t : TimingState) : (s.setTiming t).pins = s.pins := rfl
@[simp] theorem State.setTiming_path (s : State) (t : TimingState) : (s.setTiming t).path = s.path := rfl
@[simp] theorem State.setTiming_classifier (s : State) (t : TimingState) : (s.setTiming t).classifier = s.classifier := rfl
@[simp] theorem State.setTiming_intake (s : State) (t : TimingState) : (s.setTiming t).intake = s.intake := rfl
@[simp] theorem State.setTiming_pool (s : State) (t : TimingState) : (s.setTiming t).pool = s.pool := rfl
@[simp] theorem State.setTiming_linkTable (s : State) (t : TimingState) : (s.setTiming t).linkTable = s.linkTable := rfl
@[simp] theorem State.setTiming_routes (s : State) (t : TimingState) : (s.setTiming t).routes = s.routes := rfl
@[simp] theorem State.setTiming_sched (s : State) (t : TimingState) : (s.setTiming t).sched = s.sched := rfl
@[simp] theorem State.setTiming_completion (s : State) (t : TimingState) : (s.setTiming t).completion = s.completion := rfl
@[simp] theorem State.setTiming_command (s : State) (t : TimingState) : (s.setTiming t).command = s.command := rfl
@[simp] theorem State.setTiming_work (s : State) (t : TimingState) : (s.setTiming t).work = s.work := rfl
@[simp] theorem State.setTiming_freeIndex (s : State) (t : TimingState) : (s.setTiming t).freeIndex = s.freeIndex := rfl
@[simp] theorem State.setTiming_state (s : State) (t : TimingState) : (s.setTiming t).timing.state = t := rfl
@[simp] theorem State.setTiming_latch (s : State) (t : TimingState) :
    (s.setTiming t).reports.timingLatch = some ⟨t⟩ := rfl

@[simp] theorem State.elapse_pending (s : State) (d : Nat) : (s.elapse d).pending = s.pending := rfl
@[simp] theorem State.elapse_mem (s : State) (d : Nat) : (s.elapse d).mem = s.mem := rfl
@[simp] theorem State.elapse_pins (s : State) (d : Nat) : (s.elapse d).pins = { s.pins with sfs := s.pins.sfs.drop d } := rfl
@[simp] theorem State.elapse_path (s : State) (d : Nat) : (s.elapse d).path = s.path.pass d := rfl
@[simp] theorem State.elapse_classifier (s : State) (d : Nat) : (s.elapse d).classifier = if s.path.expires d then .idle else s.classifier := rfl
@[simp] theorem State.elapse_timing (s : State) (d : Nat) : (s.elapse d).timing = { s.timing with timebase := s.timing.timebase + d } := rfl
@[simp] theorem State.elapse_intake (s : State) (d : Nat) : (s.elapse d).intake = s.intake := rfl
@[simp] theorem State.elapse_pool (s : State) (d : Nat) : (s.elapse d).pool = s.pool := rfl
@[simp] theorem State.elapse_linkTable (s : State) (d : Nat) : (s.elapse d).linkTable = s.linkTable := rfl
@[simp] theorem State.elapse_routes (s : State) (d : Nat) : (s.elapse d).routes = s.routes := rfl
@[simp] theorem State.elapse_sched (s : State) (d : Nat) : (s.elapse d).sched = s.sched := rfl
@[simp] theorem State.elapse_completion (s : State) (d : Nat) : (s.elapse d).completion = s.completion := rfl
@[simp] theorem State.elapse_command (s : State) (d : Nat) : (s.elapse d).command = s.command := rfl
@[simp] theorem State.elapse_reports (s : State) (d : Nat) : (s.elapse d).reports = s.reports := rfl
@[simp] theorem State.elapse_work (s : State) (d : Nat) : (s.elapse d).work = s.work := rfl
@[simp] theorem State.elapse_freeIndex (s : State) (d : Nat) : (s.elapse d).freeIndex = s.freeIndex := rfl

@[simp] theorem State.abandon_pending (s : State) : (s.abandon).pending = s.pending := rfl
@[simp] theorem State.abandon_mem (s : State) : (s.abandon).mem = s.mem := rfl
@[simp] theorem State.abandon_pins (s : State) : (s.abandon).pins = s.pins := rfl
@[simp] theorem State.abandon_path (s : State) : (s.abandon).path = s.path.abandon := rfl
@[simp] theorem State.abandon_classifier (s : State) : (s.abandon).classifier = .idle := rfl
@[simp] theorem State.abandon_intake (s : State) : (s.abandon).intake = s.intake := rfl
@[simp] theorem State.abandon_pool (s : State) : (s.abandon).pool = s.pool := rfl
@[simp] theorem State.abandon_linkTable (s : State) : (s.abandon).linkTable = s.linkTable := rfl
@[simp] theorem State.abandon_routes (s : State) : (s.abandon).routes = s.routes := rfl
@[simp] theorem State.abandon_sched (s : State) : (s.abandon).sched = s.sched := rfl
@[simp] theorem State.abandon_completion (s : State) : (s.abandon).completion = s.completion := rfl
@[simp] theorem State.abandon_timing (s : State) : (s.abandon).timing = s.timing := rfl
@[simp] theorem State.abandon_command (s : State) : (s.abandon).command = s.command := rfl
@[simp] theorem State.abandon_reports (s : State) : (s.abandon).reports = s.reports := rfl
@[simp] theorem State.abandon_work (s : State) : (s.abandon).work = s.work := rfl
@[simp] theorem State.abandon_freeIndex (s : State) : (s.abandon).freeIndex = s.freeIndex := rfl

@[simp] theorem State.takeRecord_pending (s : State) (bs : List Byte) : (s.takeRecord bs).pending = s.pending := rfl
@[simp] theorem State.takeRecord_mem (s : State) (bs : List Byte) : (s.takeRecord bs).mem = s.mem := rfl
@[simp] theorem State.takeRecord_pins (s : State) (bs : List Byte) : (s.takeRecord bs).pins = s.pins := rfl
@[simp] theorem State.takeRecord_path (s : State) (bs : List Byte) : (s.takeRecord bs).path = s.path := rfl
@[simp] theorem State.takeRecord_classifier (s : State) (bs : List Byte) : (s.takeRecord bs).classifier = s.classifier := rfl
@[simp] theorem State.takeRecord_intake (s : State) (bs : List Byte) : (s.takeRecord bs).intake = s.intake := rfl
@[simp] theorem State.takeRecord_pool (s : State) (bs : List Byte) : (s.takeRecord bs).pool = s.pool := rfl
@[simp] theorem State.takeRecord_linkTable (s : State) (bs : List Byte) : (s.takeRecord bs).linkTable = s.linkTable := rfl
@[simp] theorem State.takeRecord_routes (s : State) (bs : List Byte) : (s.takeRecord bs).routes = s.routes := rfl
@[simp] theorem State.takeRecord_sched (s : State) (bs : List Byte) : (s.takeRecord bs).sched = s.sched := rfl
@[simp] theorem State.takeRecord_completion (s : State) (bs : List Byte) : (s.takeRecord bs).completion = s.completion := rfl
@[simp] theorem State.takeRecord_timing (s : State) (bs : List Byte) : (s.takeRecord bs).timing = s.timing := rfl
@[simp] theorem State.takeRecord_command (s : State) (bs : List Byte) : (s.takeRecord bs).command = { s.advanceConsumer.command with args := bs.drop 4 } := rfl
@[simp] theorem State.takeRecord_reports (s : State) (bs : List Byte) : (s.takeRecord bs).reports = s.reports := rfl
@[simp] theorem State.takeRecord_work (s : State) (bs : List Byte) : (s.takeRecord bs).work = s.work := rfl
@[simp] theorem State.takeRecord_freeIndex (s : State) (bs : List Byte) : (s.takeRecord bs).freeIndex = s.freeIndex := rfl

/-! ### The Memory Path's record -/

@[simp] theorem MemoryPath.abandon_engine (p : MemoryPath) : p.abandon.engine = p.engine := rfl
@[simp] theorem MemoryPath.abandon_ownId (p : MemoryPath) : p.abandon.ownId = p.ownId := rfl
@[simp] theorem MemoryPath.abandon_windows (p : MemoryPath) : p.abandon.windows = p.windows := rfl
@[simp] theorem MemoryPath.abandon_slot (p : MemoryPath) : p.abandon.slot = p.slot := rfl
@[simp] theorem MemoryPath.abandon_waiting (p : MemoryPath) : p.abandon.waiting = p.waiting := rfl
@[simp] theorem MemoryPath.abandon_holdBudget (p : MemoryPath) : p.abandon.holdBudget = p.holdBudget := rfl
@[simp] theorem MemoryPath.abandon_queue (p : MemoryPath) : p.abandon.queue = p.queue.map Injected.orphan := rfl
@[simp] theorem MemoryPath.abandon_tails (p : MemoryPath) : p.abandon.tails = p.tails.filter fun x => !x.ofClassifier := rfl
@[simp] theorem MemoryPath.abandon_marks (p : MemoryPath) : p.abandon.marks = p.marks := rfl
@[simp] theorem MemoryPath.abandon_staging (p : MemoryPath) : p.abandon.staging = p.staging := rfl

@[simp] theorem MemoryPath.fill_engine (p : MemoryPath) (xs : List Injected) : (p.fill xs).engine = p.engine := rfl
@[simp] theorem MemoryPath.fill_ownId (p : MemoryPath) (xs : List Injected) : (p.fill xs).ownId = p.ownId := rfl
@[simp] theorem MemoryPath.fill_windows (p : MemoryPath) (xs : List Injected) : (p.fill xs).windows = p.windows := rfl
@[simp] theorem MemoryPath.fill_slot (p : MemoryPath) (xs : List Injected) : (p.fill xs).slot = p.slot := rfl
@[simp] theorem MemoryPath.fill_waiting (p : MemoryPath) (xs : List Injected) : (p.fill xs).waiting = p.waiting := rfl
@[simp] theorem MemoryPath.fill_holdBudget (p : MemoryPath) (xs : List Injected) : (p.fill xs).holdBudget = p.holdBudget := rfl
@[simp] theorem MemoryPath.fill_marks (p : MemoryPath) (xs : List Injected) : (p.fill xs).marks = p.marks := rfl
@[simp] theorem MemoryPath.fill_staging (p : MemoryPath) (xs : List Injected) : (p.fill xs).staging = p.staging := rfl
@[simp] theorem MemoryPath.fill_queue (p : MemoryPath) (xs : List Injected) :
    (p.fill xs).queue = xs.take 16 := rfl
@[simp] theorem MemoryPath.fill_tails (p : MemoryPath) (xs : List Injected) :
    (p.fill xs).tails = xs.drop 16 := rfl

end Sys2Proof.Machine
end

