-- ==== Sys2Proof/Laws/Ops.lean ====
section
/-!
SUPPORT. What each shared operation does, once: the step, settling, the injection queue, the port, the accesses
of the system side, the reading of a command, and the carrying out of a consequence.
-/

namespace Sys2Proof.Machine

/-! ### The step -/

/-- A step with a command in front runs it on the state with the rest of the queue. -/
theorem step_cons {s : State} {c : Instr} {rest : List Instr} (h : s.pending = c :: rest) :
    step s = exec c { s with pending := rest } := by
  simp [step, h]

/-- A step on an empty queue lets time pass. -/
theorem step_nil {s : State} (h : s.pending = []) : step s = .next s.idle := by
  simp [step, h]

/-! ### Settling -/

theorem State.quiet_iff {s : State} : s.quiet = true ↔ s.work = [] ∧ s.quiesceDone = false := by
  simp [State.quiet, List.isEmpty_iff]

theorem State.finishWork_of_nil {s : State} (h : s.work = []) : s.finishWork = s := by
  cases s; cases h; rfl

/-- A quiet state is settled as it stands. -/
theorem State.settle_of_quiet {s : State} (h : s.quiet = true) : s.settle = s := by
  obtain ⟨hw, hq⟩ := State.quiet_iff.mp h
  simp [State.settle, State.finishWork_of_nil hw, hq]

/-- Outside QUIESCING no quiesce is about to end. -/
theorem State.quiesceDone_of_not {s : State} (h : s.isQuiescing = false) : s.quiesceDone = false := by
  simp [State.quiesceDone, h]

theorem State.quiet_of_running {s : State} (h : s.path.engine = .running) (hw : s.work = []) :
    s.quiet = true := by
  simp [State.quiet, hw, State.quiesceDone, State.isQuiescing, h]

theorem State.quiet_of_unanchored {s : State} (h : s.path.engine = .unanchored) (hw : s.work = []) :
    s.quiet = true := by
  simp [State.quiet, hw, State.quiesceDone, State.isQuiescing, h]

/-! ### The injection queue -/

theorem State.queueFull_iff {s : State} : s.queueFull = true ↔ 16 ≤ s.path.queue.length := by
  exact decide_eq_true_iff

/-- What is issued while there is room enters the queue at once. -/
theorem State.issue_queue_of_room {s : State} {xs : List Injected} (ht : s.path.tails = [])
    (h : s.path.queue.length + xs.length ≤ 16) : (s.issue xs).path.queue = s.path.queue ++ xs := by
  simp only [State.issue_path, MemoryPath.fill_queue, ht, List.append_nil]
  exact List.take_of_length_le (by simpa using h)

theorem State.issue_tails_of_room {s : State} {xs : List Injected} (ht : s.path.tails = [])
    (h : s.path.queue.length + xs.length ≤ 16) : (s.issue xs).path.tails = [] := by
  simp only [State.issue_path, MemoryPath.fill_tails, ht, List.append_nil]
  exact List.drop_of_length_le (by simpa using h)

/-- The queue never holds more than 16 accesses, and a tail is kept only while it is full. -/
theorem MemoryPath.fill_queueOk (p : MemoryPath) (xs : List Injected) : (p.fill xs).queueOk = true := by
  by_cases h : xs.length ≤ 16 <;>
    simp [MemoryPath.queueOk, Config.injectionEntries, List.isEmpty_iff] <;> omega

/-- Filling the queue keeps the accesses that are to be injected, in their order. -/
theorem MemoryPath.fill_all (p : MemoryPath) (xs : List Injected) :
    (p.fill xs).queue ++ (p.fill xs).tails = xs := List.take_append_drop _ _

/-- The head of the queue is the first of the accesses that are dropped. -/
theorem State.dropHead_dropHeads {s : State} (k : Nat) (h : s.path.queue ≠ []) :
    s.dropHead.dropHeads k = s.dropHeads (k + 1) := by
  cases hq : s.path.queue with
  | nil => exact absurd hq h
  | cons x xs =>
    have ha := MemoryPath.fill_all s.path (xs ++ s.path.tails)
    simp only [State.dropHeads, State.dropHead, hq, List.tail_cons, ha]
    simp [MemoryPath.fill]

/-- Dropping one access is dropping the head. -/
theorem State.dropHeads_one {s : State} (h : s.path.queue ≠ []) : s.dropHeads 1 = s.dropHead := by
  cases hq : s.path.queue with
  | nil => exact absurd hq h
  | cons x xs => simp [State.dropHeads, State.dropHead, hq]

@[simp] theorem readAccessesAux_length (who : Reader) (run : List ReadPiece) :
    (readAccessesAux who run).length = run.length := by
  induction run with
  | nil => rfl
  | cons p ps ih =>
    cases ps with
    | nil => rfl
    | cons q qs => simpa [readAccessesAux] using ih

@[simp] theorem memAfter_nil (m : Memory) : memAfter m [] = m := rfl
@[simp] theorem memAfter_write (m : Memory) (b : Nat) (e : List Byte) (xs : List Access) :
    memAfter m (.write b e :: xs) = memAfter (memWrite m b e) xs := rfl
@[simp] theorem memAfter_read (m : Memory) (b n : Nat) (xs : List Access) :
    memAfter m (.read b n :: xs) = memAfter m xs := rfl

theorem MemoryPath.queueOk_iff {p : MemoryPath} :
    p.queueOk = true ↔ p.queue.length ≤ 16 ∧ (p.tails = [] ∨ p.queue.length = 16) := by
  unfold MemoryPath.queueOk Config.injectionEntries
  rw [Bool.and_eq_true, Bool.or_eq_true, decide_eq_true_iff, List.isEmpty_iff, beq_iff_eq]

/-! ### The port -/

/-- The port takes a read whose issuer waits: the answer is handed over. -/
theorem State.takeHead_read {s : State} {who : Reader} {a n k t : Nat} {last : Bool} {rest : List Injected}
    (h : s.path.queue = .read who a n k t last true :: rest) :
    s.takeHead = s.dropHead.answered who (s.answerBytes a n k t) last := by
  simp [State.takeHead, h]

/-- The port takes a read whose issuer is gone: the answer is discarded. -/
theorem State.takeHead_stale {s : State} {who : Reader} {a n k t : Nat} {last : Bool} {rest : List Injected}
    (h : s.path.queue = .read who a n k t last false :: rest) : s.takeHead = s.dropHead := by
  simp [State.takeHead, h]

/-- The port takes a write. -/
theorem State.takeHead_write {s : State} {what : Writer} {a : Nat} {d : List Byte} {rest : List Injected}
    (h : s.path.queue = .write what a d :: rest) : s.takeHead = s.dropHead.writeTaken what a d := by
  simp [State.takeHead, h]

/-- With a place free in the queue a passing access takes the port at once. -/
theorem State.yieldPort_of_room {s : State} (h : s.queueFull = false) : s.yieldPort = s := by
  unfold State.yieldPort
  cases s.path.queue.length + s.path.tails.length + 512 <;> simp [State.yieldFor, h]

/-- As many heads are taken as find the queue full. -/
theorem State.yieldFor_iterate {fuel k : Nat} {s : State} (hk : k ≤ fuel)
    (hf : ∀ i, i < k → (Nat.iterate State.takeHead i s).queueFull = true)
    (hn : (Nat.iterate State.takeHead k s).queueFull = false) :
    State.yieldFor fuel s = Nat.iterate State.takeHead k s := by
  induction k generalizing s fuel with
  | zero => cases fuel <;> simp_all [State.yieldFor]
  | succ k ih =>
    obtain ⟨fuel, rfl⟩ := Nat.exists_eq_add_of_le' hk
    have h0 : s.queueFull = true := hf 0 (Nat.succ_pos k)
    rw [← Nat.add_assoc, State.yieldFor, if_pos h0]
    exact ih (by omega) (fun i hi => hf (i + 1) (by omega)) hn

/-- The same at the port, which has fuel for 512 heads and more. -/
theorem State.yieldPort_iterate {k : Nat} {s : State} (hk : k ≤ 512)
    (hf : ∀ i, i < k → (Nat.iterate State.takeHead i s).queueFull = true)
    (hn : (Nat.iterate State.takeHead k s).queueFull = false) :
    s.yieldPort = Nat.iterate State.takeHead k s :=
  State.yieldFor_iterate (by omega) hf hn

/-! ### The passing of time -/

/-- With no decision in progress the Memory Path does not feel the time. -/
theorem MemoryPath.pass_of_not {p : MemoryPath} {d : Nat} (h : ∀ a r t, p.slot ≠ .deciding a r t) :
    p.pass d = p ∧ p.expires d = false := by
  unfold MemoryPath.pass MemoryPath.expires
  constructor <;> split <;> simp_all

/-- A hold budget that is not used up falls. -/
theorem MemoryPath.pass_of_lt {p : MemoryPath} {a t d : Nat} {r : List Byte} (h : p.slot = .deciding a r t)
    (hd : d < t) : p.pass d = { p with slot := .deciding a r (t - d) } ∧ p.expires d = false := by
  simp [MemoryPath.pass, MemoryPath.expires, h, Nat.not_le.mpr hd]

/-- A hold budget that is used up releases the held write and abandons the decision. -/
theorem MemoryPath.pass_of_le {p : MemoryPath} {a t d : Nat} {r : List Byte} (h : p.slot = .deciding a r t)
    (hd : t ≤ d) : p.pass d = MemoryPath.abandon { p with slot := .released a r } ∧ p.expires d = true := by
  simp [MemoryPath.pass, MemoryPath.expires, h, hd]

/-! ### System-side accesses -/

/-- Nothing waits: nothing proceeds. -/
theorem State.proceed_nil {s : State} (h : s.path.waiting = []) : s.proceed = s := by
  simp [State.proceed, h, State.proceedFor]

theorem State.pathFree_iff {s : State} : s.pathFree = true ↔ s.path.slot = .empty ∧ s.path.waiting = [] := by
  simp [State.pathFree, List.isEmpty_iff]

/-- On a free path an access has its turn at once. -/
theorem State.access_of_free {s : State} (x : Access) (h : s.pathFree = true) :
    s.access x = (s.takeAccess x).proceed := by
  obtain ⟨hs, hw⟩ := State.pathFree_iff.mp h
  cases x <;> simp [State.access, State.mustWait, hs, hw, HeldSlot.range, overlaps]

/-- A write behind a held write waits. -/
theorem State.access_write_of_held {s : State} (a : Nat) (d : List Byte) (h : s.path.slot ≠ .empty) :
    s.access (.write a d) = { s with path := { s.path with waiting := s.path.waiting ++ [.write a d] } } := by
  simp [State.access, State.mustWait, h]

/-! ### Commands -/

/-- The row of the command that is read carries its effect out. -/
theorem State.onCommand_read {s : State} {c : Instr} (effect : State → State)
    (h : s.fetchedCommand = some c) : s.onCommand c effect = effect s.commandRead := by
  simp [State.onCommand, h]

/-- Any other software command's row changes nothing. -/
theorem State.onCommand_other {s : State} {c : Instr} (effect : State → State)
    (h : s.fetchedCommand ≠ some c) : s.onCommand c effect = s := by
  simp [State.onCommand, h]

theorem linkArg_some {b : Byte} {n : LinkIx} : linkArg b = some n ↔ b.toNat = n.val := by
  unfold linkArg index?
  split
  · simp only [Option.some.injEq]
    constructor
    · rintro rfl; rfl
    · intro h; exact Fin.ext h
  · rename_i h
    simp only [reduceCtorEq, false_iff]
    omega

theorem linkArg_none {b : Byte} : linkArg b = none ↔ 15 < b.toNat := by
  unfold linkArg index?
  split <;> simp <;> omega

/-! ### Consequences -/

/-- A consequence of the kind asked for at the head of the work is carried out, and the work goes on. -/
theorem State.resolve_head {s : State} {c : Consequence} {ws : List Work} {kind : Consequence → Bool}
    (h : s.work = .due c :: ws) (hk : kind c = true) : s.resolve kind = State.advance ws (s.perform c) := by
  simp [State.resolve, h, hk]

/-- When the next piece of work is a consequence, it waits for its own row. -/
theorem State.advance_due (s : State) (c : Consequence) (ws : List Work) :
    State.advance (.due c :: ws) s = { s with work := .due c :: ws } := rfl

/-- When no work is left, the event is over. -/
theorem State.advance_nil (s : State) : State.advance [] s = { s with work := [] } := rfl

/-! ### The Local Intake and the Route Table -/

/-- R20: the signal of a fall of link `n`'s queued count reaches the Intake's stage and nothing else. -/
theorem State.signalIntake_eq (s : State) (n : LinkIx) :
    s.signalIntake n = { s with intake := { s.intake with stage := s.intake.stage.afterFall n } } := by
  rcases hs : s.intake with ⟨i, p, g⟩
  have h : s = { s with intake := ⟨i, p, g⟩ } := by rw [← hs]
  cases g with
  | stalled e hd m b =>
    by_cases hm : m = n
    · simp [State.signalIntake, IntakeStage.afterFall, hs, hm]
    · simpa [State.signalIntake, IntakeStage.afterFall, hs, hm, beq_eq_false_iff_ne.mpr hm] using h
  | _ => simpa [State.signalIntake, IntakeStage.afterFall, hs] using h

/-- A second signal of the same link says nothing new. -/
@[simp] theorem IntakeStage.afterFall_afterFall (g : IntakeStage) (n : LinkIx) :
    (g.afterFall n).afterFall n = g.afterFall n := by
  cases g <;> simp [IntakeStage.afterFall]

/-- R103: what the notice that link `n` is unusable does to the Route Table. -/
theorem RouteTable.linkDropped_dropLink (rt : RouteTable) (n : LinkIx) : rt.LinkDropped (rt.dropLink n) n := by
  have he : ∀ p, (rt.dropLink n).entry p = (rt.entry p).map fun e => ⟨e.dest, e.body.dropLink n⟩ := fun p => by
    simp [RouteTable.entry, RouteTable.dropLink]
  constructor
  · intro p d st h q sq age hp hn; simp [he, hp, RouteBody.dropLink, hn]
  · intro p d st h sq age hp hn; simp [he, hp, RouteBody.dropLink, hn, RouteBody.poison, Config.poisonCount]
  · intro p d st h q sq age hp hh hn; simp [he, hp, RouteBody.dropLink, hn, hh]
  · intro p d st h x sq age hp hh hx
    cases x with
    | none => simp [he, hp, RouteBody.dropLink, hh]
    | some q => simp [he, hp, RouteBody.dropLink, hh, hx q rfl]
  · rintro p (hp | ⟨d, h, hp⟩ | ⟨d, sq, age, k, hp⟩) <;> simp [he, hp, RouteBody.dropLink]
  · rfl

/-- R106: what a beacon does to the entry at a position. -/
theorem RouteTable.afterBeacon_entry (rt : RouteTable) (p : RoutePos) :
    rt.afterBeacon.entry p =
      if p ∈ rt.chosen then (rt.entry p).map fun e => ⟨e.dest, e.body.countDown⟩ else rt.entry p := by
  simp [RouteTable.entry, RouteTable.afterBeacon]

/-! ### The anchor commit -/

/-- R165: a commit leaves no injected access queued. -/
@[simp] theorem MemoryPath.committed_queue (p : MemoryPath) : p.committed.queue = [] := rfl

/-- R165: nor one that waits for the queue. -/
@[simp] theorem MemoryPath.committed_tails (p : MemoryPath) : p.committed.tails = [] := rfl

/-! ### Small ones -/

theorem clamp_le {lo hi n : Nat} (h : lo ≤ hi) : clamp lo hi n ≤ hi := by
  unfold clamp; omega

theorem le_clamp {lo hi n : Nat} : lo ≤ clamp lo hi n := by
  unfold clamp; omega

theorem clamp_of_mem {lo hi n : Nat} (h₁ : lo ≤ n) (h₂ : n ≤ hi) : clamp lo hi n = n := by
  unfold clamp; omega

end Sys2Proof.Machine
end

