-- ==== Sys2Proof/Laws/Frame.lean ====
section
/-!
SUPPORT. The frame of the operations of the Frame Pool and the Link Table: whatever they move, release or
re-evaluate, and whatever state a link takes, they change the pool, the Link Table, the Route Table, the Timing
Unit, the Intake's stage and the latch of TIMING notices, and nothing else.
-/

namespace Sys2Proof.Machine

/-- `t` differs from `s` at most in what the operations of the pool and of the links change. -/
structure Inner (s t : State) : Prop where
  pending : t.pending = s.pending
  mem : t.mem = s.mem
  pins : t.pins = s.pins
  path : t.path = s.path
  classifier : t.classifier = s.classifier
  intakeIndex : t.intake.index = s.intake.index
  intakePost : t.intake.post = s.intake.post
  sched : t.sched = s.sched
  completion : t.completion = s.completion
  command : t.command = s.command
  producer : t.reports.producer = s.reports.producer
  phase : t.reports.phase = s.reports.phase
  consumed : t.reports.consumed = s.reports.consumed
  planLatch : t.reports.planLatch = s.reports.planLatch
  intEnable : t.reports.intEnable = s.reports.intEnable
  chosen : t.reports.chosen = s.reports.chosen
  work : t.work = s.work
  freeIndex : t.freeIndex = s.freeIndex

namespace Inner

theorem refl (s : State) : Inner s s := by constructor <;> rfl

theorem trans {s t u : State} (h : Inner s t) (k : Inner t u) : Inner s u where
  pending := k.pending.trans h.pending
  mem := k.mem.trans h.mem
  pins := k.pins.trans h.pins
  path := k.path.trans h.path
  classifier := k.classifier.trans h.classifier
  intakeIndex := k.intakeIndex.trans h.intakeIndex
  intakePost := k.intakePost.trans h.intakePost
  sched := k.sched.trans h.sched
  completion := k.completion.trans h.completion
  command := k.command.trans h.command
  producer := k.producer.trans h.producer
  phase := k.phase.trans h.phase
  consumed := k.consumed.trans h.consumed
  planLatch := k.planLatch.trans h.planLatch
  intEnable := k.intEnable.trans h.intEnable
  chosen := k.chosen.trans h.chosen
  work := k.work.trans h.work
  freeIndex := k.freeIndex.trans h.freeIndex

/-- The frame as one equation. -/
theorem eq {s t : State} (h : Inner s t) :
    t = { s with
      pool := t.pool
      linkTable := t.linkTable
      routes := t.routes
      timing := t.timing
      intake := { s.intake with stage := t.intake.stage }
      reports := { s.reports with timingLatch := t.reports.timingLatch } } := by
  obtain ⟨_, _, _, _, _, ⟨_, _, _⟩, _, _, _, _, _, _, _, ⟨_, _, _, _, _, _, _⟩, _, _⟩ := s
  obtain ⟨_, _, _, _, _, ⟨_, _, _⟩, _, _, _, _, _, _, _, ⟨_, _, _, _, _, _, _⟩, _, _⟩ := t
  obtain ⟨h1, h2, h3, h4, h5, h6, h7, h8, h9, h10, h11, h12, h13, h14, h15, h16, h17, h18⟩ := h
  simp only at h1 h2 h3 h4 h5 h6 h7 h8 h9 h10 h11 h12 h13 h14 h15 h16 h17 h18
  subst h1 h2 h3 h4 h5 h6 h7 h8 h9 h10 h11 h12 h13 h14 h15 h16 h17 h18
  rfl

/-- A fold of operations keeps the frame. -/
theorem foldl {α : Type} {f : State → α → State} (hf : ∀ s a, Inner s (f s a)) (l : List α) (s : State) :
    Inner s (l.foldl f s) := by
  induction l generalizing s with
  | nil => exact refl s
  | cons a l ih => exact (hf s a).trans (ih (f s a))

end Inner

/-! ### Updates of one field -/

theorem Inner.setLink (s : State) (n : LinkIx) (l : LinkRec) : Inner s (s.setLink n l) := by constructor <;> rfl
theorem Inner.setFrame (s : State) (t : Tag) (f : Option Frame) : Inner s (s.setFrame t f) := by
  constructor <;> rfl
theorem Inner.setQueues (s : State) (n : LinkIx) (q : ClassQueues) : Inner s (s.setQueues n q) := by
  constructor <;> rfl
theorem Inner.unqueue (s : State) (n : LinkIx) (t : Tag) : Inner s (s.unqueue n t) := Inner.setQueues _ _ _
theorem Inner.unhold (s : State) (t : Tag) : Inner s (s.unhold t) := by constructor <;> rfl
theorem Inner.pushHead (s : State) (n : LinkIx) (c : TrafficClass) (t : Tag) : Inner s (s.pushHead n c t) :=
  Inner.setQueues _ _ _
theorem Inner.pushTail (s : State) (n : LinkIx) (c : TrafficClass) (t : Tag) : Inner s (s.pushTail n c t) :=
  Inner.setQueues _ _ _
theorem Inner.pushHeld (s : State) (t : Tag) : Inner s (s.pushHeld t) := by constructor <;> rfl
theorem Inner.routeLinkLost (s : State) (n : LinkIx) : Inner s (s.routeLinkLost n) := by constructor <;> rfl
theorem Inner.dropReply (s : State) (n : LinkIx) : Inner s (s.dropReply n) := by constructor <;> rfl
theorem Inner.setTiming (s : State) (t : TimingState) : Inner s (s.setTiming t) := by constructor <;> rfl
theorem Inner.pushBacklog (s : State) (i : ReleaseItem) : Inner s (s.pushBacklog i) := by constructor <;> rfl

theorem Inner.timingLinkLost (s : State) (n : LinkIx) : Inner s (s.timingLinkLost n) := by
  unfold State.timingLinkLost
  split
  · constructor <;> rfl
  · exact Inner.refl s

/-! ### The drain test and the signals -/

/-- R61: the drain test leaves the state, or finds a DRAINING link that holds nothing and silences it. -/
theorem State.drainTest_cases (s : State) (n : LinkIx) :
    s.drainTest n = s ∨
      s.isRunning = true ∧ (s.link n).state = .draining ∧ s.queuedCount n = 0 ∧ s.inFlightCount n = 0 ∧
        s.drainTest n = s.enterDrained n := by
  unfold State.drainTest
  split
  · rename_i h
    simp only [Bool.and_eq_true, beq_iff_eq] at h
    exact .inr ⟨h.1.1.1, h.1.1.2, h.1.2, h.2, rfl⟩
  · exact .inl rfl

theorem Inner.enterDrained (s : State) (n : LinkIx) : Inner s (s.enterDrained n) := by
  unfold State.enterDrained
  exact ((((((Inner.setLink _ _ _).trans (Inner.routeLinkLost _ _)).trans (Inner.timingLinkLost _ _)).trans
    (Inner.setLink _ _ _)).trans (Inner.dropReply _ _)).trans (Inner.setLink _ _ _))

theorem Inner.drainTest (s : State) (n : LinkIx) : Inner s (s.drainTest n) := by
  rcases State.drainTest_cases s n with h | ⟨-, -, -, -, h⟩ <;> rw [h]
  · exact Inner.refl s
  · exact Inner.enterDrained s n

theorem Inner.signalIntake (s : State) (n : LinkIx) : Inner s (s.signalIntake n) := by
  unfold State.signalIntake
  split
  · split
    · constructor <;> rfl
    · exact Inner.refl s
  · exact Inner.refl s

theorem Inner.countFell (s : State) (n : LinkIx) : Inner s (s.countFell n) :=
  (Inner.signalIntake s n).trans (Inner.drainTest _ n)

/-! ### Releases and moves of the pool -/

theorem Inner.release (s : State) (t : Tag) (st : ReleaseStatus) : Inner s (s.release t st) := by
  unfold State.release
  split
  · exact Inner.refl s
  · have gone : ∀ (s : State) (f : Option Frame), Inner s { s.setFrame t f with
        pool := { (s.setFrame t f).pool with backlog := (s.setFrame t f).pool.backlog ++ [.entry t] } } := by
      intro s f; constructor <;> rfl
    dsimp only
    split
    · exact ((Inner.unqueue _ _ _).trans (gone _ _)).trans (Inner.countFell _ _)
    · exact (Inner.unhold _ _).trans (gone _ _)
    · exact gone _ _
    · exact gone _ _
    · exact Inner.refl s

theorem Inner.releaseAll (st : ReleaseStatus) (ts : List Tag) (s : State) : Inner s (s.releaseAll st ts) := by
  induction ts generalizing s with
  | nil => exact Inner.refl s
  | cons t ts ih => exact (Inner.release s t st).trans (ih _)

theorem Inner.cutRelease (s : State) (n : LinkIx) : Inner s (s.cutRelease n) := Inner.releaseAll _ _ _
theorem Inner.quiesceRelease (s : State) : Inner s s.quiesceRelease := Inner.releaseAll _ _ _

theorem Inner.takeToRing (s : State) (n : LinkIx) (t : Tag) (f : Frame) (pos : Nat) :
    Inner s (s.takeToRing n t f pos) :=
  ((Inner.unqueue _ _ _).trans (Inner.setFrame _ _ _)).trans (Inner.countFell _ _)

theorem Inner.markFetched (s : State) (t : Tag) : Inner s (s.markFetched t) := by
  unfold State.markFetched
  split
  · split
    · exact Inner.setFrame _ _ _
    · exact Inner.refl s
  · exact Inner.refl s

theorem Inner.placeReturned (s : State) (t : Tag) (f : Frame) (target : Option LinkIx) :
    Inner s (s.placeReturned t f target) := by
  unfold State.placeReturned
  split
  · exact (Inner.setFrame _ _ _).trans (Inner.pushHead _ _ _ _)
  · split
    · exact (Inner.setFrame _ _ _).trans (Inner.pushHeld _ _)
    · exact (Inner.setFrame _ _ _).trans (Inner.release _ _ _)

theorem Inner.requeue (s : State) (t : Tag) : Inner s (s.requeue t) := by
  unfold State.requeue
  split
  · exact Inner.refl s
  · split
    · exact Inner.refl s
    · split
      · exact Inner.release _ _ _
      · exact Inner.placeReturned _ _ _ _

theorem Inner.expiryReturn (s : State) (t : Tag) : Inner s (s.expiryReturn t) := by
  unfold State.expiryReturn
  split
  · exact Inner.refl s
  · split
    · exact Inner.refl s
    · split
      · exact Inner.placeReturned _ _ _ _
      · exact Inner.release _ _ _

theorem Inner.moveTail (s : State) (n m : LinkIx) (t : Tag) (f : Frame) : Inner s (s.moveTail n m t f) :=
  (((Inner.unqueue _ _ _).trans (Inner.setFrame _ _ _)).trans (Inner.pushTail _ _ _ _)).trans
    (Inner.countFell _ _)

theorem Inner.divertOne (s : State) (n : LinkIx) (t : Tag) : Inner s (s.divertOne n t) := by
  unfold State.divertOne
  split
  · exact Inner.refl s
  · split
    · exact Inner.refl s
    · split
      · split
        · exact Inner.refl s
        · exact Inner.moveTail _ _ _ _ _
      · exact Inner.refl s

theorem Inner.divert (s : State) (n : LinkIx) : Inner s (s.divert n) :=
  Inner.foldl (fun s t => Inner.divertOne s n t) _ s

theorem Inner.redispatchOne (s : State) (n : LinkIx) (t : Tag) : Inner s (s.redispatchOne n t) := by
  unfold State.redispatchOne
  split
  · exact Inner.refl s
  · split
    · exact Inner.release _ _ _
    · split
      · exact Inner.moveTail _ _ _ _ _
      · split
        · exact (((Inner.unqueue _ _ _).trans (Inner.setFrame _ _ _)).trans (Inner.pushHeld _ _)).trans
            (Inner.countFell _ _)
        · exact Inner.release _ _ _

theorem Inner.redispatch (s : State) (n : LinkIx) : Inner s (s.redispatch n) :=
  Inner.foldl (fun s t => Inner.redispatchOne s n t) _ s

/-- R31: a re-evaluation changes the pool alone, and of it the entries, the class queues and the held list. -/
theorem State.reevaluateOne_pool (s : State) (t : Tag) :
    ∃ e q h, s.reevaluateOne t = { s with pool := { s.pool with entries := e, queues := q, heldList := h } } := by
  unfold State.reevaluateOne
  split
  · exact ⟨_, _, _, rfl⟩
  · split
    · exact ⟨_, _, _, rfl⟩
    · exact ⟨_, _, _, rfl⟩

/-- R31: the same of the whole held list. -/
theorem State.reevaluate_pool (s : State) :
    ∃ e q h, s.reevaluate = { s with pool := { s.pool with entries := e, queues := q, heldList := h } } := by
  have H : ∀ (l : List Tag) (s : State), ∃ e q h, l.foldl (fun s t => s.reevaluateOne t) s =
      { s with pool := { s.pool with entries := e, queues := q, heldList := h } } := by
    intro l
    induction l with
    | nil => intro s; exact ⟨_, _, _, rfl⟩
    | cons t l ih =>
      intro s
      obtain ⟨e, q, h, h1⟩ := State.reevaluateOne_pool s t
      obtain ⟨e', q', h', h2⟩ := ih (s.reevaluateOne t)
      refine ⟨e', q', h', ?_⟩
      rw [List.foldl_cons, h2, h1]
  exact H _ _

theorem Inner.reevaluate (s : State) : Inner s s.reevaluate := by
  obtain ⟨e, q, h, h1⟩ := State.reevaluate_pool s
  rw [h1]
  constructor <;> rfl

theorem Inner.releaseAged (s : State) (t : Tag) : Inner s (s.releaseAged t) := by
  unfold State.releaseAged
  split
  · exact Inner.refl s
  · split
    · split
      · exact Inner.release _ _ _
      · exact Inner.refl s
    · split
      · exact Inner.release _ _ _
      · exact Inner.refl s
    · exact Inner.refl s

theorem Inner.releaseTimedOut (s : State) (t : Tag) : Inner s (s.releaseTimedOut t) := by
  unfold State.releaseTimedOut
  split
  · exact Inner.refl s
  · split
    · split
      · exact Inner.release _ _ _
      · exact Inner.refl s
    · exact Inner.refl s

/-! ### Links -/

theorem Inner.enterActive (s : State) (n : LinkIx) (k : Attention) : Inner s (s.enterActive n k) :=
  (Inner.setLink _ _ _).trans (Inner.reevaluate _)

theorem Inner.unblock (s : State) (n : LinkIx) : Inner s (s.unblock n) :=
  (Inner.setLink _ _ _).trans (Inner.reevaluate _)

theorem Inner.enterBlocked (s : State) (n : LinkIx) : Inner s (s.enterBlocked n) :=
  (Inner.setLink _ _ _).trans (Inner.divert _ _)

theorem Inner.leaveUsable (s : State) (n : LinkIx) (pool : State → State) (reply : Bool)
    (h : ∀ s, Inner s (pool s)) : Inner s (s.leaveUsable n pool reply) := by
  unfold State.leaveUsable
  have k := (((Inner.routeLinkLost s n).trans (h _)).trans (Inner.timingLinkLost _ n)).trans
    (Inner.setLink _ n ((pool (s.routeLinkLost n)).timingLinkLost n |>.link n).climbEnded)
  dsimp only
  split
  · exact k.trans (Inner.dropReply _ _)
  · exact k

theorem Inner.enterFailed (s : State) (n : LinkIx) (r : FailureReason) : Inner s (s.enterFailed n r) :=
  ((Inner.setLink _ _ _).trans (Inner.leaveUsable _ n _ true fun s => Inner.redispatch s n)).trans
    (Inner.setLink _ _ _)

theorem Inner.enterSilent (s : State) (n : LinkIx) : Inner s (s.enterSilent n) :=
  (Inner.setLink _ _ _).trans (Inner.leaveUsable _ n _ true fun s => Inner.cutRelease s n)

theorem Inner.enterDraining (s : State) (n : LinkIx) : Inner s (s.enterDraining n) :=
  (Inner.setLink _ _ _).trans (Inner.leaveUsable _ n _ false fun s => Inner.refl s)

theorem Inner.linkOutcome (s : State) (n : LinkIx) (o : TxOutcome) (attempts : Nat) (data : Bool) :
    Inner s (s.linkOutcome n o attempts data) := by
  unfold State.linkOutcome
  dsimp only
  split
  · exact Inner.refl s
  · split
    · split
      · exact (Inner.setLink _ _ _).trans (Inner.unblock _ _)
      · exact Inner.setLink _ _ _
    · split
      · split
        · exact (Inner.setLink _ _ _).trans (Inner.enterBlocked _ _)
        · split
          · exact ((Inner.setLink _ _ _).trans (Inner.enterSilent _ _)).trans (Inner.setLink _ _ _)
          · exact Inner.setLink _ _ _
      · exact Inner.setLink _ _ _
    · split
      · exact Inner.setLink _ _ _
      · exact Inner.refl s
    · exact Inner.refl s

theorem Inner.releaseInFlight (s : State) (t : Tag) (st : ReleaseStatus) : Inner s (s.releaseInFlight t st) := by
  unfold State.releaseInFlight
  split
  · split
    · exact Inner.release _ _ _
    · exact Inner.refl s
  · exact Inner.refl s

theorem Inner.carriedOutcome (s : State) (t : Tag) (n : LinkIx) (o : TxOutcome) (attempts : Nat) :
    Inner s (s.carriedOutcome t n o attempts) := by
  unfold State.carriedOutcome
  have h := (Inner.setLink s n ((s.link n).measureData o attempts)).trans (Inner.linkOutcome _ n o attempts true)
  cases o
  · exact h.trans (Inner.releaseInFlight _ _ _)
  · exact h.trans (Inner.requeue _ _)
  · exact h.trans (Inner.expiryReturn _ _)
  · exact h.trans (Inner.releaseInFlight _ _ _)

theorem Inner.ownOutcome (s : State) (n : LinkIx) (node : NodeId) (o : TxOutcome) (attempts : Nat) :
    Inner s (s.ownOutcome n node o attempts) := by
  unfold State.ownOutcome
  split
  · exact Inner.refl s
  · exact (Inner.setLink _ _ _).trans (Inner.linkOutcome _ _ _ _ _)

theorem Inner.dataOutcome (s : State) (t : Tag) (n : LinkIx) (o : TxOutcome) (attempts : Nat) :
    Inner s (s.dataOutcome t n o attempts) := by
  unfold State.dataOutcome
  split
  · exact Inner.releaseInFlight _ _ _
  · split <;> first
      | exact Inner.carriedOutcome _ _ _ _ _
      | exact Inner.releaseInFlight _ _ _
      | exact Inner.requeue _ _
      | exact Inner.expiryReturn _ _

/-- R147, R148: whatever a completion's outcome does, it does within this frame. -/
theorem Inner.handleOutcome (s : State) (r : InFlight) (o : TxOutcome) (attempts : Nat) :
    Inner s (s.handleOutcome r o attempts) := by
  unfold State.handleOutcome
  split
  · exact Inner.dataOutcome _ _ _ _ _
  · exact Inner.refl s
  · exact Inner.ownOutcome _ _ _ _ _
  · exact Inner.ownOutcome _ _ _ _ _

end Sys2Proof.Machine
end

