-- ==== Sys2Proof/Laws/PerInstr.lean ====
section
/-!
SUPPORT. Statements made of every command, one lemma for each constructor of `Instr`.
-/

namespace Sys2Proof.Laws

open Sys2Proof Sys2Proof.Machine

/-- The sequence a software command carries (Table 12-7); none for a row that is no software command. -/
def sequence? : Instr → Option (BitVec 16)
  | .pinReset => none
  | .resetNRelease _ => none
  | .anchorWrite _ _ => none
  | .anchorCommit _ _ => none
  | .systemWrite _ _ => none
  | .droppedWrite _ _ => none
  | .receiveCompletionWrite _ _ => none
  | .headerReadDone => none
  | .beaconBodyReadDone => none
  | .claim => none
  | .outlierLimit => none
  | .holdBudgetExpiry => none
  | .heldWriteTaken => none
  | .rewriteTaken => none
  | .transmitCompletionWrite _ _ => none
  | .completionProcess => none
  | .descriptorFetch _ _ => none
  | .descriptorWriteTaken => none
  | .skipWriteTaken => none
  | .commandPostWord _ _ => none
  | .localPostWord _ _ => none
  | .reportConsumedWord _ _ => none
  | .commandFetch => none
  | .nop seq => some seq
  | .unknownCommand _ seq => some seq
  | .linkOpen seq _ _ _ _ _ => some seq
  | .linkTune seq _ _ _ => some seq
  | .linkDrain seq _ => some seq
  | .linkCut seq _ => some seq
  | .linkClear seq _ => some seq
  | .linkQuery seq _ => some seq
  | .linkClimb seq _ _ => some seq
  | .routePin seq _ _ _ => some seq
  | .routeUnpin seq _ => some seq
  | .routeQuery seq _ _ => some seq
  | .planWrite seq _ _ _ _ => some seq
  | .planSwitch seq _ => some seq
  | .planCancel seq => some seq
  | .timingSet seq _ _ => some seq
  | .engineReset seq _ => some seq
  | .quiesceLimit => none
  | .quiesceEnd => none
  | .localEntryFetch => none
  | .localEntryReadDone => none
  | .localHeaderReadDone => none
  | .localAdmission => none
  | .localIntakeRetry => none
  | .taglessHandover => none
  | .reportWrite => none
  | .superframeBoundary _ => none
  | .agedRelease => none
  | .holdTimeout => none
  | .beaconLoss => none
  | .openTimeout => none
  | .blockHoldExpiry => none
  | .routeStale => none
  | .routeAgePoison => none
  | .ownSequenceAdvance => none
  | .silenceLimit => none
  | .holdoverTimeout => none
  | .slotStart => none
  | .poisonCountExpiry => none
  | .injectedWriteTaken => none

/-- A command record's reserved byte is 0 and its sequence stands at offset 2 (Table 12-7, R193). -/
theorem record_head (code : Byte) (seq : BitVec 16) (args : List Byte) :
    byteAt (commandRecord code seq args) 1 = 0 ∧ half (commandRecord code seq args) 2 = seq := by
  refine ⟨rfl, ?_⟩
  show seq.extractLsb' 8 8 ++ seq.extractLsb' 0 8 = seq
  apply BitVec.eq_of_getLsbD_eq
  intro i hi
  rw [BitVec.getLsbD_append]
  by_cases h : i < 8
  · simp [h]
  · have e : 8 + (i - 8) = i := by omega
    have b : i - 8 < 8 := by omega
    simp [h, e, b]

namespace RecordHead

/-- A row has a record exactly when it carries a sequence, and the record holds that sequence at offset 2 after a
reserved byte of 0. -/
def Statement (i : Instr) : Prop :=
  (encodeCommand i).map (fun r => (byteAt r 1, half r 2)) = (sequence? i).map fun q => ((0 : Byte), q)

/-- What the lemma of a software command comes to. -/
theorem of_record (code : Byte) (seq : BitVec 16) (args : List Byte) :
    (some (commandRecord code seq args)).map (fun r => (byteAt r 1, half r 2)) =
      (some seq).map fun q => ((0 : Byte), q) := by
  simp only [Option.map_some, record_head]

theorem pinReset : Statement .pinReset := rfl
theorem resetNRelease (anchorSel : BitVec 2) : Statement (.resetNRelease anchorSel) := rfl
theorem anchorWrite (addr : BitVec 32) (data : List Byte) : Statement (.anchorWrite addr data) := rfl
theorem anchorCommit (addr : BitVec 32) (data : List Byte) : Statement (.anchorCommit addr data) := rfl
theorem systemWrite (addr : BitVec 32) (data : List Byte) : Statement (.systemWrite addr data) := rfl
theorem droppedWrite (addr : BitVec 32) (data : List Byte) : Statement (.droppedWrite addr data) := rfl
theorem receiveCompletionWrite (addr : BitVec 32) (data : List Byte) : Statement (.receiveCompletionWrite addr data) := rfl
theorem headerReadDone : Statement .headerReadDone := rfl
theorem beaconBodyReadDone : Statement .beaconBodyReadDone := rfl
theorem claim : Statement .claim := rfl
theorem outlierLimit : Statement .outlierLimit := rfl
theorem holdBudgetExpiry : Statement .holdBudgetExpiry := rfl
theorem heldWriteTaken : Statement .heldWriteTaken := rfl
theorem rewriteTaken : Statement .rewriteTaken := rfl
theorem transmitCompletionWrite (addr : BitVec 32) (data : List Byte) : Statement (.transmitCompletionWrite addr data) := rfl
theorem completionProcess : Statement .completionProcess := rfl
theorem descriptorFetch (addr : BitVec 32) (len : Nat) : Statement (.descriptorFetch addr len) := rfl
theorem descriptorWriteTaken : Statement .descriptorWriteTaken := rfl
theorem skipWriteTaken : Statement .skipWriteTaken := rfl
theorem commandPostWord (addr : BitVec 32) (data : List Byte) : Statement (.commandPostWord addr data) := rfl
theorem localPostWord (addr : BitVec 32) (data : List Byte) : Statement (.localPostWord addr data) := rfl
theorem reportConsumedWord (addr : BitVec 32) (data : List Byte) : Statement (.reportConsumedWord addr data) := rfl
theorem commandFetch : Statement .commandFetch := rfl
theorem nop (seq : BitVec 16) : Statement (.nop seq) := of_record _ _ _
theorem unknownCommand (code : Byte) (seq : BitVec 16) : Statement (.unknownCommand code seq) := of_record _ _ _
theorem linkOpen (seq : BitVec 16) (link : Byte) (node : NodeId) (floor : Byte) (ceiling : Byte) (attempts : Byte) : Statement (.linkOpen seq link node floor ceiling attempts) := of_record _ _ _
theorem linkTune (seq : BitVec 16) (link : Byte) (selection : BitVec 16) (values : TuneValues) : Statement (.linkTune seq link selection values) := of_record _ _ _
theorem linkDrain (seq : BitVec 16) (link : Byte) : Statement (.linkDrain seq link) := of_record _ _ _
theorem linkCut (seq : BitVec 16) (link : Byte) : Statement (.linkCut seq link) := of_record _ _ _
theorem linkClear (seq : BitVec 16) (link : Byte) : Statement (.linkClear seq link) := of_record _ _ _
theorem linkQuery (seq : BitVec 16) (link : Byte) : Statement (.linkQuery seq link) := of_record _ _ _
theorem linkClimb (seq : BitVec 16) (link : Byte) (act : Byte) : Statement (.linkClimb seq link act) := of_record _ _ _
theorem routePin (seq : BitVec 16) (dest : NodeId) (link : Byte) (metric : BitVec 16) : Statement (.routePin seq dest link metric) := of_record _ _ _
theorem routeUnpin (seq : BitVec 16) (dest : NodeId) : Statement (.routeUnpin seq dest) := of_record _ _ _
theorem routeQuery (seq : BitVec 16) (selector : Byte) (value : BitVec 16) : Statement (.routeQuery seq selector value) := of_record _ _ _
theorem planWrite (seq : BitVec 16) (context : Byte) (first : Byte) (count : Byte) (entries : List Byte) : Statement (.planWrite seq context first count entries) := of_record _ _ _
theorem planSwitch (seq : BitVec 16) (context : Byte) : Statement (.planSwitch seq context) := of_record _ _ _
theorem planCancel (seq : BitVec 16) : Statement (.planCancel seq) := of_record _ _ _
theorem timingSet (seq : BitVec 16) (role : Byte) (propagation : Byte) : Statement (.timingSet seq role propagation) := of_record _ _ _
theorem engineReset (seq : BitVec 16) (mode : Byte) : Statement (.engineReset seq mode) := of_record _ _ _
theorem quiesceLimit : Statement .quiesceLimit := rfl
theorem quiesceEnd : Statement .quiesceEnd := rfl
theorem localEntryFetch : Statement .localEntryFetch := rfl
theorem localEntryReadDone : Statement .localEntryReadDone := rfl
theorem localHeaderReadDone : Statement .localHeaderReadDone := rfl
theorem localAdmission : Statement .localAdmission := rfl
theorem localIntakeRetry : Statement .localIntakeRetry := rfl
theorem taglessHandover : Statement .taglessHandover := rfl
theorem reportWrite : Statement .reportWrite := rfl
theorem superframeBoundary (order : List Block) : Statement (.superframeBoundary order) := rfl
theorem agedRelease : Statement .agedRelease := rfl
theorem holdTimeout : Statement .holdTimeout := rfl
theorem beaconLoss : Statement .beaconLoss := rfl
theorem openTimeout : Statement .openTimeout := rfl
theorem blockHoldExpiry : Statement .blockHoldExpiry := rfl
theorem routeStale : Statement .routeStale := rfl
theorem routeAgePoison : Statement .routeAgePoison := rfl
theorem ownSequenceAdvance : Statement .ownSequenceAdvance := rfl
theorem silenceLimit : Statement .silenceLimit := rfl
theorem holdoverTimeout : Statement .holdoverTimeout := rfl
theorem slotStart : Statement .slotStart := rfl
theorem poisonCountExpiry : Statement .poisonCountExpiry := rfl
theorem injectedWriteTaken : Statement .injectedWriteTaken := rfl

end RecordHead

end Sys2Proof.Laws
end

