-- ==== Sys2Proof/Tests/Slice0.lean ====
section
/-!
SUPPORT. Tests. First the smoke test of `Instr.wf`, command records written out from Tables 12-7 and 12-8, and
worked figures of the manual (each test names its source). Then, for each statement of Obligations.lean that
has hypotheses, concrete states and operands that meet them all together, clause by clause (`witness_…`).
-/

namespace Sys2Proof.Tests

set_option Elab.async false

open Sys2Proof Sys2Proof.Machine

/-! ### Well-formedness: one ill-formed term for each check -/

theorem test_wf_refuses_unaligned_write : (Instr.systemWrite 0x1002 [0, 0, 0, 0]).wf = false := by decide
theorem test_wf_refuses_write_of_three : (Instr.commandPostWord 0x1000 [0, 0, 0]).wf = false := by decide
theorem test_wf_refuses_write_of_128 : (Instr.anchorWrite 0 (List.replicate 128 0)).wf = false := by
  decide +kernel
theorem test_wf_refuses_unaligned_read : (Instr.descriptorFetch 0x2008 16).wf = false := by decide
theorem test_wf_refuses_empty_read : (Instr.descriptorFetch 0x2000 0).wf = false := by decide
theorem test_wf_refuses_short_order : (Instr.superframeBoundary [.engine]).wf = false := by decide
theorem test_wf_refuses_repeated_block :
    (Instr.superframeBoundary [.engine, .engine, .linkTable, .routeTable, .framePool]).wf = false := by decide
theorem test_wf_refuses_known_code : (Instr.unknownCommand 0x10 1).wf = false := by decide
theorem test_wf_refuses_fifteen_slots : (Instr.planWrite 1 0 0 1 (List.replicate 15 0)).wf = false := by decide
theorem test_wf_takes_a_write : (Instr.systemWrite 0x1004 [0, 0, 0, 0]).wf = true := by decide

/-! ### Command records, written out byte by byte from Tables 12-7 and 12-8 -/

/-- A record of 32 bytes: the bytes given, then zeros. -/
def record32 (bs : List Byte) : List Byte := bs ++ List.replicate (32 - bs.length) 0

theorem test_decode_nop : decodeCommand (record32 [0x00, 0, 0x34, 0x12]) = .nop 0x1234 := by decide +kernel
theorem test_decode_link_open :
    decodeCommand (record32 [0x10, 0, 0x07, 0x00, 0x02, 0, 0x33, 0x00, 0x01, 0x06, 0x04]) =
      .linkOpen 7 2 0x0033 1 6 4 := by decide +kernel
theorem test_decode_link_tune :
    decodeCommand (record32 [0x11, 0, 0x08, 0x00, 0x05, 0, 0xFF, 0x03, 1, 6, 4, 2, 5, 3, 1, 3, 20, 0, 0x20, 0x01]) =
      .linkTune 8 5 0x03FF ⟨1, 6, 4, 2, 5, 3, 1, 3, 20, 0x0120⟩ := by decide +kernel
theorem test_decode_link_drain :
    decodeCommand (record32 [0x12, 0, 9, 0, 0x0F]) = .linkDrain 9 15 := by decide +kernel
theorem test_decode_link_cut : decodeCommand (record32 [0x13, 0, 9, 1, 3]) = .linkCut 0x0109 3 := by
  decide +kernel
theorem test_decode_link_clear : decodeCommand (record32 [0x14, 0, 9, 0, 3]) = .linkClear 9 3 := by
  decide +kernel
theorem test_decode_link_query : decodeCommand (record32 [0x15, 0, 9, 0, 3]) = .linkQuery 9 3 := by
  decide +kernel
theorem test_decode_link_climb : decodeCommand (record32 [0x16, 0, 9, 0, 3, 2]) = .linkClimb 9 3 2 := by
  decide +kernel
theorem test_decode_route_pin :
    decodeCommand (record32 [0x20, 0, 1, 0, 0xC4, 0x00, 5, 0, 0xFE, 0x01]) = .routePin 1 0x00C4 5 0x01FE := by
  decide +kernel
theorem test_decode_route_unpin :
    decodeCommand (record32 [0x21, 0, 1, 0, 0xC4, 0x02]) = .routeUnpin 1 0x02C4 := by decide +kernel
theorem test_decode_route_query :
    decodeCommand (record32 [0x22, 0, 1, 0, 1, 0, 0xFF, 0x00]) = .routeQuery 1 1 255 := by decide +kernel
theorem test_decode_plan_write :
    decodeCommand (record32 ([0x30, 0, 1, 0, 1, 16, 2, 0] ++ [0x80, 0xC5] ++ List.replicate 14 0x40)) =
      .planWrite 1 1 16 2 ([0x80, 0xC5] ++ List.replicate 14 0x40) := by decide +kernel
theorem test_decode_plan_switch : decodeCommand (record32 [0x31, 0, 2, 0, 1]) = .planSwitch 2 1 := by
  decide +kernel
theorem test_decode_plan_cancel : decodeCommand (record32 [0x32, 0, 2, 0]) = .planCancel 2 := by decide +kernel
theorem test_decode_timing_set : decodeCommand (record32 [0x40, 0, 2, 0, 1, 3]) = .timingSet 2 1 3 := by
  decide +kernel
theorem test_decode_engine_reset : decodeCommand (record32 [0x50, 0, 2, 0, 2]) = .engineReset 2 2 := by
  decide +kernel
theorem test_decode_unknown : decodeCommand (record32 [0x17, 0, 2, 0, 2]) = .unknownCommand 0x17 2 := by
  decide +kernel
/-- Slot entry codes (12.4). -/
theorem test_slot_codes :
    [(0x00 : Byte), 0x40, 0x80, 0xC5].map slotOfByte = [some .idle, some .shared, some .beacon, some (.tx 5)] := by
  decide +kernel

/-! ### Worked figures of the manual -/

/-- Table 4-3. -/
theorem test_samples :
    [1, 2, 3, 4, 5, 6, 7, 8].map deliverySample = [32768, 16384, 10923, 8192, 6554, 5461, 4681, 4096] := by
  decide +kernel
/-- Table 4-4. -/
theorem test_average_steps :
    average 16384 32768 4 = 20480 ∧ average 20480 10923 4 = 18091 ∧ average 18091 0 4 = 13568 := by
  decide +kernel
/-- Table 4-5: resting values. -/
theorem test_average_rests :
    average 32761 32768 1 = 32761 ∧ average 8 0 1 = 8 ∧ average 32767 32768 7 = 32767 ∧ average 2 0 4 = 2 := by
  decide +kernel
/-- Table 4-6, columns 20, 174, 1500 and 2048. -/
theorem test_airtimes :
    [0, 1, 2, 3, 4, 5, 6, 7].map (fun r => (airtime r 20, airtime r 174, airtime r 1500, airtime r 2048)) =
      [(63, 268, 2036, 2767), (50, 152, 1036, 1402), (43, 94, 536, 719), (40, 65, 286, 378),
       (38, 51, 161, 207), (38, 46, 120, 150), (37, 44, 99, 122), (37, 41, 78, 93)] := by decide +kernel
/-- Table 4-7. -/
theorem test_costs :
    costOf 0 32768 = 2036 ∧ costOf 0 16384 = 4072 ∧ costOf 0 1018 = 65535 ∧ costOf 0 1019 < 65535 ∧
      costOf 7 16384 = 156 ∧ costOf 7 39 = 65535 ∧ costOf 7 40 < 65535 ∧ costOf 4 0 = 65535 := by
  decide +kernel
/-- 4.10, the first worked sequence: three outcomes on link 4. -/
theorem test_worked_link :
    ([(TxOutcome.delivered, 1), (.delivered, 3), (.undelivered, 4)].foldl
        (fun (l : LinkRec) o => l.measureData o.1 o.2)
        { LinkRec.reset with state := .active, rate := 4, estimate := 16384, cost := 322 } |>
      fun l => (l.estimate, l.pace, l.rate, l.cost)) = (13568, 0, 3, 691) := by decide +kernel
/-- 4.10, pace to a rate rise: two deliveries on link 6. -/
theorem test_worked_pace :
    ([1, 1].foldl (fun (l : LinkRec) a => l.measureData .delivered a)
        { LinkRec.reset with state := .active, rate := 3, ceiling := 4, pace := 56, estimate := 30000 } |>
      fun l => (l.estimate, l.pace, l.rate, l.cost)) = (31211, 0, 4, 170) := by decide +kernel
/-- 4.10, the climb with KEEP: after the loss. -/
theorem test_worked_climb :
    (([1, 1, 1, 1, 1, 1, 1, 1, 1, 1, 2, 1].foldl (fun (l : LinkRec) a => l.measureData .delivered a)
        { LinkRec.reset with state := .active, rate := 2, ceiling := 6, climbing := true,
                             climb := some ⟨.keep, 2, 2, 0⟩ }).measureData .undelivered 4 |>
      fun l => (l.rate, l.ceiling, l.climb, l.climbing)) = (3, 3, some ⟨.keep, 2, 3, 0⟩, false) := by
  decide +kernel
/-- R92: d of 1..32767 is newer, of 32768 and above older. -/
theorem test_sequences :
    seqCompare 5 5 = .equal ∧ seqCompare 2 0xFFFF = .newer ∧ seqCompare 0x7FFF 0 = .newer ∧
      seqCompare 0x8000 0 = .older ∧ seqCompare 0xFFFF 2 = .older := by decide +kernel
/-- 4.10: candidate metrics 842 and 1241. -/
theorem test_candidates : candidate 510 292 40 = 842 ∧ candidate 510 691 40 = 1241 ∧
    candidate 65535 1 1 = 65535 ∧ candidate 65000 500 40 = 65535 := by decide +kernel
/-- 8.8: the wrapped offset, and the corrections of the table. -/
theorem test_offsets : offsetOf 10 31990 2 32000 = 18 ∧
    [(18 : Int), 27, 21, -50, -3, 40].map correction = [4, 6, 5, -8, 0, 8] := by decide +kernel

/-! ### States the witnesses use -/

/-- A window table with every ring at a place of its own. -/
def w0 : Windows :=
  { rxBase := 0x1000, rxSize := 16, txBase := 0x2000, txcBase := 0x2100, txSize := 16, localBase := 0x2200,
    localSize := 16, cmdBase := 0x2400, cmdSize := 16, repBase := 0x2800, repSize := 32, frameBase := 0x4000,
    cmdPost := 0x3000, localPost := 0x3004, repConsumed := 0x3008 }

/-- RESET_N released with straps 0. -/
def fresh : State := { State.reset with pins := ⟨false, some 0, []⟩ }

/-- RUNNING with the windows of `w0`. -/
def ready : State :=
  { fresh with
    path := { MemoryPath.reset with engine := .running, ownId := 0x21, windows := some w0 }
    sched := { Scheduler.reset with ringSize := some 16 } }

/-- QUIESCING, with an ENGINE_RESET of mode KEEP applying. -/
def quiescing : State :=
  { ready with
    path := { ready.path with engine := .quiescing .keep 0 }
    command := ⟨0, 0, .applying 0x50 7, []⟩
    pool := { ready.pool with backlog := [.tagless 0x9000 .quiesced] } }

/-- The state with these accesses queued. -/
def queued (s : State) (xs : List Injected) : State := { s with path := { s.path with queue := xs } }

/-- The state with a full injection queue. -/
def full (s : State) : State := queued s (List.replicate 16 (.write .report 0x2800 []))

/-- The state with the slot and the Classifier given. -/
def holding (s : State) (h : HeldSlot) (c : Classifier) : State :=
  { s with path := { s.path with slot := h }, classifier := c }

/-- Link `n` ACTIVE with a neighbour. -/
def up (n : LinkIx) (node : NodeId) (s : State) : State :=
  s.setLink n { LinkRec.reset with neighbour := some node, state := .active }

/-- Link `n` in a given state. -/
def linkIn (n : LinkIx) (st : LinkState) (s : State) : State :=
  s.setLink n { LinkRec.reset with neighbour := some 0x33, state := st }

/-- A header with an empty via list. -/
def header (kind hop cls : Byte) (src dst last : NodeId) (payload : Nat) : List Byte :=
  [kind, hop + 32 * cls, 0, 0] ++ halfBytes src ++ halfBytes dst ++ halfBytes last ++ natHalf payload ++
    List.replicate 8 0

/-- A receive completion record. -/
def rxRecord (buffer length : Nat) (status : Byte) : List Byte :=
  natWord buffer ++ natHalf length ++ [status, 0] ++ List.replicate 8 0

/-- A transmit completion record. -/
def txRecord (pos : Nat) (outcome attempts lap : Byte) : List Byte :=
  natHalf pos ++ [outcome, attempts, 0, lap] ++ List.replicate 10 0

/-- A frame entry. -/
def entry (mode : RoutingMode) (place : Place) : Frame :=
  ⟨.forward, 0x10000, 100, 0xC4, .bulk, mode, place, some 1, 0, 0⟩

/-- The Command Unit FETCHING, with the record of a command about to be answered. -/
def fetched (c : Instr) (s : State) : State :=
  { s with
    mem := memWrite [] 0x2400 ((encodeCommand c).getD [])
    path := { s.path with queue := [.read .command 0x2400 32 0 32 true true] }
    command := ⟨0, 1, .fetching, []⟩ }

/-- The work list of one consequence. -/
def owing (c : Consequence) (s : State) : State := { s with work := [.due c] }

/-- Tag 0 QUEUED as BULK on link 2, which is in a given state. -/
def withQueued (mode : RoutingMode) (st : LinkState) : State :=
  ((linkIn 2 st ready).setFrame 0 (some (entry mode (.queued 2)))).setQueues 2 ⟨[], [], [0], []⟩

/-- Tag 0 in flight at ring position 0 on link 2, its completion record at the head of the queue. -/
def completing (st : LinkState) (outcome : Byte) (s : State) : State :=
  let s := (linkIn 2 st s).setFrame 0 (some (entry .table (.inRing 2 0)))
  { s with
    sched := { s.sched with inFlight := [⟨0, .data 0 2, false, true, false⟩], producer := 1 }
    completion := ⟨[⟨0, txRecord 0 outcome 1 0⟩], 0⟩ }

/-- A pool with nothing in it is as `PoolOk` asks. -/
theorem poolOk_of_empty (s : State) (h : s.pool.entries = Vector.replicate 512 none)
    (hq : s.pool.queues = Vector.replicate 16 ClassQueues.reset) (hh : s.pool.heldList = [])
    (hb : s.pool.backlog = []) : s.PoolOk where
  queued t n c := by
    cases c <;> simp [State.queuesOf, State.frame, h, hq, queuedAt, ClassQueues.get, ClassQueues.reset, bit]
  held t := by simp [State.frame, h, hh, heldEntry, bit]
  releasing t := by simp [State.frame, h, hb, releasingEntry, bit]
  tagless := by simp [hb]

/-- The pool of `withQueued` is as `PoolOk` asks. -/
theorem poolOk_withQueued (mode : RoutingMode) (st : LinkState) : (withQueued mode st).PoolOk where
  queued t n c := by
    by_cases ht : (0 : Tag) = t <;> by_cases hn : (2 : LinkIx) = n <;> cases c <;>
      simp [withQueued, State.queuesOf, State.frame, State.setQueues, State.setFrame, linkIn, State.setLink,
        ready, fresh, State.reset, Pool.reset, bankGet_bankPut, ht, hn, queuedAt, entry, ClassQueues.get,
        ClassQueues.reset, bit]
  held t := by
    by_cases ht : (0 : Tag) = t <;>
      simp [withQueued, State.frame, State.setQueues, State.setFrame, linkIn, State.setLink, ready, fresh,
        State.reset, Pool.reset, bankGet_bankPut, ht, heldEntry, entry, bit]
  releasing t := by
    by_cases ht : (0 : Tag) = t <;>
      simp [withQueued, State.frame, State.setQueues, State.setFrame, linkIn, State.setLink, ready, fresh,
        State.reset, Pool.reset, bankGet_bankPut, ht, releasingEntry, entry, bit]
  tagless := by simp [withQueued, State.setQueues, State.setFrame, linkIn, State.setLink, ready, fresh,
    State.reset, Pool.reset]

/-- Tag 1 HELD, alone on the held list. -/
def withHeld (s : State) : State :=
  let s := s.setFrame 1 (some (entry .table .held))
  { s with pool := { s.pool with heldList := [1] } }

/-- A held frame more keeps a pool as `PoolOk` asks. -/
theorem poolOk_withHeld (s : State) (h : s.PoolOk) (hf : s.frame 1 = none) (hl : s.pool.heldList = []) :
    (withHeld s).PoolOk where
  queued t n c := by
    have hq := h.queued t n c
    by_cases ht : (1 : Tag) = t
    · subst ht
      rw [hf] at hq
      have hp : (Place.held == Place.queued n) = false := by simp
      simpa [withHeld, State.queuesOf, State.frame, State.setFrame, queuedAt, entry, hp] using hq
    · simpa [withHeld, State.queuesOf, State.frame, State.setFrame, bankGet_bankPut, ht] using hq
  held t := by
    have hh := h.held t
    by_cases ht : (1 : Tag) = t
    · subst ht
      simp [withHeld, State.frame, State.setFrame, heldEntry, entry, bit]
    · rw [hl] at hh
      simpa [withHeld, State.frame, State.setFrame, bankGet_bankPut, ht] using hh
  releasing t := by
    have hr := h.releasing t
    by_cases ht : (1 : Tag) = t
    · subst ht
      rw [hf] at hr
      simpa [withHeld, State.frame, State.setFrame, releasingEntry, entry] using hr
    · simpa [withHeld, State.frame, State.setFrame, bankGet_bankPut, ht] using hr
  tagless := h.tagless

/-- Tag 1 QUEUED as BULK on link 2, alone. -/
def withNext (s : State) : State :=
  (s.setFrame 1 (some (entry .table (.queued 2)))).setQueues 2 ⟨[], [], [1], []⟩

/-- A queued frame more keeps a pool as `PoolOk` asks. -/
theorem poolOk_withNext (s : State) (h : s.PoolOk) (hf : s.frame 1 = none)
    (hq : s.queuesOf 2 = ClassQueues.reset) : (withNext s).PoolOk where
  queued t n c := by
    have hc := h.queued t n c
    by_cases ht : (1 : Tag) = t
    · subst ht
      rw [hf] at hc
      by_cases hn : (2 : LinkIx) = n
      · subst hn
        cases c <;>
          simp [withNext, State.queuesOf, State.frame, State.setFrame, State.setQueues, queuedAt, entry,
            ClassQueues.get, bit]
      · have hp : (Place.queued 2 == Place.queued n) = false := by simpa using hn
        simpa [withNext, State.queuesOf, State.frame, State.setFrame, State.setQueues, bankGet_bankPut, queuedAt,
          entry, hn, hp] using hc
    · by_cases hn : (2 : LinkIx) = n
      · subst hn
        rw [hq] at hc
        rw [show (withNext s).frame t = s.frame t by
          simp [withNext, State.frame, State.setFrame, State.setQueues, bankGet_bankPut, ht], ← hc]
        cases c <;>
          simp [withNext, State.queuesOf, State.setFrame, State.setQueues, ClassQueues.get, ClassQueues.reset, ht]
      · simpa [withNext, State.queuesOf, State.frame, State.setFrame, State.setQueues, bankGet_bankPut, ht, hn]
          using hc
  held t := by
    have hh := h.held t
    by_cases ht : (1 : Tag) = t
    · subst ht
      rw [hf] at hh
      have hp : (Place.queued 2 == Place.held) = false := by simp
      simpa [withNext, State.frame, State.setFrame, State.setQueues, heldEntry, entry, hp] using hh
    · simpa [withNext, State.frame, State.setFrame, State.setQueues, bankGet_bankPut, ht] using hh
  releasing t := by
    have hr := h.releasing t
    by_cases ht : (1 : Tag) = t
    · subst ht
      rw [hf] at hr
      simpa [withNext, State.frame, State.setFrame, State.setQueues, releasingEntry, entry] using hr
    · simpa [withNext, State.frame, State.setFrame, State.setQueues, bankGet_bankPut, ht] using hr
  tagless := h.tagless

/-- Tags 0 and 1 QUEUED on link 2, in the two upper classes or in the two lower ones. -/
def pair (upper : Bool) (s : State) : State :=
  if upper then
    ((s.setFrame 0 (some { entry .table (.queued 2) with cls := .expedited })).setFrame 1
      (some { entry .table (.queued 2) with cls := .interactive })).setQueues 2 ⟨[0], [1], [], []⟩
  else
    ((s.setFrame 0 (some (entry .table (.queued 2)))).setFrame 1
      (some { entry .table (.queued 2) with cls := .background })).setQueues 2 ⟨[], [], [0], [1]⟩

theorem poolOk_pair (upper : Bool) : (pair upper (linkIn 2 .active ready)).PoolOk where
  queued t n c := by
    by_cases h0 : (0 : Tag) = t <;> by_cases h1 : (1 : Tag) = t <;> by_cases hn : (2 : LinkIx) = n <;>
      cases c <;> cases upper <;>
      simp_all [pair, State.queuesOf, State.frame, State.setQueues, State.setFrame, linkIn, State.setLink,
        ready, fresh, State.reset, Pool.reset, bankGet_bankPut, queuedAt, entry, ClassQueues.get,
        ClassQueues.reset, bit] <;> first | omega | (subst h0; cases h1)
  held t := by
    by_cases h0 : (0 : Tag) = t <;> by_cases h1 : (1 : Tag) = t <;> cases upper <;>
      simp [pair, State.frame, State.setQueues, State.setFrame, linkIn, State.setLink, ready, fresh,
        State.reset, Pool.reset, bankGet_bankPut, h0, h1, heldEntry, entry, bit]
  releasing t := by
    by_cases h0 : (0 : Tag) = t <;> by_cases h1 : (1 : Tag) = t <;> cases upper <;>
      simp [pair, State.frame, State.setQueues, State.setFrame, linkIn, State.setLink, ready, fresh,
        State.reset, Pool.reset, bankGet_bankPut, h0, h1, releasingEntry, entry, bit]
  tagless := by
    cases upper <;> simp [pair, State.setQueues, State.setFrame, linkIn, State.setLink, ready, fresh,
      State.reset, Pool.reset]

theorem notWaiting (s : State) (h : s.path.slot = .empty) : ∀ a d p, s.path.slot ≠ .waiting a d p := by
  intro a d p hp
  rw [h] at hp
  cases hp

theorem notDeciding (s : State) (h : s.path.slot = .empty) : ∀ a d k, s.path.slot ≠ .deciding a d k := by
  intro a d k hp
  rw [h] at hp
  cases hp

/-! ### Witnesses: records, the step, invariants -/

theorem witness_CommandRecordsRoundTrip :
    (Instr.linkDrain 9 15).wf = true ∧ encodeCommand (.linkDrain 9 15) = some (record32 [0x12, 0, 9, 0, 0x0F]) ∧
      byteAt (record32 [0x17]) 0 ∉ commandCodes := by decide +kernel
theorem witness_StepRunsTheFrontCommand : { ready with pending := [.claim, .pinReset] }.pending = [.claim, .pinReset] :=
  rfl
theorem witness_EmptyQueueLetsTimePass_unanchored :
    State.reset.pending = [] ∧ State.reset.quiet = true ∧ State.reset.path.engine = .unanchored := by
  decide +kernel
theorem witness_EmptyQueueLetsTimePass_boundary :
    let s : State := { ready with timing := { ready.timing with timebase := 32000 } }
    s.pending = [] ∧ s.quiet = true ∧ s.path.engine ≠ .unanchored ∧ s.superframeEnd ≤ s.timing.timebase := by
  decide +kernel
theorem witness_EmptyQueueLetsTimePass_slot :
    let s : State := { ready with timing := { ready.timing with timebase := 500 } }
    s.pending = [] ∧ s.quiet = true ∧ s.path.engine ≠ .unanchored ∧ s.timing.timebase < s.superframeEnd ∧
      s.timing.nextSlot < 64 ∧ s.slotTime s.timing.nextSlot ≤ s.timing.timebase := by decide +kernel
theorem witness_EmptyQueueLetsTimePass_time :
    ∀ k ∈ [0, 1, 2, 9],
      let s := holding { ready with timing := { ready.timing with timebase := 31999, nextSlot := 64 } }
        (.deciding 0x1000 [] k) .idle
      s.pending = [] ∧ s.quiet = true ∧ s.path.engine ≠ .unanchored ∧ s.timing.timebase < s.superframeEnd ∧
        64 ≤ s.timing.nextSlot ∧ s.path.slot = .deciding 0x1000 [] k := by decide +kernel
theorem witness_EmptyQueueLetsTimePass_free :
    ready.pending = [] ∧ ready.quiet = true ∧ ready.path.engine ≠ .unanchored ∧
      ready.timing.timebase < ready.superframeEnd ∧ ready.timing.timebase < ready.slotTime ready.timing.nextSlot ∧
      ∀ a d k, ready.path.slot ≠ .deciding a d k :=
  ⟨by decide +kernel, by decide +kernel, by decide +kernel, by decide +kernel, by decide +kernel,
    notDeciding _ rfl⟩
theorem witness_StepKeepsMemoryForm :
    Memory.wf (ready.store 0x8000 [1, 0, 2]).mem = true ∧
      ∃ t, step { ready.store 0x8000 [1, 0, 2] with pending := [.systemWrite 0x8000 [0]] } = .next t :=
  ⟨by decide +kernel, _, rfl⟩
theorem witness_StepKeepsLinkBounds :
    (∀ n, ((up 2 0x33 ready).link n).boundsOk = true) ∧
      ∃ t, step { up 2 0x33 ready with pending := [.completionProcess] } = .next t :=
  ⟨by decide +kernel, _, rfl⟩

/-- A table with an entry of the highest metrics R90 allows. -/
def routed : State :=
  { ready with routes := ready.routes.setEntry 0 (some ⟨0xC4, .live false ⟨2, 65534⟩ (some ⟨5, 65534⟩) 0 31⟩) }

theorem routed_ok : ∀ p e, routed.routes.entry p = some e → e.body.ok = true := by
  intro p e h
  by_cases hp : (0 : RoutePos) = p
  · subst hp
    have : routed.routes.entry 0 = some ⟨0xC4, .live false ⟨2, 65534⟩ (some ⟨5, 65534⟩) 0 31⟩ := by decide +kernel
    rw [this] at h
    cases h
    decide
  · have : routed.routes.entry p = none := by
      simp [routed, RouteTable.entry, RouteTable.setEntry, bankGet_bankPut, hp, ready, fresh, State.reset,
        RouteTable.reset]
    rw [this] at h
    cases h

theorem witness_StepKeepsRouteMetrics :
    (∀ p e, routed.routes.entry p = some e → e.body.ok = true) ∧
      ∃ t, step { routed with pending := [.claim] } = .next t := ⟨routed_ok, _, rfl⟩
theorem witness_StepKeepsPoolPlaces :
    (withQueued .table .active).PoolOk ∧
      ∃ t, step { withQueued .table .active with pending := [.slotStart] } = .next t :=
  ⟨poolOk_withQueued _ _, _, rfl⟩
theorem witness_StepKeepsInjectionQueue :
    (full ready).path.queueOk = true ∧ ∃ t, step { full ready with pending := [.injectedWriteTaken] } = .next t :=
  ⟨by decide +kernel, _, rfl⟩
theorem witness_StepKeepsInFlightBound :
    (completing .active 1 ready).sched.inFlight.length ≤ (completing .active 1 ready).sched.ringSize.getD 0 ∧
      ∃ t, step { completing .active 1 ready with pending := [.slotStart] } = .next t :=
  ⟨by decide +kernel, _, rfl⟩

/-! ### Witnesses: the Memory Path -/

theorem witness_MalformedAccessesFault :
    accessOk (0x1002 : BitVec 32).toNat [0, 0, 0, 0].length = false ∧ accessOk (0x1000 : BitVec 32).toNat 0 = false := by
  decide +kernel
theorem witness_WriteRunsCoverTheirBytes :
    4294967276 + (List.replicate 20 (0 : Byte)).length ≤ 4294967296 ∧
      (writeRun 4294967276 (List.replicate 20 0))[0]? = some (4294967276, [0, 0, 0, 0]) := by decide +kernel

theorem witness_SystemWritesPassOrAreDropped :
    ready.quiet = true ∧ ready.pathFree = true ∧ accessOk (0x8000 : BitVec 32).toNat 4 = true ∧
      ready.writeAction 0x8000 [1, 2, 3, 4] = .passes ∧ ready.queueFull = false ∧
      (full ready).quiet = true ∧ (full ready).pathFree = true ∧
      (full ready).writeAction 0x8000 [1, 2, 3, 4] = .passes ∧
      (∀ i, i < 1 → (Nat.iterate State.takeHead i (full ready)).queueFull = true) ∧
      (Nat.iterate State.takeHead 1 (full ready)).queueFull = false ∧
      ready.path.engine ≠ .unanchored ∧ ready.path.windows = some w0 ∧
      (∀ r ∈ w0.ranges, overlaps 0x8000 4 r.1 r.2 = false) := by decide +kernel
/-- With two accesses waiting as a tail, three heads are taken before an entry stands free. -/
theorem witness_SystemWritesPassOrAreDropped_tails :
    let s : State := { full ready with path := { (full ready).path with
      tails := List.replicate 2 (.write .ownFrame 0x4000 []) } }
    s.quiet = true ∧ s.pathFree = true ∧ s.writeAction 0x8000 [1, 2, 3, 4] = .passes ∧
      (∀ i, i < 3 → (Nat.iterate State.takeHead i s).queueFull = true) ∧
      (Nat.iterate State.takeHead 3 s).queueFull = false := by decide +kernel
theorem witness_SystemWritesPassOrAreDropped_unanchored :
    fresh.quiet = true ∧ fresh.pathFree = true ∧ fresh.path.engine = .unanchored ∧
      fresh.pins.anchorSel = some 0 ∧ inside 0x2000 4 (anchorBase 0) 256 = false := by decide +kernel
theorem witness_SystemWritesPassOrAreDropped_dropped :
    (∀ a ∈ [(0x2000 : Nat), 0x20FC, 0x2800, 0x2BFC, 0x4000, 0x4FFC], accessOk a 4 = true) ∧
      overlaps 0x2000 4 w0.txBase (16 * w0.txSize) = true ∧ overlaps 0x20FC 4 w0.txBase (16 * w0.txSize) = true ∧
      overlaps 0x2800 4 w0.repBase (32 * w0.repSize) = true ∧
      overlaps 0x2BFC 4 w0.repBase (32 * w0.repSize) = true ∧ overlaps 0x4000 4 w0.frameBase 4096 = true ∧
      overlaps 0x4FFC 4 w0.frameBase 4096 = true := by decide +kernel

/-- An anchor that validates: the windows of `w0`, own id 0x0021, default parameters and role ROOT. -/
def goodAnchor : List Byte :=
  halfBytes 0x21 ++ [0, 0] ++ natWord 0x1000 ++ natHalf 16 ++ [0, 0] ++ natWord 0x2000 ++ natWord 0x2100 ++
    natHalf 16 ++ [0, 0] ++ natWord 0x2200 ++ natHalf 16 ++ [0, 0] ++ natWord 0x2400 ++ natHalf 16 ++ [0, 0] ++
    natWord 0x2800 ++ natHalf 32 ++ [0, 0] ++ natWord 0x4000 ++ natWord 0x3000 ++ natWord 0x3004 ++
    natWord 0x3008 ++ [32, 32, 4, 8, 64, 255, 8, 16, 8, 2, 4, 40, 20, 4, 1, 2] ++ List.replicate 176 0

/-- UNANCHORED with that anchor staged. -/
def staged : State := { fresh with path := { fresh.path with staging := goodAnchor } }

theorem witness_AnchorWritesAreStaged :
    fresh.quiet = true ∧ fresh.pathFree = true ∧ fresh.queueFull = false ∧
      accessOk (0x0FFFFFE0 : BitVec 32).toNat 16 = true ∧ fresh.path.engine = .unanchored ∧
      fresh.pins.anchorSel = some 0 ∧ inside (0x0FFFFFE0 : BitVec 32).toNat 16 (anchorBase 0) 256 = true ∧
      overlaps ((0x0FFFFFE0 : BitVec 32).toNat - anchorBase 0) 16 0xFC 4 = false := by decide +kernel
theorem witness_CommitValidatesTheAnchor :
    staged.quiet = true ∧ staged.pathFree = true ∧ staged.queueFull = false ∧
      accessOk (0x0FFFFFFC : BitVec 32).toNat 4 = true ∧ staged.path.engine = .unanchored ∧
      staged.pins.anchorSel = some 0 ∧ inside (0x0FFFFFFC : BitVec 32).toNat 4 (anchorBase 0) 256 = true ∧
      overlaps ((0x0FFFFFFC : BitVec 32).toNat - anchorBase 0) 4 0xFC 4 = true ∧
      validate 0 (overlay staged.path.staging 0xFC [1, 0, 0, 0]) = .ok ∧
      validate 0 (overlay fresh.path.staging 0xFC [1, 0, 0, 0]) ≠ .ok := by decide +kernel

/-- R165: a report that an UNANCHOR left queued is gone after the commit, and the status write stands alone. -/
theorem test_commit_empties_the_queue :
    (match exec (.anchorCommit 0x0FFFFFFC [1, 0, 0, 0]) { staged with
        path := { staged.path with queue := [.write .report 0x2800 [1]] } } with
      | .next t => t.path.queue ++ t.path.tails
      | _ => []) = [.write .anchorStatus 0x0FFFFFF8 (natWord 1)] := by decide +kernel

theorem witness_ReceiveCompletionsAreHeld :
    ready.quiet = true ∧ ready.pathFree = true ∧ accessOk (0x10F0 : BitVec 32).toNat 16 = true ∧
      (rxRecord 0x10000 20 1).length = 16 ∧ ready.path.windows = some w0 ∧ w0.owns 0x10F0 16 = false ∧
      inside 0x10F0 16 w0.rxBase (16 * w0.rxSize) = true ∧ ready.path.engine = .running ∧
      rxStatus (rxRecord 0x10000 20 1) = 1 ∧ lengthOk (rxLength (rxRecord 0x10000 20 1)) = true ∧
      lengthOk (rxLength (rxRecord 0x10000 19 1)) = false ∧ rxStatus (rxRecord 0x10000 20 2) ≠ 1 ∧
      ready.queueFull = false ∧ quiescing.path.engine ≠ .unanchored ∧ quiescing.path.engine ≠ .running ∧
      quiescing.quiet = true ∧ quiescing.pathFree = true ∧ quiescing.queueFull = false ∧
      quiescing.path.windows = some w0 := by decide +kernel
theorem witness_TransmitCompletionsAreCopied :
    let s : State := { ready with completion := ⟨List.replicate 32 ⟨0, []⟩, 0⟩ }
    ready.quiet = true ∧ ready.pathFree = true ∧ accessOk (0x21F0 : BitVec 32).toNat 16 = true ∧
      (txRecord 15 1 1 0).length = 16 ∧ ready.path.engine ≠ .unanchored ∧ ready.path.windows = some w0 ∧
      w0.owns 0x21F0 16 = false ∧ inside 0x21F0 16 w0.rxBase (16 * w0.rxSize) = false ∧
      inside 0x21F0 16 w0.txcBase (16 * w0.txSize) = true ∧ ready.completion.queue.length < 32 ∧
      ready.queueFull = false ∧ s.quiet = true ∧ s.pathFree = true ∧ s.path.engine ≠ .unanchored ∧
      s.path.windows = some w0 ∧ 32 ≤ s.completion.queue.length := by decide +kernel
theorem witness_PostWordsAreCaptured :
    ready.quiet = true ∧ ready.pathFree = true ∧ ready.queueFull = false ∧
      (∀ a ∈ [(0x3000 : Nat), 0x3004, 0x3008], accessOk a 4 = true ∧ w0.owns a 4 = false) ∧
      ready.path.engine ≠ .unanchored ∧ ready.path.windows = some w0 ∧
      (word [15, 0, 0, 0] 0).toNat = 15 ∧ (0x3000 : BitVec 32).toNat = w0.cmdPost ∧
      (0x3004 : BitVec 32).toNat = w0.localPost ∧ (0x3008 : BitVec 32).toNat = w0.repConsumed ∧
      w0.localPost ≠ w0.cmdPost ∧ w0.repConsumed ≠ w0.cmdPost ∧ w0.repConsumed ≠ w0.localPost := by
  decide +kernel
/-- 10.7, the last rows of the example: C goes to 2, where P stands, and INT falls; a value outside the ring is
ignored and leaves it asserted. -/
theorem test_int_follows_consumed :
    let s : State := { ready with reports := { ready.reports with producer := 2, consumed := 3, intEnable := true } }
    [(2 : Byte), 40].map (fun v => match execReportConsumedWord 0x3008 [v, 0, 0, 0] s with
      | .next t => (t.reports.consumed, t.int)
      | _ => (0, false)) = [(2, false), (3, true)] := by decide +kernel

/-- Tag 0 IN_RING at position 0, whose descriptor is written and not yet fetched. -/
def unfetched : State :=
  let s := (completing .active 1 ready).setMark 0 .written
  { s with sched := { s.sched with inFlight := [⟨0, .data 0 2, false, false, false⟩] }, completion := ⟨[], 0⟩ }

theorem witness_DescriptorFetchesAreMarked :
    ready.quiet = true ∧ ready.pathFree = true ∧ ready.queueFull = false ∧ ready.path.engine ≠ .unanchored ∧
      ready.path.windows = some w0 ∧ 15 < w0.txSize ∧ w0.txSize ≤ 256 ∧
      (0x20F0 : BitVec 32).toNat = w0.txBase + 16 * 15 ∧ accessOk (0x20F0 : BitVec 32).toNat 8 = true ∧
      accessOk (0x20F0 : BitVec 32).toNat 16 = true ∧ ready.mark 15 ≠ .written ∧
      (ready.setMark 15 .written).quiet = true ∧ (ready.setMark 15 .written).pathFree = true ∧
      (ready.setMark 15 .written).mark 15 = .written ∧ (ready.setMark 15 .written).inFlightAt 15 = none := by
  decide +kernel
theorem witness_DescriptorFetchesAreMarked_frame :
    unfetched.quiet = true ∧ unfetched.pathFree = true ∧ unfetched.queueFull = false ∧
      unfetched.path.engine ≠ .unanchored ∧ unfetched.path.windows = some w0 ∧
      (0x2000 : BitVec 32).toNat = w0.txBase + 16 * 0 ∧ accessOk (0x2000 : BitVec 32).toNat 8 = true ∧
      unfetched.mark 0 = .written ∧ unfetched.inFlightAt 0 = some ⟨0, .data 0 2, false, false, false⟩ ∧
      unfetched.frame 0 = some (entry .table (.inRing 2 0)) ∧
      ((completing .active 1 ready).setMark 0 .written).inFlightAt 0 = some ⟨0, .data 0 2, false, true, false⟩ := by
  decide +kernel
/-- A record of an own frame, and one of a frame whose entry is not IN_RING. -/
theorem witness_DescriptorFetchesAreMarked_others :
    (let s : State := { unfetched with sched := { unfetched.sched with inFlight := [⟨0, .beacon 0, false, false, false⟩] } }
     s.quiet = true ∧ s.pathFree = true ∧ s.mark 0 = .written ∧
      s.inFlightAt 0 = some ⟨0, .beacon 0, false, false, false⟩) ∧
      (let s := unfetched.setFrame 0 (some (entry .table (.releasing .sent)))
       s.quiet = true ∧ s.pathFree = true ∧ s.mark 0 = .written ∧
        s.inFlightAt 0 = some ⟨0, .data 0 2, false, false, false⟩ ∧
        s.frame 0 = some (entry .table (.releasing .sent))) := by decide +kernel

theorem witness_HeldWriteDelaysAccesses :
    let s := holding ready (.released 0x1000 (rxRecord 0x10000 20 1)) .idle
    s.quiet = true ∧ s.path.slot ≠ .empty ∧ accessOk (0x8000 : BitVec 32).toNat 4 = true ∧
      accessOk (0x1008 : BitVec 32).toNat 8 = true ∧
      overlaps 0x1008 8 s.path.slot.range.1 s.path.slot.range.2 = true ∧ s.path.waiting = [] ∧
      s.queueFull = false ∧ accessOk (0x1010 : BitVec 32).toNat 16 = true ∧
      overlaps 0x1010 16 s.path.slot.range.1 s.path.slot.range.2 = false ∧
      s.fetchedPositions 0x1010 16 = [] := by decide +kernel
/-- Reads behind a write that waits: one overlaps it and waits, one passes. -/
theorem witness_HeldWriteDelaysAccesses_waiting :
    let s : State := { holding ready (.released 0x1000 (rxRecord 0x10000 20 1)) .idle with
      path := { (holding ready (.released 0x1000 (rxRecord 0x10000 20 1)) .idle).path with
        waiting := [.write 0x8000 [1, 2, 3, 4], .read 0x8000 4, .read 0x1000 4] } }
    s.quiet = true ∧ s.path.slot ≠ .empty ∧ Access.write 0x8000 [1, 2, 3, 4] ∈ s.path.waiting ∧
      overlaps 0x8002 2 0x8000 4 = true ∧ accessOk (0x8002 : BitVec 32).toNat 2 = true ∧
      overlaps 0x8004 4 0x8000 4 = false ∧ accessOk (0x8004 : BitVec 32).toNat 4 = true ∧
      overlaps 0x8004 4 s.path.slot.range.1 s.path.slot.range.2 = false ∧ s.queueFull = false ∧
      s.path.waiting[0]? = some (.write 0x8000 [1, 2, 3, 4]) ∧ s.path.waiting[1]? = some (.read 0x8000 4) ∧
      overlaps 0x8000 4 0x8000 4 = true ∧ s.path.waiting[2]? = some (.read 0x1000 4) ∧
      overlaps 0x1000 4 s.path.slot.range.1 s.path.slot.range.2 = true ∧
      s.fetchedPositions 0x8004 4 = [] := by decide +kernel

/-- `ready`, with accesses waiting behind the held write. -/
def behind (h : HeldSlot) (xs : List Access) (s : State) : State :=
  { s with path := { s.path with slot := h, waiting := xs } }
theorem witness_HeldWritesAreReleased :
    (∀ h ∈ [HeldSlot.released 0x1000 [1], .claimed 0x1000 [1] false],
      (holding ready h .idle).quiet = true ∧ (holding ready h .idle).path.waiting = [] ∧
        (holding ready h .idle).path.slot = h ∧ (holding ready h .idle).queueFull = false) ∧
      (let s := queued (holding ready (.claimed 0x1000 [1] true) .idle) [.write .rewrite 0x1000 [2]]
       s.quiet = true ∧ s.path.waiting = [] ∧ s.path.slot = .claimed 0x1000 [1] true ∧
        s.path.queue = .write .rewrite 0x1000 [2] :: []) := by decide +kernel
theorem witness_HeldWritesAreReleased_waiting :
    (let s := behind (.released 0x1000 [1]) [.write 0x8000 [1, 2, 3, 4], .read 0x1020 16, .write 0x8004 [5]] ready
     s.quiet = true ∧ s.queueFull = false ∧ s.writeAction 0x8000 [1, 2, 3, 4] = .passes ∧
      s.fetchedPositions 0x1020 16 = [] ∧ s.writeAction 0x8004 [5] = .passes) ∧
      (let s := behind (.released 0x1000 [1]) [.write 0x1010 (rxRecord 0x10000 20 1), .write 0x8000 [1]] ready
       s.quiet = true ∧ s.queueFull = false ∧ s.writeAction 0x1010 (rxRecord 0x10000 20 1) = .held ∧
        (∀ x ∈ [Access.write 0x8000 [1]], x.isWrite = true) ∧
        lengthOk (rxLength (rxRecord 0x10000 20 1)) = true) ∧
      (let s := queued (behind (.claimed 0x1000 [1] true) [.write 0x8000 [1], .read 0x1020 16] ready)
        [.write .rewrite 0x1000 [2]]
       s.quiet = true ∧ s.path.queue = .write .rewrite 0x1000 [2] :: [] ∧ s.dropHead.queueFull = false ∧
        s.writeAction 0x8000 [1] = .passes ∧ s.fetchedPositions 0x1020 16 = []) := by decide +kernel
theorem witness_InjectedWritesReachMemory :
    (∀ what ∈ [Writer.patch, .ownFrame, .report, .anchorStatus, .descriptor 0, .skip 0],
      (queued ready [.write what 0x9000 [1]]).quiet = true ∧
        (queued ready [.write what 0x9000 [1]]).headTurn = true) ∧
      (queued (holding ready (.released 0x1000 [1]) .idle) [.write .patch 0x9000 [1]]).headTurn = false ∧
      (queued ready [.write (.skip 0) 0x9000 [1]]).mark 0 ≠ .fetched ∧
      ((queued ready [.write (.skip 0) 0x9000 [1]]).setMark 0 .fetched).mark 0 = .fetched ∧
      ((queued ready [.write (.skip 0) 0x9000 [1]]).setMark 0 .fetched).headTurn = true := by decide +kernel
theorem witness_PinResetReleasesTheHeldWrite :
    (∀ h ∈ [HeldSlot.empty, .deciding 0x1000 [1] 4, .claimed 0x1000 [1] true, .released 0x1000 [1],
        .waiting 0x2100 [1] 0],
      (behind h [.write 0x1000 [2], .read 0x1020 16, .write 0x8000 [3]] ready).path.slot = h) ∧
      State.reset.pins.resetAsserted = true := by decide +kernel

/-! ### Witnesses: the Receive Classifier -/

/-- The Classifier gathering in memory `m`, with its last read at the head of the queue. -/
def gathering (who : Reader) (g : Gather) (bytes : List Byte) : State :=
  queued { holding ready (.deciding 0x1000 (rxRecord 0x10000 20 1) 4) (.deciding 0x10000 20 g) with
    mem := memWrite [] 0x10000 bytes } [.read who 0x10000 bytes.length 0 bytes.length true true]

/-- A beacon header of payload 16: one entry. -/
def beaconHeader : List Byte := header 2 1 0 0x33 0xFFFF 0x33 16

/-- A beacon body with one entry. -/
def beaconBody : List Byte :=
  natWord 70001 ++ natHalf 100 ++ [1, 3, 0, 1] ++ halfBytes 0xC4 ++ natHalf 510 ++ halfBytes 0x1230

theorem witness_AnsweredReadsAreTested_header :
    (let s := gathering .classifierHeader (.header []) (header 1 0 0 0x33 0xC4 0x33 0)
     s.quiet = true ∧ s.headTurn = true ∧ s.passingHeld = false ∧
      s.path.queue = readAccessesAux .classifierHeader [⟨0x10000, 20, 0, 20⟩] ++ [] ∧
      s.classifier = .deciding 0x10000 20 (.header []) ∧
      s.runBytes [⟨0x10000, 20, 0, 20⟩] = header 1 0 0 0x33 0xC4 0x33 0 ∧
      headerOk (header 1 0 0 0x33 0xC4 0x33 0) 20 = true ∧ hdrKind (header 1 0 0 0x33 0xC4 0x33 0) ≠ 2) ∧
      headerOk (header 9 1 0 0x33 0xC4 0x33 0) 20 = false ∧
      (headerOk beaconHeader 36 = true ∧ hdrKind beaconHeader = 2 ∧ beaconOk beaconHeader = true) ∧
      hdrKind (header 2 1 0 0x33 0xFFFF 0x33 17) = 2 ∧ beaconOk (header 2 1 0 0x33 0xFFFF 0x33 17) = false := by
  decide +kernel
theorem witness_AnsweredReadsAreTested_body :
    (let s := gathering .classifierBody (.body beaconHeader (beaconBody.take 12)) (beaconBody.drop 12)
     s.quiet = true ∧ s.headTurn = true ∧ s.passingHeld = false ∧
      s.path.queue = readAccessesAux .classifierBody [⟨0x10000, 4, 0, 4⟩] ++ [] ∧
      s.classifier = .deciding 0x10000 20 (.body beaconHeader (beaconBody.take 12))) ∧
      bodyCount beaconBody = (hdrPayload beaconHeader - 10) / 6 ∧
      bodyCount (overlay beaconBody 9 [2]) ≠ (hdrPayload beaconHeader - 10) / 6 := by decide +kernel
/-- A header that straddles a block of 64 bytes is read in two accesses (R163), answered by one row. -/
theorem witness_AnsweredReadsAreTested_run :
    let h := header 1 0 0 0x33 0xC4 0x33 0
    let s : State := queued { holding ready (.deciding 0x1000 (rxRecord 0x10038 20 1) 4)
        (.deciding 0x10038 20 (.header [])) with mem := memWrite [] 0x10038 h }
      (readAccesses .classifierHeader 0x10038 20)
    s.quiet = true ∧ s.passingHeld = false ∧ s.path.queue =
        readAccessesAux .classifierHeader [⟨0x10038, 8, 0, 8⟩, ⟨0x10040, 16, 0, 12⟩] ++ [] ∧
      s.runBytes [⟨0x10038, 8, 0, 8⟩, ⟨0x10040, 16, 0, 12⟩] = h ∧
      (match execHeaderReadDone s with
        | .next t => (t.classifier, t.path.queue)
        | _ => (.idle, [])) = (.deciding 0x10038 20 (.ready h []), []) := by decide +kernel

/-- A decision ready to be claimed, over a state of the links. -/
def claiming (h body : List Byte) (s : State) : State :=
  holding s (.deciding 0x1000 (rxRecord 0x10000 20 1) 4) (.deciding 0x10000 20 (.ready h body))

theorem witness_ClaimsOfUnforwardedFrames :
    (let s := holding ready (.deciding 0x1000 (rxRecord 0x10000 20 1) 4) (.deciding 0x10000 20 (.malformed [9] []))
     s.quiet = true ∧ s.claimRoom 0x10000 = true ∧ s.outlierDue = []) ∧
      (∀ h ∈ [header 1 6 0 0x99 0x21 0x33 0, header 1 6 0 0x99 0xFFFF 0x33 0, header 1 6 0 0x21 0xC4 0x33 0,
          header 1 6 0 0x99 0xC4 0x45 0, header 1 1 0 0x99 0xC4 0x33 0, header 1 6 0 0x99 0 0x33 0],
        let s := claiming h [] (up 2 0x33 ready)
        s.quiet = true ∧ s.claimRoom 0x10000 = true ∧ s.outlierDue = [] ∧ hdrKind h = 1) ∧
      hdrSource (header 1 6 0 0x21 0xC4 0x33 0) = 0x21 ∧
      (up 2 0x33 ready).usableLinkOf 0x45 = none ∧ (up 2 0x33 ready).usableLinkOf 0x33 = some 2 ∧
      hdrHopLimit (header 1 1 0 0x99 0xC4 0x33 0) = 1 ∧ hdrDest (header 1 6 0 0x99 0 0x33 0) = 0 := by
  decide +kernel
/-- To 0x33 itself, in TABLE mode, from neighbour 0x33 of link 2. -/
theorem witness_ClaimForwardsAFrame_granted :
    let h := header 1 6 2 0x99 0x33 0x33 0
    let s := claiming h [] (up 2 0x33 ready)
    s.quiet = true ∧ s.claimRoom 0x10000 = true ∧ s.outlierDue = [] ∧ hdrKind h = 1 ∧
      hdrDest h ≠ s.path.ownId ∧ hdrDest h ≠ 0xFFFF ∧ hdrDest h ≠ 0 ∧ hdrSource h ≠ s.path.ownId ∧
      s.usableLinkOf (hdrLastHop h) ≠ none ∧ 1 < hdrHopLimit h ∧ hdrMode h = .table ∧
      s.lookup (hdrDest h) = some 2 ∧ s.pool.reserve < s.freeCount ∧ 1 ≤ s.freeCount ∧
      s.queuedCount 2 < (s.link 2).queueCap ∧ s.lowestFree = some 0 := by decide +kernel
/-- The same with the reserve above the free count, and with the queue at its cap. -/
theorem witness_ClaimForwardsAFrame_refused :
    let h := header 1 6 2 0x99 0x33 0x33 0
    let s := claiming h [] { up 2 0x33 ready with pool := { ready.pool with reserve := 512, heldLimit := 0 } }
    let c := claiming h [] (ready.setLink 2 { LinkRec.reset with
      neighbour := some 0x33, state := .active, queueCap := 0 })
    s.quiet = true ∧ s.claimRoom 0x10000 = true ∧ s.outlierDue = [] ∧ s.usableLinkOf (hdrLastHop h) ≠ none ∧
      s.lookup (hdrDest h) = some 2 ∧ hdrClass h ≠ .expedited ∧ s.freeCount ≤ s.pool.reserve ∧
      c.quiet = true ∧ c.claimRoom 0x10000 = true ∧ c.outlierDue = [] ∧ c.usableLinkOf (hdrLastHop h) ≠ none ∧
      c.lookup (hdrDest h) = some 2 ∧ (c.link 2).queueCap ≤ c.queuedCount 2 ∧
      s.lookup 0xC4 = none ∧ s.pool.heldLimit ≤ s.pool.heldList.length := by decide +kernel
/-- To 0xC4, which no route names: held. -/
theorem witness_ClaimForwardsAFrame_held :
    let h := header 1 6 2 0x99 0xC4 0x33 0
    let s := claiming h [] (up 2 0x33 ready)
    s.quiet = true ∧ s.claimRoom 0x10000 = true ∧ s.outlierDue = [] ∧ s.usableLinkOf (hdrLastHop h) ≠ none ∧
      1 < hdrHopLimit h ∧ hdrMode h = .table ∧ s.lookup (hdrDest h) = none ∧ s.pool.reserve < s.freeCount ∧
      1 ≤ s.freeCount ∧ s.pool.heldList.length < s.pool.heldLimit ∧ s.lowestFree = some 0 := by decide +kernel
/-- VIA mode: by neighbour 0x33, and by a node that is no neighbour. -/
theorem witness_ClaimForwardsAFrame_via :
    let h := fun (next : NodeId) => [1, 6 + 32 * 2, 1, 0] ++ halfBytes 0x99 ++ halfBytes 0xC4 ++ halfBytes 0x33 ++
      natHalf 0 ++ halfBytes next ++ List.replicate 6 0
    let s := up 2 0x33 ready
    hdrMode (h 0x33) = .via ∧ s.usableLinkOf (hdrNextHop (h 0x33)) = some 2 ∧ hdrMode (h 0x45) = .via ∧
      s.usableLinkOf (hdrNextHop (h 0x45)) = none := by decide +kernel
/-- A PROBE and a PROBE_REPLY that open a PROBING link, and a PROBE of a neighbour adopted on the lowest EMPTY
record; a frame waits on the held list. -/
theorem witness_ClaimsOfControlFrames_opening :
    (∀ kind ∈ [(3 : Byte), 4],
      let h := header kind 1 0 0x33 0x21 0x33 0
      let s := claiming h [] (withHeld (linkIn 2 (.probing 16) ready))
      s.quiet = true ∧ s.claimRoom 0x10000 = true ∧ hdrKind h = kind ∧ s.identifies (hdrSource h) = true ∧
        s.linkOf (hdrSource h) = some 2 ∧ hdrDest h = s.path.ownId ∧ (s.link 2).state = .probing 16) ∧
      (let h := header 3 1 0 0x45 0xFFFF 0x45 0
       let s := claiming h [] { up 0 0x33 ready with linkTable := { (up 0 0x33 ready).linkTable with
         acceptUnsolicited := true, pendingReplies := [0x33, 0x51, 0x52, 0x53] } }
       s.quiet = true ∧ s.claimRoom 0x10000 = true ∧ hdrKind h = 3 ∧ s.identifies (hdrSource h) = true ∧
        s.linkOf (hdrSource h) = none ∧ hdrDest h = 0xFFFF ∧ s.linkTable.acceptUnsolicited = true ∧
        (s.link 1).state = .empty ∧ (∀ m, m < 1 → (s.link m).state ≠ .empty) ∧
        s.linkTable.pendingReplies.length = 4) := by decide +kernel
theorem witness_ClaimsOfControlFrames_held :
    (claiming [] [] (withHeld (linkIn 2 (.probing 16) ready))).PoolOk := by
  have h := poolOk_withHeld (linkIn 2 (.probing 16) ready) (poolOk_of_empty _ rfl rfl rfl rfl) (by decide +kernel) rfl
  exact ⟨h.queued, h.held, h.releasing, h.tagless⟩
theorem witness_ClaimsOfControlFrames_carrying :
    ∀ st ∈ [LinkState.blocked 3, .draining, .active],
      let h := header 3 1 0 0x33 0xFFFF 0x33 0
      let s := claiming h [] { linkIn 2 st ready with linkTable := { (linkIn 2 st ready).linkTable with
        pendingReplies := [0x50, 0x51, 0x52, 0x53] } }
      s.quiet = true ∧ s.claimRoom 0x10000 = true ∧ hdrKind h = 3 ∧ s.identifies (hdrSource h) = true ∧
        s.linkOf (hdrSource h) = some 2 ∧ hdrDest h = 0xFFFF ∧ (s.link 2).carrying = true := by decide +kernel

/-- A FOLLOWER in a timing state, with a beacon of link 2 ready to be claimed. -/
def hearing (x : TimingState) (body : List Byte) : State :=
  let s := withHeld (linkIn 2 .active ready)
  claiming beaconHeader body { s with timing := { s.timing with state := x, heard := false, silence := 3 } }

/-- A beacon body launched 5000 µs after the receive offset, and one of a neighbour at depth 14. -/
def lateBody : List Byte := natWord 70001 ++ natHalf 5000 ++ beaconBody.drop 6
def deepBody : List Byte := beaconBody.take 6 ++ [14] ++ beaconBody.drop 7

theorem witness_ClaimsOfControlFrames_beacon :
    (∀ x ∈ [TimingState.seeking, .locked 2 0x33 1, .locked 5 0x45 1, .holdover 2 0x33 1],
      ∀ body ∈ [beaconBody, lateBody, deepBody],
        let s := hearing x body
        s.quiet = true ∧ s.claimRoom 0x10000 = true ∧ hdrKind beaconHeader = 2 ∧
          s.identifies (hdrSource beaconHeader) = true ∧ s.linkOf (hdrSource beaconHeader) = some 2 ∧
          (s.link 2).state = .active ∧ s.timing.role = .follower ∧ s.timing.state = x) ∧
      bodyDepth beaconBody ≤ 13 ∧ bodyHoldover beaconBody = false ∧ 13 < bodyDepth deepBody := by decide +kernel
/-- The same beacon on a BLOCKED link, on a DRAINING one, and on one that takes no beacon. -/
theorem witness_ClaimsOfControlFrames_states :
    ∀ st ∈ [LinkState.blocked 3, .draining, .probing 3, .silent, .failed .blockage],
      let s := claiming beaconHeader beaconBody (linkIn 2 st ready)
      s.quiet = true ∧ s.claimRoom 0x10000 = true ∧ hdrKind beaconHeader = 2 ∧
        s.identifies (hdrSource beaconHeader) = true ∧ s.linkOf (hdrSource beaconHeader) = some 2 ∧
        (s.link 2).state = st ∧ s.outlierDue = [] ∧
        ((s.link 2).usable = true ↔ st = .blocked 3) ∧
        ((s.link 2).carrying = true ↔ st = .blocked 3 ∨ st = .draining) := by decide +kernel
/-- The offsets -102 and -5002 of the two bodies, and the two ways a sighting gives E: by the superframe it was
received in, or, where no superframe of that number is known to have begun, not at all. -/
theorem witness_ClaimsOfControlFrames_offsets :
    (let s := hearing .seeking beaconBody
     ∀ p ∈ [((-102 : Int), beaconBody), (-5002, lateBody)],
      (p.1 - (((0 : Nat) : Int) - (bodyOffset p.2 + s.timing.propagation : Nat))) % (s.nominal : Int) = 0 ∧
        -((s.nominal : Int) / 2) ≤ p.1 ∧ p.1 < (s.nominal : Int) / 2) ∧
      500 < (-5002 : Int).natAbs ∧ (-102 : Int).natAbs ≤ 500 ∧
      (let s := hearing .seeking beaconBody
       let y : Sighting := ⟨bodyDepth beaconBody, false, 70001, 100, 0, 0⟩
       rxSuperframe (rxRecord 0x10000 20 1) = 0 ∧ rxOffset (rxRecord 0x10000 20 1) = 0 ∧
        y.receiveSuperframe = s.timing.number.extractLsb' 0 8 ∧ y.receiveOffset + 0 = s.timing.timebase ∧
        s.elapsedSince y = some 0 ∧ s.elapsedSince { y with receiveSuperframe := 9 } = none ∧
        (s.link 2).usable = true) := by decide +kernel
/-- One usable sighting: it is the best of the table. -/
theorem witness_ClaimsOfControlFrames_best (y : Sighting) :
    ∀ (i : LinkIx) (z : Sighting), bankGet (bankPut (hearing .seeking beaconBody).timing.sightings 2 (some y)) i = some z →
      y.depth < z.depth ∨ y.depth = z.depth ∧ 2 ≤ i := by
  intro i z h
  by_cases hi : (2 : LinkIx) = i
  · subst hi
    simp at h
    simp [h]
  · simp [hearing, claiming, holding, withHeld, State.setFrame, linkIn, State.setLink, ready, fresh, State.reset,
      Timing.reset, bankGet_bankPut, hi] at h
theorem witness_ClaimsOfControlFrames_ignored :
    (∀ p ∈ [((3 : Byte), LinkState.silent), (3, .failed .blockage), (4, .draining), (4, .active)],
      let h := header p.1 1 0 0x33 0x21 0x33 0
      let s := claiming h [] (linkIn 2 p.2 ready)
      s.quiet = true ∧ s.claimRoom 0x10000 = true ∧ hdrKind h = p.1 ∧ s.linkOf (hdrSource h) = some 2 ∧
        (s.link 2).state = p.2 ∧ s.outlierDue = []) ∧
      (∀ h ∈ [header 3 1 0 0x33 0x45 0x33 0, header 3 1 0 0x21 0x21 0x33 0, header 3 1 0 0x99 0x21 0x99 0,
          header 4 1 0 0x99 0x21 0x99 0, header 2 1 0 0x99 0xFFFF 0x99 16],
        let s := claiming h [] (up 2 0x33 ready)
        s.quiet = true ∧ s.claimRoom 0x10000 = true ∧ s.outlierDue = []) ∧
      (up 2 0x33 ready).linkOf 0x99 = none ∧ ready.linkTable.acceptUnsolicited = false ∧
      ready.identifies 0x21 = false ∧ hdrDest (header 3 1 0 0x33 0x45 0x33 0) = 0x45 := by decide +kernel
theorem witness_BudgetExpiryAbandonsTheDecision :
    (claiming beaconHeader [] ready).quiet = true ∧
      (claiming beaconHeader [] ready).path.slot = .deciding 0x1000 (rxRecord 0x10000 20 1) 4 := by decide +kernel

/-! ### Witnesses: the Local Intake -/

/-- The Intake in a stage. -/
def intakeIn (g : IntakeStage) (s : State) : State := { s with intake := ⟨15, 0, g⟩ }

/-- A tagless item waits in the backlog. -/
def tagless (s : State) : State :=
  { s with pool := { s.pool with backlog := [.tagless 0x9000 .malformed] } }

/-- The Intake's entry read about to be answered with a length. -/
def entryAnswer (length : Nat) (s : State) : State :=
  queued (intakeIn .fetchingEntry { s with mem := memWrite [] 0x22F0 (natWord 0x10000 ++ natHalf length) })
    [.read .intakeEntry 0x22F0 16 0 16 true true]

theorem witness_LocalEntriesAreFetched :
    (intakeIn .idle ready).quiet = true ∧ (intakeIn .idle ready).path.windows = some w0 ∧
      (intakeIn .idle ready).path.engine = .running ∧ (intakeIn .idle ready).intake.stage = .idle ∧
      (intakeIn .idle ready).intake.index ≠ (intakeIn .idle ready).intake.post ∧
      (intakeIn .idle ready).room 1 = true := by decide +kernel
theorem witness_LocalEntriesAreFetched_answered :
    (∀ s ∈ [entryAnswer 20 ready, entryAnswer 19 ready, entryAnswer 2049 (tagless ready), entryAnswer 20 quiescing],
      s.quiet = true ∧ s.path.windows = some w0 ∧ s.headTurn = true ∧
        s.path.queue = .read .intakeEntry 0x22F0 16 0 16 true true :: []) ∧
      lengthOk (readLocalEntry (((memRead (entryAnswer 20 ready).mem 0x22F0 16).drop 0).take 16)).length = true ∧
      lengthOk (readLocalEntry (((memRead (entryAnswer 19 ready).mem 0x22F0 16).drop 0).take 16)).length = false ∧
      (entryAnswer 19 ready).taglessWaiting = false ∧ (entryAnswer 2049 (tagless ready)).taglessWaiting = true ∧
      (entryAnswer 20 { quiescing with pool := ready.pool }).isQuiescing = true ∧
      (entryAnswer 20 { quiescing with pool := ready.pool }).taglessWaiting = false := by decide +kernel
theorem witness_LocalEntriesAreFetched_handing :
    (∀ s ∈ [intakeIn (.handing ⟨0x10000, 20⟩ [] .malformed) ready,
        intakeIn (.handing ⟨0x10000, 20⟩ [] .malformed) (tagless ready)],
      s.quiet = true ∧ s.path.windows = some w0 ∧ s.intake.stage = .handing ⟨0x10000, 20⟩ [] .malformed) ∧
      (entryAnswer 20 quiescing).isQuiescing = true ∧ (entryAnswer 20 quiescing).taglessWaiting = true ∧
      (intakeIn .idle ready).taglessWaiting = false ∧ (tagless ready).taglessWaiting = true := by decide +kernel

/-- The header of a local frame about to be answered. -/
def headerAnswer (h : List Byte) (s : State) : State :=
  queued (intakeIn (.fetchingHeader ⟨0x10000, 20⟩ []) { s with mem := memWrite [] 0x10000 h })
    [.read .intakeHeader 0x10000 20 0 20 true true]

theorem witness_LocalHeadersAreJudged :
    (∀ s ∈ [ready, tagless ready, quiescing, { quiescing with pool := ready.pool }],
      ∀ h ∈ [header 1 6 2 0x21 0xC4 0x21 0, header 1 0 2 0x21 0xC4 0x21 0],
        let s := headerAnswer h s
        s.quiet = true ∧ s.path.windows = some w0 ∧ s.headTurn = true ∧ s.passingHeld = false ∧
          s.path.queue = readAccessesAux .intakeHeader [⟨0x10000, 20, 0, 20⟩] ++ [] ∧
          s.intake.stage = .fetchingHeader ⟨0x10000, 20⟩ [] ∧
          h = [] ++ s.runBytes [⟨0x10000, 20, 0, 20⟩]) ∧
      ready.path.engine = .running ∧ quiescing.isQuiescing = true ∧ ready.taglessWaiting = false ∧
      (tagless ready).taglessWaiting = true ∧ quiescing.taglessWaiting = true ∧
      (let h := header 1 6 2 0x21 0xC4 0x21 0
       headerOk h 20 = true ∧ hdrKind h = 1 ∧ hdrSource h = 0x21 ∧ hdrHopLimit h ≠ 0 ∧ hdrDest h ≠ 0 ∧
        hdrDest h ≠ 0xFFFF ∧ hdrDest h ≠ 0x21) ∧ hdrHopLimit (header 1 0 2 0x21 0xC4 0x21 0) = 0 := by
  decide +kernel
/-- A local header that straddles a block of 64 bytes is read in two accesses (R163), answered by one row. -/
theorem witness_LocalHeadersAreJudged_run :
    let h := header 1 6 2 0x21 0xC4 0x21 0
    let s : State := queued { intakeIn (.fetchingHeader ⟨0x10038, 20⟩ []) ready with mem := memWrite [] 0x10038 h }
      (readAccesses .intakeHeader 0x10038 20)
    s.quiet = true ∧ s.path.windows = some w0 ∧ s.passingHeld = false ∧ s.path.queue =
        readAccessesAux .intakeHeader [⟨0x10038, 8, 0, 8⟩, ⟨0x10040, 16, 0, 12⟩] ++ [] ∧
      s.intake.stage = .fetchingHeader ⟨0x10038, 20⟩ [] ∧
      s.runBytes [⟨0x10038, 8, 0, 8⟩, ⟨0x10040, 16, 0, 12⟩] = h ∧
      (match execLocalHeaderReadDone s with
        | .next t => (t.intake.stage, t.path.queue)
        | _ => (.idle, [])) = (.fetched ⟨0x10038, 20⟩ h, []) := by decide +kernel
theorem witness_LocalFramesAreAdmitted :
    (let h := header 1 6 2 0x21 0x33 0x21 0
     ∀ g ∈ [IntakeStage.fetched ⟨0x10000, 20⟩ h, .stalled ⟨0x10000, 20⟩ h 2 true],
      let s := intakeIn g (up 2 0x33 ready)
      s.quiet = true ∧ s.path.engine = .running ∧ s.path.windows = some w0 ∧
        s.room (patchLength 0x10000) = true ∧ s.intake.stage = g ∧ hdrMode h = .table ∧
        s.lookup (hdrDest h) = some 2 ∧ s.pool.reserve < s.freeCount ∧ 1 ≤ s.freeCount ∧
        s.queuedCount 2 < (s.link 2).queueCap ∧ s.lowestFree = some 0 ∧ s.lookup 0xC4 = none ∧
        s.pool.heldList.length < s.pool.heldLimit ∧ s.taglessWaiting = false ∧
        s.usableLinkOf 0x45 = none) := by decide +kernel
theorem witness_LocalFramesAreAdmitted_refused :
    let h := header 1 6 2 0x21 0x33 0x21 0
    let s := intakeIn (.fetched ⟨0x10000, 20⟩ h)
      { up 2 0x33 ready with pool := { ready.pool with reserve := 512, heldLimit := 0 } }
    s.quiet = true ∧ s.room (patchLength 0x10000) = true ∧ s.lookup (hdrDest h) = some 2 ∧
      hdrClass h ≠ .expedited ∧ s.freeCount ≤ s.pool.reserve ∧ s.lookup 0xC4 = none ∧
      s.pool.heldLimit ≤ s.pool.heldList.length ∧ s.taglessWaiting = false := by decide +kernel
/-- No route, with another tagless item waiting; and VIA a node that is no neighbour while the queue is full. -/
theorem witness_LocalFramesAreAdmitted_noRoute :
    (let h := header 1 6 2 0x21 0xC4 0x21 0
     let s := intakeIn (.fetched ⟨0x10000, 20⟩ h) { tagless ready with pool := { (tagless ready).pool with heldLimit := 0 } }
     s.quiet = true ∧ s.path.engine = .running ∧ s.path.windows = some w0 ∧
      s.room (patchLength 0x10000) = true ∧ hdrMode h = .table ∧ s.lookup (hdrDest h) = none ∧
      s.pool.heldLimit ≤ s.pool.heldList.length ∧ s.taglessWaiting = true) ∧
      (let h := [1, 6 + 32 * 2, 1, 0] ++ halfBytes 0x21 ++ halfBytes 0xC4 ++ halfBytes 0x21 ++ natHalf 0 ++
        halfBytes 0x45 ++ List.replicate 6 0
       let s := intakeIn (.fetched ⟨0x10000, 20⟩ h) (full ready)
       s.quiet = true ∧ s.path.engine = .running ∧ s.path.windows = some w0 ∧
        s.room (patchLength 0x10000) = false ∧ hdrMode h = .via ∧ s.usableLinkOf (hdrNextHop h) = none ∧
        s.taglessWaiting = false) := by decide +kernel

/-! ### Witnesses: completions -/

/-- A pool with a frame in flight at tag 0 is as `PoolOk` asks. -/
theorem poolOk_completing (st : LinkState) (outcome : Byte) : (completing st outcome ready).PoolOk where
  queued t n c := by
    by_cases ht : (0 : Tag) = t <;> cases c <;>
      simp [completing, State.queuesOf, State.frame, State.setFrame, linkIn, State.setLink, ready, fresh,
        State.reset, Pool.reset, bankGet_bankPut, ht, queuedAt, entry, ClassQueues.get, ClassQueues.reset, bit]
  held t := by
    by_cases ht : (0 : Tag) = t <;>
      simp [completing, State.frame, State.setFrame, linkIn, State.setLink, ready, fresh, State.reset, Pool.reset,
        bankGet_bankPut, ht, heldEntry, entry, bit]
  releasing t := by
    by_cases ht : (0 : Tag) = t <;>
      simp [completing, State.frame, State.setFrame, linkIn, State.setLink, ready, fresh, State.reset, Pool.reset,
        bankGet_bankPut, ht, releasingEntry, entry, bit]
  tagless := by simp [completing, State.setFrame, linkIn, State.setLink, ready, fresh, State.reset, Pool.reset]

/-- A probe or reply of link 2, or a probe of another node, at the position in place of the data frame. -/
def completingProbe (carried : Carried) (st : LinkState) (outcome : Byte) (s : State) : State :=
  let s := linkIn 2 st s
  { s with
    sched := { s.sched with inFlight := [⟨0, carried, false, true, false⟩], producer := 1,
                            buffers := bankPut s.sched.buffers 4 (some 0) }
    completion := ⟨[⟨0, txRecord 0 outcome 1 0⟩], 0⟩ }

/-- `completing`, with a beacon at the position in place of the data frame. -/
def completingBeacon : State :=
  let s := completing .active 1 ready
  { s with sched := { s.sched with inFlight := [⟨0, .beacon 0, false, true, false⟩] } }

theorem witness_CompletionsAreMatchedAndRetired :
    (∀ s ∈ [completingBeacon, { completing .active 1 ready with completion := ⟨[⟨3, txRecord 3 1 1 0⟩], 0⟩ }],
      s.quiet = true ∧ s.path.engine ≠ .unanchored ∧ s.path.slot = .empty) ∧
      completingBeacon.completion.queue = ⟨0, txRecord 0 1 1 0⟩ :: [] ∧
      completingBeacon.completion.consumer = 0 ∧ txcIndex (txRecord 0 1 1 0) = 0 ∧
      completingBeacon.inFlightAt 0 = some ⟨0, .beacon 0, false, true, false⟩ ∧
      false = txcLap (txRecord 0 1 1 0) ∧ (false ≠ txcLap (txRecord 0 1 1 1)) := by decide +kernel
theorem witness_CompletionsAreMatchedAndRetired_own :
    (∀ x ∈ [(Carried.probe 4 2 0x33, LinkState.active, (1 : Byte), ready), (.reply 18 2 0x33, .blocked 3, 2, ready),
        (.probe 4 2 0x33, .blocked 3, 1, ready), (.reply 18 2 0x33, .active, 2, ready),
        (.probe 4 2 0x45, .active, 1, ready), (.reply 18 2 0x33, .silent, 2, ready),
        (.probe 4 2 0x33, .active, 3, ready), (.probe 4 2 0x33, .active, 4, quiescing),
        (.probe 4 2 0x33, .draining, 1, ready), (.reply 18 2 0x33, .draining, 2, ready)],
      let s := completingProbe x.1 x.2.1 x.2.2.1 x.2.2.2
      s.quiet = true ∧ s.path.engine ≠ .unanchored ∧ s.path.slot = .empty ∧
        s.completion.queue = ⟨0, txRecord 0 x.2.2.1 1 0⟩ :: [] ∧ s.completion.consumer = 0 ∧
        txcIndex (txRecord 0 x.2.2.1 1 0) = 0 ∧ s.inFlightAt 0 = some ⟨0, x.1, false, true, false⟩ ∧
        false = txcLap (txRecord 0 x.2.2.1 1 0) ∧ (s.link 2).state = x.2.1) ∧
      [1, 2, 3, 4].map (fun o => txcOutcome (txRecord 0 o 1 0)) = [.delivered, .undelivered, .expired, .aborted] ∧
      quiescing.isQuiescing = true ∧ ready.path.engine = .running ∧
      (let l := (linkIn 2 (.blocked 3) ready).link 2
       l.holds 0x33 = true ∧ l.holds 0x45 = false ∧ l.usable = true ∧ l.isBlocked = true) ∧
      (let l := (linkIn 2 .active ready).link 2
       l.holds 0x33 = true ∧ l.usable = true ∧ min 255 (l.undelivered + 1) < l.blockThreshold) ∧
      ((linkIn 2 .silent ready).link 2).usable = false := by decide +kernel
theorem witness_CompletionsAreMatchedAndRetired_places (carried : Carried) (st : LinkState) (outcome : Byte) :
    (completingProbe carried st outcome ready).PoolOk := poolOk_of_empty _ rfl rfl rfl rfl
theorem witness_CompletionsAreMatchedAndRetired_held :
    (withHeld (completingProbe (.probe 4 2 0x33) (.blocked 3) 1 ready)).PoolOk :=
  poolOk_withHeld _ (poolOk_of_empty _ rfl rfl rfl rfl) (by decide +kernel) rfl
/-- A probe of a DRAINING link whose queue still holds a frame, and one that brings its link to the block
threshold, ACTIVE or DRAINING, with a frame queued. -/
theorem witness_CompletionsAreMatchedAndRetired_threshold :
    (∀ st ∈ [LinkState.active, .draining],
      let s := (withNext (completingProbe (.probe 4 2 0x33) st 2 ready)).setLink 2 { LinkRec.reset with
        neighbour := some 0x33, state := st, undelivered := 1 }
      s.quiet = true ∧ s.path.engine = .running ∧ s.path.slot = .empty ∧ (s.link 2).holds 0x33 = true ∧
        (s.link 2).carrying = true ∧ (s.link 2).climbing = false ∧ s.queuedCount 2 ≠ 0 ∧
        s.othersInFlight 0 2 = 0 ∧ (s.link 2).blockThreshold ≤ min 255 ((s.link 2).undelivered + 1) ∧
        (1 : Tag) ∈ (s.queuesOf 2).all ∧ s.frame 1 = some (entry .table (.queued 2))) ∧
      (let s := completingProbe (.probe 4 2 0x33) .draining 3 ready
       s.queuedCount 2 = 0 ∧ s.othersInFlight 0 2 = 0 ∧ (withNext s).queuedCount 2 ≠ 0 ∧
        (withNext s).inFlightAt 0 = some ⟨0, .probe 4 2 0x33, false, true, false⟩) := by decide +kernel
theorem witness_CompletionsAreMatchedAndRetired_pool (st : LinkState) :
    ((withNext (completingProbe (.probe 4 2 0x33) st 2 ready)).setLink 2 { LinkRec.reset with
        neighbour := some 0x33, state := st, undelivered := 1 }).PoolOk := by
  have h := poolOk_withNext (completingProbe (.probe 4 2 0x33) st 2 ready) (poolOk_of_empty _ rfl rfl rfl rfl) rfl rfl
  exact ⟨h.queued, h.held, h.releasing, h.tagless⟩
/-- A completion write that waits for a place, with a write and a read behind it, and with a further completion. -/
theorem witness_CompletionsAreMatchedAndRetired_waiting :
    let c : CompletionItem := ⟨0, txRecord 0 1 1 0⟩
    let s : State := behind (.waiting 0x2110 (txRecord 1 1 1 0) 1)
      [.write 0x8000 [1], .read 0x1020 16] (completing .active 1 ready)
    let u : State := { behind (.waiting 0x2110 (txRecord 1 1 1 0) 1)
        [.write 0x2120 (txRecord 2 1 1 0), .write 0x8000 [1]] (completing .active 1 ready) with
      completion := ⟨c :: List.replicate 31 c, 0⟩ }
    s.quiet = true ∧ s.path.engine ≠ .unanchored ∧ s.completion.queue = c :: [] ∧
      s.path.slot = .waiting 0x2110 (txRecord 1 1 1 0) 1 ∧ s.queueFull = false ∧
      s.writeAction 0x8000 [1] = .passes ∧ s.fetchedPositions 0x1020 16 = [] ∧
      u.quiet = true ∧ u.path.engine ≠ .unanchored ∧ u.completion.queue = c :: List.replicate 31 c ∧
      u.path.slot = .waiting 0x2110 (txRecord 1 1 1 0) 1 ∧ (List.replicate 31 c).length = 31 ∧
      u.queueFull = false ∧ u.writeAction 0x2120 (txRecord 2 1 1 0) = .copied 2 ∧
      Access.isWrite (.write 0x8000 [1]) = true := by decide +kernel
theorem witness_CompletedFramesAreReleased :
    (∀ s ∈ [completing .silent 1 ready, completing .silent 2 ready, completing .active 2 quiescing],
      s.quiet = true ∧ s.path.slot = .empty ∧ s.completion.consumer = 0 ∧
        s.inFlightAt 0 = some ⟨0, .data 0 2, false, true, false⟩ ∧
        s.frame 0 = some (entry .table (.inRing 2 0)) ∧ (entry .table (.inRing 2 0)).inFlight = true) ∧
      (completing .silent 1 ready).completion.queue = [⟨0, txRecord 0 1 1 0⟩] ∧
      txcIndex (txRecord 0 1 1 0) = 0 ∧ false = txcLap (txRecord 0 1 1 0) ∧
      txcOutcome (txRecord 0 1 1 0) = .delivered ∧ txcOutcome (txRecord 0 2 1 0) = .undelivered ∧
      (completing .silent 1 ready).path.engine = .running ∧
      ((completing .silent 1 ready).link 2).state = .silent ∧
      (completing .active 2 quiescing).isQuiescing = true := by decide +kernel

/-- `completing`, with another entry and link record. -/
def finishing (f : Frame) (l : LinkRec) (outcome : Byte) : State :=
  ((completing .active outcome ready).setFrame 0 (some f)).setLink 2
    { l with neighbour := some 0x33, state := l.state }

/-- An UNDELIVERED frame with budget left, in TABLE mode with no route and VIA a usable link, one with none left;
an EXPIRED one, at first and the second time; and an ABORTED one. The target of the first is the held list, or
with no place on it a release. -/
theorem witness_CompletedFramesAreReleased_placed :
    (∀ x ∈ [(LinkState.active, (2 : Byte), entry .table (.inRing 2 0)), (.blocked 2, 2, entry .via (.fetched 2 0)),
        (.failed .blockage, 2, entry .via (.inRing 2 0)), (.active, 3, entry .via (.inRing 2 0)),
        (.active, 2, { entry .via (.inRing 2 0) with budget := some 0 }),
        (.probing 3, 3, { entry .table (.inRing 2 0) with expiry := 1 }), (.active, 4, entry .table (.inRing 2 0)),
        (.draining, 1, entry .table (.inRing 2 0)), (.draining, 2, entry .via (.inRing 2 0))],
      let s := finishing x.2.2 { LinkRec.reset with state := x.1 } x.2.1
      s.quiet = true ∧ s.path.engine = .running ∧ s.path.slot = .empty ∧
        s.completion.queue = ⟨0, txRecord 0 x.2.1 1 0⟩ :: [] ∧
        s.inFlightAt 0 = some ⟨0, .data 0 2, false, true, false⟩ ∧ s.frame 0 = some x.2.2 ∧
        x.2.2.inFlight = true ∧ x.2.2.link? = some 2 ∧ (s.link 2).state = x.1 ∧
        min 255 ((s.link 2).undelivered + 1) < (s.link 2).blockThreshold ∧
        s.pool.heldList.length < s.pool.heldLimit) ∧
      (finishing (entry .table (.inRing 2 0)) { LinkRec.reset with state := .active } 2).lookup 0xC4 = none ∧
      (entry .table (.inRing 2 0)).budget = some (0 + 1) ∧ (entry .table (.inRing 2 0)).expiry = 0 := by
  decide +kernel
theorem witness_DeliveredFramesAreSampled :
    let s := completing .active 1 ready
    s.quiet = true ∧ s.path.engine = .running ∧ s.path.slot = .empty ∧
      s.completion.queue = ⟨0, txRecord 0 1 1 0⟩ :: [] ∧ s.completion.consumer = 0 ∧
      txcIndex (txRecord 0 1 1 0) = 0 ∧ s.inFlightAt 0 = some ⟨0, .data 0 2, false, true, false⟩ ∧
      false = txcLap (txRecord 0 1 1 0) ∧ s.frame 0 = some (entry .table (.inRing 2 0)) ∧
      (entry .table (.inRing 2 0)).inFlight = true ∧ (s.link 2).state = .active ∧ (s.link 2).carrying = true ∧
      txcOutcome (txRecord 0 1 1 0) = .delivered ∧ (s.link 2).climbing = false ∧
      txcAttempts (txRecord 0 1 1 0) = 1 ∧ (s.link 2).pace + (s.link 2).upStep < 64 ∧
      txcAttempts (txRecord 0 1 2 0) ≠ 1 ∧ 64 ≤ 60 + (s.link 2).upStep := by decide +kernel
theorem witness_DeliveredFramesAreSampled_links :
    (∀ x ∈ [(Climb.mk .keep 2 3 1, (1 : Byte), LinkState.active, true, 0), (.mk .returnRate 2 3 3, 1, .active, true, 0),
        (.mk .keep 2 3 1, 2, .active, true, 0), (.mk .returnRate 2 3 3, 2, .active, true, 0),
        (.mk .keep 2 3 1, 2, .active, false, 1), (.mk .keep 2 3 1, 1, .blocked 3, false, 0),
        (.mk .keep 2 3 1, 2, .blocked 3, false, 1), (.mk .keep 2 3 1, 1, .draining, false, 0),
        (.mk .keep 2 3 1, 2, .draining, false, 0), (.mk .keep 2 3 1, 2, .draining, false, 1),
        (.mk .keep 2 3 1, 4, .draining, false, 0), (.mk .keep 2 3 1, 3, .active, true, 0)],
      let s := finishing (entry .table (.inRing 2 0)) { LinkRec.reset with
        state := x.2.2.1, rate := 4, ceiling := 6, climb := some x.1, climbing := x.2.2.2.1
        undelivered := x.2.2.2.2 } x.2.1
      s.quiet = true ∧ s.path.engine = .running ∧ s.path.slot = .empty ∧
        s.completion.queue = ⟨0, txRecord 0 x.2.1 1 0⟩ :: [] ∧ (s.link 2).carrying = true ∧
        ((s.link 2).climbing = true → (s.link 2).state = .active) ∧
        (entry .table (.inRing 2 0)).link? = some 2 ∧ s.queuedCount 2 = 0 ∧ s.othersInFlight 0 2 = 0 ∧
        (s.link 2).climb = some x.1 ∧ (s.link 2).climbing = x.2.2.2.1 ∧ (s.link 2).undelivered = x.2.2.2.2) ∧
      1 + 1 < 4 ∧ 4 ≤ 3 + 1 ∧ min 255 (0 + 1) < LinkRec.reset.blockThreshold ∧
      LinkRec.reset.blockThreshold ≤ min 255 (1 + 1) := by decide +kernel
/-- The pools of the states above. -/
theorem witness_DeliveredFramesAreSampled_places (st : LinkState) (l : LinkRec) (outcome : Byte) :
    (completing st outcome ready).PoolOk ∧ (finishing (entry .table (.inRing 2 0)) l outcome).PoolOk := by
  have h := poolOk_completing .active outcome
  have hf : ∀ t, (finishing (entry .table (.inRing 2 0)) l outcome).frame t =
      (completing .active outcome ready).frame t := fun t => by
    by_cases ht : (0 : Tag) = t <;>
      simp [finishing, completing, State.frame, State.setFrame, State.setLink, linkIn, bankGet_bankPut, ht]
  exact ⟨poolOk_completing st outcome, fun t n c => by rw [hf t]; exact h.queued t n c,
    fun t => by rw [hf t]; exact h.held t, fun t => by rw [hf t]; exact h.releasing t, h.tagless⟩
/-- The pools with a frame queued on the link that is blocked, and with one held when the link is unblocked. -/
theorem witness_DeliveredFramesAreSampled_pools :
    (withNext (completing .active 2 ready)).PoolOk ∧ (withHeld (completing (.blocked 3) 1 ready)).PoolOk ∧
      (withNext (completing .draining 2 ready)).PoolOk ∧ (withNext (completing .draining 2 ready)).queuedCount 2 ≠ 0 ∧
      (1 : Tag) ∈ ((withNext (completing .active 2 ready)).queuesOf 2).all ∧
      (withNext (completing .active 2 ready)).frame 1 = some (entry .table (.queued 2)) ∧
      (withHeld (completing (.blocked 3) 1 ready)).pool.heldList = [1] :=
  ⟨poolOk_withNext _ (poolOk_completing _ _) (by decide +kernel) rfl,
    poolOk_withHeld _ (poolOk_completing _ _) (by decide +kernel) rfl,
    poolOk_withNext _ (poolOk_completing _ _) (by decide +kernel) rfl, by decide +kernel, by decide +kernel,
    by decide +kernel, rfl⟩
theorem witness_MovingAverageLiesBetween : (32768 ≤ 32768 ∧ 0 ≤ 32768 ∧ 1 ≤ 15 ∧ 15 ≤ 15 : Prop) := by decide

/-! ### Witnesses: slots and boundaries -/

/-- `ready` at slot `j` of an active plan that holds `e` there. -/
def atSlot (j : SlotIx) (e : SlotEntry) (s : State) : State :=
  { s with
    timing := { s.timing with nextSlot := j.val }
    sched := { s.sched with planA := { s.sched.planA with slots := bankPut s.sched.planA.slots j e } } }

/-- The own-frame buffer is busy. -/
def busy (b : BufIx) (s : State) : State :=
  { s with sched := { s.sched with buffers := bankPut s.sched.buffers b (some 0) } }

/-- The transmit ring has no free position. -/
def ringFull (s : State) : State := { s with sched := { s.sched with ringSize := some 0 } }

theorem witness_UnusedSlotsWriteNothing :
    ∀ s ∈ [atSlot 63 .idle ready, atSlot 63 .shared quiescing, atSlot 63 (.tx 2) (linkIn 2 .silent ready),
        atSlot 63 (.tx 2) (linkIn 2 (.probing 1) ready), atSlot 63 (.tx 2) (linkIn 2 .active (ringFull ready)),
        atSlot 63 (.tx 2) (linkIn 2 .draining ready), atSlot 63 (.tx 2) (linkIn 2 (.blocked 1) (busy 4 ready)),
        atSlot 63 .beacon (busy 0 ready), atSlot 63 .beacon (ringFull ready), atSlot 63 .shared ready],
      s.quiet = true ∧ s.timing.nextSlot = (63 : SlotIx).val ∧ s.path.engine ≠ .unanchored ∧
        s.slotTime (63 : SlotIx).val < s.superframeEnd := by decide +kernel
theorem witness_UnusedSlotsWriteNothing_reasons :
    quiescing.isQuiescing = true ∧ bankGet (atSlot 63 .idle ready).sched.activePlan.slots 63 = .idle ∧
      ((linkIn 2 .silent ready).link 2).closed = true ∧ (ringFull ready).ringFree = false ∧
      (linkIn 2 .draining ready).queuedCount 2 = 0 ∧ ((linkIn 2 (.blocked 1) ready).link 2).isBlocked = true ∧
      (busy 4 ready).bufferFree (probeBuffer 2) = false ∧ (busy 0 ready).bufferFree ready.sched.beaconBuffer = false ∧
      ready.linkTable.pendingReplies = [] := by decide +kernel
theorem witness_BeaconSlotSendsABeacon :
    let s := atSlot 63 .beacon { routed with sched := { routed.sched with stage := .announced .b } }
    s.quiet = true ∧ s.path.engine = .running ∧ s.timing.nextSlot = (63 : SlotIx).val ∧
      s.slotTime (63 : SlotIx).val < s.superframeEnd ∧ bankGet s.sched.activePlan.slots 63 = .beacon ∧
      s.bufferFree s.sched.beaconBuffer = true ∧ s.ringFree = true ∧ s.sched.stage = .announced .b ∧
      ready.sched.stage = .none := by decide +kernel
/-- Tag 0 of 100 bytes at rate 0 takes 170 µs, which fits the slot of factor 4 and, of factor 1, only the slot
with the IDLE one after it. -/
theorem witness_TxSlotsSendFramesOrProbes_frames :
    ∀ s ∈ [atSlot 62 (.tx 2) (withQueued .table .active), atSlot 62 (.tx 2) (withQueued .via .draining)],
      s.quiet = true ∧ s.path.engine = .running ∧ s.timing.nextSlot = (62 : SlotIx).val ∧
        s.slotTime (62 : SlotIx).val < s.superframeEnd ∧ bankGet s.sched.activePlan.slots 62 = .tx 2 ∧
        s.ringFree = true ∧ (s.queuesOf 2).all = [0] ∧ airtime (s.link 2).rate 100 ≤ s.slotBudget := by
  decide +kernel
theorem witness_TxSlotsSendFramesOrProbes_extended :
    let s := atSlot 62 (.tx 2) (atSlot 63 .idle { withQueued .table .active with
      sched := { ready.sched with slotFactor := 1 } })
    s.quiet = true ∧ s.path.engine = .running ∧ s.timing.nextSlot = (62 : SlotIx).val ∧
      s.slotTime (62 : SlotIx).val < s.superframeEnd ∧ bankGet s.sched.activePlan.slots 62 = .tx 2 ∧
      s.ringFree = true ∧ (s.link 2).state = .active ∧ (s.queuesOf 2).all = [0] ∧
      s.frame 0 = some (entry .table (.queued 2)) ∧ s.slotBudget < airtime (s.link 2).rate 100 ∧
      airtime (s.link 2).rate 100 ≤ s.slotBudget + s.slotLength ∧
      bankGet s.sched.activePlan.slots 63 = .idle := by decide +kernel
theorem witness_TxSlotsSendFramesOrProbes_probe :
    let s := atSlot 62 (.tx 2) (linkIn 2 (.blocked 9) ready)
    s.quiet = true ∧ s.path.engine = .running ∧ s.timing.nextSlot = (62 : SlotIx).val ∧
      s.slotTime (62 : SlotIx).val < s.superframeEnd ∧ bankGet s.sched.activePlan.slots 62 = .tx 2 ∧
      s.ringFree = true ∧ (s.link 2).isBlocked = true ∧ s.bufferFree (probeBuffer 2) = true := by decide +kernel
/-- Two frames of 100 bytes at rate 0 take 340 µs, which fit the slot of factor 4 but not that of factor 2. -/
theorem witness_TxSlotsSendFramesOrProbes_burst :
    (∀ upper ∈ [true, false],
      let s := atSlot 62 (.tx 2) (pair upper (linkIn 2 .active ready))
      s.quiet = true ∧ s.path.engine = .running ∧ s.timing.nextSlot = (62 : SlotIx).val ∧
        s.slotTime (62 : SlotIx).val < s.superframeEnd ∧ bankGet s.sched.activePlan.slots 62 = .tx 2 ∧
        s.ringFree = true ∧ (s.link 2).state = .active ∧ s.sched.ringSize = some 16 ∧ s.sched.producer < 16 ∧
        s.sched.inFlight.length + 2 ≤ 16 ∧ (s.link 2).interleave ≠ 3 ∧
        (∀ g ∈ [(0 : Tag), 1], ∃ f ∈ s.frame g, f.length = 100) ∧
        s.queuesOf 2 = (if upper = true then ⟨[0], [1], [], []⟩ else ⟨[], [], [0], [1]⟩) ∧
        airtime (s.link 2).rate 100 + airtime (s.link 2).rate 100 ≤ s.slotBudget) ∧
      (let s := atSlot 62 (.tx 2) (pair true { linkIn 2 .active ready with sched := { ready.sched with slotFactor := 2 } })
       s.quiet = true ∧ s.slotBudget < airtime (s.link 2).rate 100 + airtime (s.link 2).rate 100 ∧
        airtime (s.link 2).rate 100 ≤ s.slotBudget ∧ s.slotTime (62 : SlotIx).val < s.superframeEnd) := by
  decide +kernel
theorem witness_TxSlotsSendFramesOrProbes_pool (upper : Bool) :
    (atSlot 62 (.tx 2) (pair upper (linkIn 2 .active ready))).PoolOk := by
  have h := poolOk_pair upper
  exact ⟨h.queued, h.held, h.releasing, h.tagless⟩
/-- `ready` at a SHARED slot, with link 2 PROBING and a reply to a node pending. -/
def replying (node : NodeId) : State :=
  atSlot 62 .shared { linkIn 2 (.probing 4) ready with
    linkTable := { (linkIn 2 (.probing 4) ready).linkTable with pendingReplies := [node] } }

/-- The reply of a known neighbour is pending, or that of one that is gone. -/
theorem witness_TxSlotsSendFramesOrProbes_shared :
    (∀ s ∈ [replying 0x33, replying 0x77],
      s.quiet = true ∧ s.path.engine = .running ∧ s.ringFree = true ∧
        s.slotTime (62 : SlotIx).val < s.superframeEnd ∧ bankGet s.sched.activePlan.slots 62 = .shared ∧
        s.bufferFree 18 = true) ∧
      (replying 0x33).linkTable.pendingReplies = [0x33] ∧ (replying 0x77).linkTable.pendingReplies = [0x77] ∧
      (replying 0x33).linkOf 0x33 = some 2 ∧ (replying 0x77).linkOf 0x77 = none := by
  decide +kernel
theorem witness_TxSlotsSendFramesOrProbes_rotation :
    let s := atSlot 62 .shared (linkIn 2 (.probing 4) ready)
    s.linkTable.pendingReplies = [] ∧ (2 : LinkIx).val = (s.sched.probePointer.val + 1 + 2) % 16 ∧
      ∀ m : LinkIx, (∃ x, x < 16 ∧ m.val = (s.sched.probePointer.val + 1 + x) % 16 ∧ x ≤ 2) →
        ((∃ timer, (s.link m).state = .probing timer) ∧ (s.link m).probeSent = false ∧
          s.bufferFree (probeBuffer m) = true ↔ m = 2) := by
  refine ⟨rfl, rfl, ?_⟩
  intro m _
  by_cases hm : (2 : LinkIx) = m
  · subst hm
    exact ⟨fun _ => rfl, fun _ => ⟨⟨4, by decide +kernel⟩, by decide +kernel, by decide +kernel⟩⟩
  · constructor
    · rintro ⟨⟨k, hk⟩, -⟩
      simp [atSlot, linkIn, State.link, State.setLink, ready, fresh, State.reset, LinkTable.reset, LinkRec.reset,
        bankGet_bankPut, hm] at hk
    · exact fun h => absurd h.symm hm
theorem witness_BoundaryBeginsASuperframe :
    ready.quiet = true ∧ ready.path.engine ≠ .unanchored ∧ ready.timing.pendingRoot = false ∧
      { ready.timing with pendingRoot := true }.pendingRoot = true := by decide +kernel
/-- At the end of the superframe, with slot 0 of the active plan IDLE. -/
def calm (s : State) : State :=
  { s with
    timing := { s.timing with timebase := 32000 }
    sched := { s.sched with planA := { s.sched.planA with slots := bankPut s.sched.planA.slots 0 .idle } } }

theorem witness_BoundaryBeginsASuperframe_calm :
    let s := calm (withQueued .table .active)
    s.path.engine = .running ∧ s.superframeEnd ≤ s.timing.timebase ∧ s.path.slot = .empty ∧
      s.timing.state = .seeking ∧ s.routes.boundaryCount + 1 < 16 ∧ s.sched.stage = .none ∧
      bankGet s.sched.activePlan.slots 0 = .idle ∧
      (let q := calm { quiescing with sched := { quiescing.sched with stage := .announced .b } }
       q.path.engine = .quiescing .keep 0 ∧ q.superframeEnd ≤ q.timing.timebase ∧ q.path.slot = .empty ∧
        q.routes.boundaryCount + 1 < 16 ∧ 0 + 1 < 64) := by decide +kernel
theorem witness_BoundaryBeginsASuperframe_frames :
    ∀ g f, (calm (withQueued .table .active)).frame g = some f → ((∃ n, f.place = .queued n) ∨ f.place = .held) →
      f.age + 1 ≤ (calm (withQueued .table .active)).pool.maxAge f.cls ∧
        (f.place = .held → f.age + 1 < (calm (withQueued .table .active)).pool.holdTimeout) := by
  intro g f hf _
  by_cases hg : (0 : Tag) = g
  · subst hg
    rw [show (calm (withQueued .table .active)).frame 0 = some (entry .table (.queued 2)) by decide +kernel] at hf
    cases hf
    exact ⟨by decide +kernel, fun h => by cases h⟩
  · simp [calm, withQueued, State.frame, State.setQueues, State.setFrame, linkIn, State.setLink, ready, fresh,
      State.reset, Pool.reset, bankGet_bankPut, hg] at hf
theorem witness_BoundaryBeginsASuperframe_links :
    ∀ n, (∀ k, ((calm (withQueued .table .active)).link n).state = .probing k ∨
          ((calm (withQueued .table .active)).link n).state = .blocked k → 2 ≤ k) ∧
      (((calm (withQueued .table .active)).link n).carrying = true →
        (if ((calm (withQueued .table .active)).link n).heard = true
          then ((calm (withQueued .table .active)).link n).missCount
          else ((calm (withQueued .table .active)).link n).missCount + 1) <
            (calm (withQueued .table .active)).linkTable.missLimit) := by
  intro n
  by_cases hn : (2 : LinkIx) = n <;>
    simp [calm, withQueued, State.link, State.setQueues, State.setFrame, linkIn, State.setLink, ready, fresh,
      State.reset, LinkTable.reset, LinkRec.reset, bankGet_bankPut, hn, LinkRec.carrying, LinkRec.usable]
theorem witness_BoundaryBeginsASuperframe_routes :
    ∀ p d st h q x age, (calm (withQueued .table .active)).routes.entry p ≠ some ⟨d, .live st h q x age⟩ := by
  intro p d st h q x age
  simp [calm, withQueued, State.setQueues, State.setFrame, linkIn, State.setLink, ready, fresh, State.reset,
    RouteTable.reset, RouteTable.entry]
/-- One thing at its threshold for each block that can come first. -/
theorem witness_BoundaryBeginsASuperframe_due :
    (let f := { entry .table (.queued 2) with age := 64 }
     ((withQueued .table .active).setFrame 0 (some f)).frame 0 = some f ∧ f.age < 255 ∧
      ready.pool.maxAge f.cls ≤ f.age ∧ ready.pool.holdTimeout ≤ 7 + 1) ∧
      ((linkIn 2 (.probing 1) ready).link 2).state = .probing 1 ∧
      ((linkIn 2 (.blocked 1) ready).link 2).state = .blocked 1 ∧
      ready.linkTable.missLimit ≤ 7 + 1 ∧ ((linkIn 2 .active ready).link 2).heard = false ∧
      (ready.routes.setEntry 9 (some ⟨0xC4, .live true ⟨2, 9⟩ none 0 127⟩)).entry 9 =
        some ⟨0xC4, .live true ⟨2, 9⟩ none 0 127⟩ ∧ 128 ≤ 127 + 1 ∧ 32 ≤ 31 + 1 ∧ 31 + 1 < 128 ∧ 16 ≤ 15 + 1 ∧
      (completing .active 1 { quiescing with path := { quiescing.path with engine := .quiescing .keep 63 } }).path.engine =
        .quiescing .keep 63 ∧ (completing .active 1 quiescing).sched.inFlight ≠ [] := by decide +kernel
/-- The silence and holdover counts below and at their limits. -/
theorem witness_BoundaryBeginsASuperframe_counts :
    ∀ x ∈ [(TimingState.locked 2 0x33 1, 6, 0), (.locked 2 0x33 1, 7, 0), (.holdover 2 0x33 1, 8, 62),
        (.holdover 2 0x33 1, 8, 63)],
      let s := calm { ready with timing := { ready.timing with state := x.1, silence := x.2.1, holdover := x.2.2 } }
      s.quiet = true ∧ s.timing.state = x.1 ∧ s.timing.pendingRoot = false ∧ s.timing.heard = false := by
  decide +kernel

/-! ### Witnesses: consequences -/

/-- One entry of the route table owing a consequence. -/
def owingRoute (b : RouteBody) (c : Consequence) : State :=
  owing c { ready with routes := ready.routes.setEntry 255 (some ⟨0xC4, b⟩) }

theorem witness_RouteConsequencesAreCarriedOut :
    (owingRoute (.live false ⟨2, 9⟩ none 7 32) (.routeStale 255)).work = .due (.routeStale 255) :: [] ∧
      (owingRoute (.live false ⟨2, 9⟩ none 7 32) (.routeStale 255)).routes.entry 255 =
        some ⟨0xC4, .live false ⟨2, 9⟩ none 7 32⟩ ∧
      (owingRoute (.live true ⟨2, 9⟩ none 7 128) (.routeAgePoison 255)).work = .due (.routeAgePoison 255) :: [] ∧
      (owingRoute (.poisoned 7 3 0) (.poisonCountExpiry 255)).work = .due (.poisonCountExpiry 255) :: [] ∧
      (owingRoute (.poisoned 7 3 0) (.poisonCountExpiry 255)).routes.entry 255 = some ⟨0xC4, .poisoned 7 3 0⟩ ∧
      (owing .ownSequenceAdvance ready).work = .due .ownSequenceAdvance :: [] := by decide +kernel
/-- A route table full of one body. -/
def fullRoutes (b : RouteBody) : RouteTable :=
  { RouteTable.reset with entries := Vector.replicate 256 (some ⟨0xC4, b⟩) }

theorem fullRoutes_entry (b : RouteBody) (p : RoutePos) : (fullRoutes b).entry p = some ⟨0xC4, b⟩ := by
  simp [fullRoutes, RouteTable.entry]

/-- An advertisement of a destination the table holds, newer, of the same sequence and older; and one of a
destination that a full table does not hold. -/
theorem witness_RouteConsequencesAreCarriedOut_learn :
    routed.routes.posOf 0xC4 = some 0 ∧
      routed.routes.entry 0 = some ⟨0xC4, .live false ⟨2, 65534⟩ (some ⟨5, 65534⟩) 0 31⟩ ∧
      (1 ≤ ((1 : BitVec 16) - 0).toNat ∧ ((1 : BitVec 16) - 0).toNat ≤ 32767) ∧
      ¬(((0x8000 : BitVec 16) - 0).toNat ≤ 32767) ∧ min 65535 (510 + 4072 + RouteTable.reset.penalty) < 65535 ∧
      min 65535 (65000 + 4072 + RouteTable.reset.penalty) = 65535 ∧ RouteTable.reset.posOf 0x77 = none ∧
      RouteTable.reset.lowestFree = some 0 := by decide +kernel
theorem witness_RouteConsequencesAreCarriedOut_full :
    (fullRoutes (.live false ⟨2, 9000⟩ none 0 31)).posOf 0x77 = none ∧
      (fullRoutes (.live false ⟨2, 9000⟩ none 0 31)).lowestFree = none ∧ 4622 < 9000 := by decide +kernel
theorem witness_RouteConsequencesAreCarriedOut_victims :
    (∀ q d' x' age' k', (fullRoutes (.poisoned 0 0 3)).entry q = some ⟨d', .poisoned x' age' k'⟩ →
      3 < k' ∨ 3 = k' ∧ (0 : RoutePos) ≤ q) ∧
    (∀ q d' x' age' k', (fullRoutes (.live false ⟨2, 9⟩ none 0 31)).entry q ≠ some ⟨d', .poisoned x' age' k'⟩) ∧
    (∀ q d' st' h' y' x' age', (fullRoutes (.live false ⟨2, 9⟩ none 0 31)).entry q =
      some ⟨d', .live st' h' y' x' age'⟩ →
        h'.metric < 9 ∨ h'.metric = 9 ∧ (age' < 31 ∨ age' = 31 ∧ (0 : RoutePos) ≤ q)) ∧
    (∀ p, ∃ d h, (fullRoutes (.pinned ⟨2, 5⟩)).entry p = some ⟨d, .pinned h⟩) := by
  refine ⟨?_, ?_, ?_, ?_⟩
  · intro q d' x' age' k' h
    rw [fullRoutes_entry] at h
    cases h
    exact .inr ⟨rfl, Fin.zero_le q⟩
  · intro q d' x' age' k' h
    rw [fullRoutes_entry] at h
    cases h
  · intro q d' st' h' y' x' age' h
    rw [fullRoutes_entry] at h
    cases h
    exact .inr ⟨rfl, .inr ⟨rfl, Fin.zero_le q⟩⟩
  · intro p
    exact ⟨_, _, fullRoutes_entry _ p⟩
/-- R106: a beacon's slice of a full table runs from the cursor over the end of the table, and lowers the counts. -/
theorem test_beacon_slice_wraps :
    let rt : RouteTable := { fullRoutes (.poisoned 5 3 4) with cursor := 250 }
    rt.chosen.length = 23 ∧ rt.afterBeacon.cursor = 17 ∧
      [250, 255, 0, 16, 17, 249].map rt.afterBeacon.entry =
        [3, 3, 3, 3, 4, 4].map fun k => some ⟨0xC4, .poisoned 5 3 k⟩ := by decide +kernel
/-- Table of R103, line by line, for a lost link 2, and a PINNED and a POISONED entry, which are not touched. -/
theorem test_lost_link_in_the_route_table :
    [RouteBody.live true ⟨2, 9⟩ (some ⟨5, 12⟩) 7 3, .live false ⟨2, 9⟩ none 7 3, .live false ⟨5, 9⟩ (some ⟨2, 12⟩) 7 3,
      .live false ⟨5, 9⟩ (some ⟨3, 12⟩) 7 3, .pinned ⟨2, 9⟩, .poisoned 7 3 2].map
        (fun b => ((fullRoutes b).dropLink 2).entry 200) =
      [RouteBody.live true ⟨5, 12⟩ none 7 3, .poisoned 7 0 4, .live false ⟨5, 9⟩ none 7 3,
        .live false ⟨5, 9⟩ (some ⟨3, 12⟩) 7 3, .pinned ⟨2, 9⟩, .poisoned 7 3 2].map
          fun b => some ⟨0xC4, b⟩ := by decide +kernel
theorem witness_TimingConsequencesAreCarriedOut :
    let s := fun (t : TimingState) (c : Consequence) => owing c { ready with timing := { ready.timing with state := t } }
    (s (.locked 2 0x33 1) .silenceLimit).work = .due .silenceLimit :: [] ∧
      (s (.locked 2 0x33 1) .silenceLimit).timing.state = .locked 2 0x33 1 ∧
      (s (.holdover 2 0x33 1) .holdoverTimeout).work = .due .holdoverTimeout :: [] ∧
      (s (.locked 2 0x33 1) .outlierLimit).work = .due .outlierLimit :: [] := by decide +kernel
theorem witness_FailingLinksEnterFailed :
    (owing (.beaconLoss 2) ((withQueued .via .active).setLink 2 { LinkRec.reset with
        neighbour := some 0x33, state := .active, missCount := 8 })).PoolOk ∧
      (∀ p e, ready.routes.entry p = some e → e.body.ok = true) := by
  refine ⟨?_, ?_⟩
  · have h := poolOk_withQueued .via .active
    exact ⟨h.queued, h.held, h.releasing, h.tagless⟩
  · intro p e h
    simp [ready, fresh, State.reset, RouteTable.reset, RouteTable.entry] at h
theorem witness_FailingLinksEnterFailed_causes :
    (let s := owing (.openTimeout 2) (linkIn 2 (.probing 0) ready)
     s.work = .due (.openTimeout 2) :: [] ∧ (s.link 2).state = .probing 0) ∧
      (let s := owing (.blockHoldExpiry 2) (linkIn 2 (.blocked 0) ready)
       s.work = .due (.blockHoldExpiry 2) :: [] ∧ (s.link 2).state = .blocked 0) ∧
      (let s := owing (.beaconLoss 2) ((withQueued .via .active).setLink 2 { LinkRec.reset with
        neighbour := some 0x33, state := .active, missCount := 8 })
       s.work = .due (.beaconLoss 2) :: [] ∧ (s.link 2).carrying = true ∧
        s.linkTable.missLimit ≤ (s.link 2).missCount ∧ (0 : Tag) ∈ (s.queuesOf 2).all ∧
        s.frame 0 = some (entry .via (.queued 2))) := by decide +kernel
/-- A queued TABLE frame that no route takes, with room on the held list and without. -/
theorem witness_FailingLinksEnterFailed_homeless :
    let s := owing (.blockHoldExpiry 2) (withQueued .table (.blocked 0))
    s.PoolOk ∧ s.work = .due (.blockHoldExpiry 2) :: [] ∧ (s.link 2).state = .blocked 0 ∧
      s.lookup 0xC4 = none ∧ tableFrame (s.frame 0) = true ∧ s.pool.heldList.length < s.pool.heldLimit ∧
      { s.pool with heldLimit := 0 }.heldLimit - s.pool.heldList.length = 0 := by
  have h := poolOk_withQueued .table (.blocked 0)
  exact ⟨⟨h.queued, h.held, h.releasing, h.tagless⟩, by decide +kernel⟩

/-- Tag 0 with an age, QUEUED on link 2 or HELD, owing a release. -/
def aged (place : Place) (age : Nat) (c : Consequence) : State :=
  owing c ((withQueued .table .active).setFrame 0 (some { entry .table place with age := age }))

theorem witness_AgedFramesAreReleased :
    (aged (.queued 2) 65 (.agedRelease 0)).work = .due (.agedRelease 0) :: [] ∧
      (aged (.queued 2) 65 (.agedRelease 0)).frame 0 = some { entry .table (.queued 2) with age := 65 } ∧
      (aged (.queued 2) 65 (.agedRelease 0)).pool.maxAge .bulk < 65 ∧
      (aged .held 65 (.agedRelease 0)).work = .due (.agedRelease 0) :: [] ∧
      (aged .held 8 (.holdTimeout 0)).work = .due (.holdTimeout 0) :: [] ∧
      (aged .held 8 (.holdTimeout 0)).frame 0 = some { entry .table .held with age := 8 } ∧
      (aged .held 8 (.holdTimeout 0)).pool.holdTimeout ≤ 8 := by decide +kernel
/-- The one frame queued on a DRAINING link is released AGED: the link is drained, unless a frame is in flight. -/
theorem witness_AgedFramesAreReleased_drained :
    let s := owing (.agedRelease 0) ((withQueued .table .draining).setFrame 0
      (some { entry .table (.queued 2) with age := 65 }))
    let u : State := { s with sched := { s.sched with inFlight := [⟨0, .data 9 2, false, true, false⟩] } }
    let left := fun s => match exec .agedRelease s with
      | .next t => (t.queuedCount 2, (t.link 2).state, (t.link 2).attention)
      | _ => (1, .empty, 0)
    s.work = .due (.agedRelease 0) :: [] ∧ s.frame 0 = some { entry .table (.queued 2) with age := 65 } ∧
      s.pool.maxAge .bulk < 65 ∧ s.path.engine = .running ∧ (s.link 2).state = .draining ∧
      s.inFlightCount 2 = 0 ∧ left s = (0, .silent, 32) ∧ u.work = .due (.agedRelease 0) :: [] ∧
      u.frame 0 = s.frame 0 ∧ (u.link 2).state = .draining ∧ u.inFlightCount 2 ≠ 0 ∧
      left u = (0, .draining, 0) := by decide +kernel
/-- R20, R125: an Intake STALLED on link 2 is told of its falling count; STALLED on link 3 it is not. -/
theorem test_fall_signals_the_stalled_intake :
    [(2 : LinkIx), 3].map (fun n => match exec .agedRelease
        (intakeIn (.stalled ⟨0x10000, 20⟩ [] n false) (aged (.queued 2) 65 (.agedRelease 0))) with
      | .next t => t.intake.stage
      | _ => .idle) = [.stalled ⟨0x10000, 20⟩ [] 2 true, .stalled ⟨0x10000, 20⟩ [] 3 false] := by decide +kernel
theorem witness_QuiesceLimitGivesUpTheFlight :
    let s := owing .quiesceLimit (completing .active 1 quiescing)
    s.work = .due .quiesceLimit :: [] ∧ s.isQuiescing = true ∧
      s.sched.inFlight = [⟨0, .data 0 2, false, true, false⟩] ∧ s.frame 0 = some (entry .table (.inRing 2 0)) ∧
      (entry .table (.inRing 2 0)).inFlight = true := by decide +kernel
theorem witness_QuiesceEndClearsTheBlocks :
    ∀ m ∈ [ResetMode.keep, .unanchor], ∀ h ∈ [HeldSlot.empty, .waiting 0x2100 (txRecord 0 1 1 0) 0],
      let s : State := holding { quiescing with
        pool := ready.pool, path := { quiescing.path with engine := .quiescing m 0 } } h .idle
      s.work = [] ∧ s.path.engine = .quiescing m 0 ∧ s.command.stage = .applying 0x50 7 ∧
        s.sched.inFlight = [] ∧ s.pool.backlog = [] ∧ s.intake.stage = .idle ∧ s.path.slot = h ∧
        s.path.waiting = [] ∧ s.queueFull = false := by decide +kernel

/-! ### Witnesses: reports -/

theorem notResponding (s : State) (h : s.command.stage = .idle) :
    ∀ code seq x payload, s.command.stage ≠ .responding code seq x payload := by
  intro code seq x payload hp
  rw [h] at hp
  cases hp

/-- A releasing tag 0 at the head of the backlog. -/
def releasing : State :=
  let s := ready.setFrame 0 (some (entry .table (.releasing .sent)))
  { s with pool := { s.pool with backlog := [.entry 0] } }

/-- Link 3 with attention LINK_UP. -/
def attentive : State := ready.setLink 3 { LinkRec.reset with attention := 1 }

theorem witness_ReportsAreWrittenInOrder :
    ∀ s ∈ [{ ready with command := ⟨0, 0, .responding 0x15 7 .done (List.replicate 24 0), []⟩ }, tagless ready, releasing,
        attentive, { ready with reports := ⟨31, true, 1, some ⟨.b, 1, 9⟩, none, true, none⟩ },
        { ready with reports := ⟨0, true, 0, none, some ⟨.seeking⟩, true, none⟩ }],
      (s.quiet = true ∧ s.path.engine ≠ .unanchored ∧ s.path.windows = some w0 ∧ s.reports.chosen = none ∧
        (s.reports.producer + w0.repSize - s.reports.consumed) % w0.repSize + 1 < w0.repSize ∧ s.room 1 = true ∧
        s.reports.producer < w0.repSize ∧ s.reports.consumed < w0.repSize) ∧
        (full s).quiet = true ∧ (full s).room 1 = false := by
  decide +kernel
/-- The RESPONSE of an ENGINE_RESET, with a completion write waiting; and a writer that waits with a report. -/
theorem witness_ReportsAreWrittenInOrder_quiescing :
    (∀ m ∈ [ResetMode.keep, .unanchor], ∀ h ∈ [HeldSlot.empty, .waiting 0x2100 (txRecord 0 1 1 0) 0],
      let s : State := holding { quiescing with
        pool := ready.pool, path := { quiescing.path with engine := .quiescing m 3 }
        command := ⟨1, 1, .responding 0x50 7 .done [], []⟩ } h .idle
      s.quiet = true ∧ s.path.engine = .quiescing m 3 ∧ s.path.windows = some w0 ∧ s.path.waiting = [] ∧
        s.path.slot = h ∧ s.room 1 = true ∧ (s.issue [.write .report 0x2800 []]).queueFull = false) ∧
      (let s : State := { attentive with reports := { ready.reports with chosen := some (.attention 3) } }
       s.quiet = true ∧ s.reports.chosen = some (.attention 3) ∧ (s.link 3).attention ≠ 0) := by decide +kernel
theorem witness_ReportsAreWrittenInOrder_choice :
    (tagless ready).command.stage = .idle ∧ (tagless ready).pool.backlog = .tagless 0x9000 .malformed :: [] ∧
      releasing.command.stage = .idle ∧ releasing.pool.backlog = .entry 0 :: [] ∧
      releasing.frame 0 = some (entry .table (.releasing .sent)) ∧ releasing.intake.stage = .idle ∧
      attentive.command.stage = .idle ∧ attentive.pool.backlog = [] ∧ attentive.attentionLink = some 3 ∧
      ready.attentionLink = none ∧ ready.command.stage = .idle ∧ ready.pool.backlog = [] ∧
      ready.reports.planLatch = none := by decide +kernel

/-! ### Witnesses: software commands -/

theorem witness_CommandsAreFetchedAndAnswered :
    (let s : State := { ready with command := ⟨15, 0, .idle, []⟩ }
     s.quiet = true ∧ s.path.windows = some w0 ∧ s.path.engine = .running ∧ s.command.stage = .idle ∧
      s.command.consumer ≠ s.command.post ∧ s.room 1 = true) ∧
      (fetched (.nop 7) ready).quiet = true ∧ (fetched (.nop 7) ready).fetchedCommand = some (.nop 7) ∧
      (fetched (.nop 7) ready).path.windows = some w0 ∧
      (fetched (.unknownCommand 0xFF 7) ready).fetchedCommand = some (.unknownCommand 0xFF 7) ∧
      (fetched (.unknownCommand 0xFF 7) ready).quiet = true := by decide +kernel
theorem witness_LinkOpenPlacesProbing :
    (∀ c ∈ [Instr.linkOpen 7 15 0x45 9 3 0, .linkOpen 7 16 0x45 0 7 4, .linkOpen 7 2 0x45 0 7 4,
        .linkOpen 7 3 0x33 0 7 4],
      (fetched c (up 2 0x33 ready)).quiet = true ∧ (fetched c (up 2 0x33 ready)).fetchedCommand = some c) ∧
      ((up 2 0x33 ready).link 2).closed = false ∧ ((up 2 0x33 ready).link 15).closed = true ∧
      (up 2 0x33 ready).linkOf 0x33 = some 2 ∧ (up 2 0x33 ready).linkOf 0x45 = none ∧
      (up 2 0x33 ready).path.ownId = 0x21 ∧ (16 : Byte).toNat = 16 ∧ (15 : Byte).toNat = (15 : LinkIx).val := by
  decide +kernel
theorem witness_LinkTuneStoresSelectedValues :
    let v : TuneValues := ⟨8, 3, 0, 4, 16, 17, 0, 0, 0, 0⟩
    (∀ c ∈ [Instr.linkTune 7 16 0 v, .linkTune 7 2 1 v, .linkTune 7 2 0x03F8 v, .linkTune 7 15 0x03FF v],
      (fetched c (up 2 0x33 ready)).quiet = true ∧ (fetched c (up 2 0x33 ready)).fetchedCommand = some c) ∧
      ((up 2 0x33 ready).link 2).closed = false ∧ ((up 2 0x33 ready).link 15).closed = true ∧
      (1 : BitVec 16).getLsbD 0 = true ∧ (0x03F8 : BitVec 16).getLsbD 0 = false ∧
      (0x03F8 : BitVec 16).getLsbD 1 = false ∧ (0x03F8 : BitVec 16).getLsbD 2 = false := by decide +kernel
theorem witness_LinkDrainTakesNoNewTraffic :
    (∀ c ∈ [Instr.linkDrain 7 16, .linkDrain 7 2, .linkDrain 7 3],
      ∀ s ∈ [fetched c (up 2 0x33 ready), fetched c (withQueued .via .active)],
        s.quiet = true ∧ s.fetchedCommand = some c ∧ s.path.engine = .running ∧ (s.link 2).usable = true ∧
          (s.link 3).usable = false) ∧
      (up 2 0x33 ready).queuedCount 2 = 0 ∧ (up 2 0x33 ready).inFlightCount 2 = 0 ∧
      (withQueued .via .active).queuedCount 2 ≠ 0 ∧ (2 : Byte).toNat = (2 : LinkIx).val := by decide +kernel
theorem witness_LinkCutSilencesAndRecalls :
    (fetched (.linkCut 7 2) (withQueued .via .active)).PoolOk := by
  have h := poolOk_withQueued .via .active
  exact ⟨h.queued, h.held, h.releasing, h.tagless⟩
theorem witness_LinkCutSilencesAndRecalls_states :
    (∀ c ∈ [Instr.linkCut 7 2, .linkCut 7 3, .linkCut 7 16],
      (fetched c (withQueued .via .active)).quiet = true ∧
        (fetched c (withQueued .via .active)).fetchedCommand = some c) ∧
      ((withQueued .via .active).link 2).state = .active ∧ ((withQueued .via .active).link 3).state = .empty ∧
      ((withQueued .via .silent).link 2).state = .silent ∧
      (fetched (.linkCut 7 2) (withQueued .via .silent)).fetchedCommand = some (.linkCut 7 2) ∧
      (fetched (.linkCut 7 2) (withQueued .via .silent)).quiet = true ∧
      (withQueued .via .active).frame 0 = some (entry .via (.queued 2)) ∧
      (0 : Tag) ∈ ((withQueued .via .active).queuesOf 2).all := by decide +kernel
theorem witness_LinkClearReturnsTheRecord :
    (∀ st ∈ [LinkState.silent, .failed .blockage, .active],
      (fetched (.linkClear 7 2) (linkIn 2 st ready)).quiet = true ∧
        (fetched (.linkClear 7 2) (linkIn 2 st ready)).fetchedCommand = some (.linkClear 7 2) ∧
        ((fetched (.linkClear 7 2) (linkIn 2 st ready)).link 2).state = st) ∧
      (linkIn 2 .silent ready).inFlightCount 2 = 0 ∧ (linkIn 2 .silent ready).bufferFree (probeBuffer 2) = true ∧
      (completing .silent 1 ready).inFlightCount 2 ≠ 0 ∧ (busy 4 ready).bufferFree (probeBuffer 2) = false ∧
      (fetched (.linkClear 7 2) (completing .silent 1 ready)).fetchedCommand = some (.linkClear 7 2) ∧
      (fetched (.linkClear 7 16) ready).fetchedCommand = some (.linkClear 7 16) := by decide +kernel
theorem witness_LinkQueryShowsAndClears :
    let full := ready.setLink 15 { LinkRec.reset with
      neighbour := some 0x33, climb := some ⟨.returnRate, 7, 7, 3⟩, planPair := some ⟨9, true⟩, timingPair := some ⟨15, true⟩ }
    (∀ c ∈ [Instr.linkQuery 7 15, .linkQuery 7 16], ∀ s ∈ [ready, full],
      (fetched c s).quiet = true ∧ (fetched c s).fetchedCommand = some c) ∧
      (15 : Byte).toNat = (15 : LinkIx).val ∧ (full.link 15).climb = some ⟨.returnRate, 7, 7, 3⟩ ∧
      (full.link 15).planPair = some ⟨9, true⟩ ∧ (full.link 15).timingPair = some ⟨15, true⟩ := by decide +kernel
theorem witness_LinkClimbStartsAClimb :
    let busyClimb := ready.setLink 2 { LinkRec.reset with
      neighbour := some 0x33, state := .active, climbing := true, climb := some ⟨.keep, 0, 0, 0⟩ }
    (∀ c ∈ [Instr.linkClimb 7 16 1, .linkClimb 7 2 0, .linkClimb 7 2 1, .linkClimb 7 2 2],
      ∀ s ∈ [up 2 0x33 ready, linkIn 2 (.blocked 3) ready, busyClimb],
        (fetched c s).quiet = true ∧ (fetched c s).fetchedCommand = some c) ∧
      ((up 2 0x33 ready).link 2).climbing = false ∧ ((linkIn 2 (.blocked 3) ready).link 2).state ≠ .active ∧
      (busyClimb.link 2).climbing = true := by decide +kernel
theorem witness_PinsAreSetAndFreed :
    let pinned : State := { ready with routes := ready.routes.setEntry 9 (some ⟨0xC4, .pinned ⟨2, 5⟩⟩) }
    (∀ c ∈ [Instr.routePin 7 0xC4 15 0xFFFF, .routePin 7 0xC4 16 0, .routeUnpin 7 0xC4, .routeUnpin 7 0],
      ∀ s ∈ [ready, pinned], (fetched c s).quiet = true ∧ (fetched c s).fetchedCommand = some c) ∧
      ready.routes.posOf 0xC4 = none ∧ ready.routes.lowestFree = some 0 ∧ pinned.routes.posOf 0xC4 = some 9 ∧
      ready.routes.pinnedAt 0xC4 = none ∧ pinned.routes.pinnedAt 0xC4 = some 9 ∧ ready.path.ownId = 0x21 := by
  decide +kernel
/-- ROUTE_PIN with every position taken: by one body, so the victim is position 0, or by pins only; and a frame on
the held list. -/
theorem witness_PinsAreSetAndFreed_full :
    (∀ b ∈ [RouteBody.poisoned 0 0 3, .live false ⟨2, 9⟩ none 0 31, .pinned ⟨2, 5⟩],
      let s := fetched (.routePin 7 0x77 2 5) { ready with routes := fullRoutes b }
      s.quiet = true ∧ s.fetchedCommand = some (.routePin 7 0x77 2 5) ∧ s.routes.lowestFree = none) ∧
      (fullRoutes (.pinned ⟨2, 5⟩)).posOf 0x77 = none := by decide +kernel
theorem witness_PinsAreSetAndFreed_held :
    (fetched (.routePin 7 0x77 2 5) (withHeld (up 2 0x33 ready))).PoolOk := by
  have h := poolOk_withHeld (up 2 0x33 ready) (poolOk_of_empty _ rfl rfl rfl rfl) (by decide +kernel) rfl
  exact ⟨h.queued, h.held, h.releasing, h.tagless⟩
theorem witness_RouteQueryChangesNothing :
    (∀ c ∈ [Instr.routeQuery 7 0 0xC4, .routeQuery 7 1 255, .routeQuery 7 1 256, .routeQuery 7 2 0],
      (fetched c ready).quiet = true ∧ (fetched c ready).fetchedCommand = some c) ∧
      (255 : BitVec 16).toNat = (255 : RoutePos).val ∧ ready.routes.entry 255 = none ∧
      ∀ b ∈ [RouteBody.pinned ⟨2, 65534⟩, .live true ⟨2, 300⟩ (some ⟨5, 400⟩) 9 127, .poisoned 9 0 4],
        let held : State := { ready with routes := ready.routes.setEntry 255 (some ⟨0xC4, b⟩) }
        (∀ c ∈ [Instr.routeQuery 7 0 0xC4, .routeQuery 7 1 255],
          (fetched c held).quiet = true ∧ (fetched c held).fetchedCommand = some c) ∧
        held.routes.entry 255 = some ⟨0xC4, b⟩ ∧ held.routes.posOf 0xC4 = some 255 := by decide +kernel
/-- The lookup's cases: a pinned or live entry whose link carries traffic, one whose link does not, a live one
with its alternate, and a poisoned entry or none with and without a neighbour of that id. -/
theorem witness_RouteQueryChangesNothing_lookup :
    (let s := fun (b : RouteBody) => (up 2 0xC4 { ready with routes := ready.routes.setEntry 255 (some ⟨0xC4, b⟩) })
     (∀ b ∈ [RouteBody.pinned ⟨2, 9⟩, .pinned ⟨3, 9⟩, .live false ⟨2, 9⟩ none 0 0, .live true ⟨5, 9⟩ (some ⟨2, 12⟩) 0 0,
        .poisoned 9 0 4],
      (s b).routes.entry 255 = some ⟨0xC4, b⟩) ∧ (s (.pinned ⟨2, 9⟩)).routes.posOf 0xC4 = some 255 ∧
      ((s (.poisoned 9 0 4)).link 2).usable = true ∧ ((s (.poisoned 9 0 4)).link 2).state = .active ∧
      ((s (.poisoned 9 0 4)).link 5).state = .empty ∧ ((s (.poisoned 9 0 4)).link 3).usable = false ∧
      (s (.poisoned 9 0 4)).linkOf 0xC4 = some 2) ∧
      (up 2 0xC4 ready).routes.posOf 0xC4 = none ∧ (up 2 0x33 ready).usableLinkOf 0xC4 = none := by decide +kernel
theorem witness_PlanCommandsMoveTheStage :
    let slots : List Byte := [0x80, 0xC5] ++ List.replicate 14 0x40
    let stage := fun (g : SwitchStage) => { ready with sched := { ready.sched with stage := g } }
    (∀ c ∈ [Instr.planWrite 7 1 63 16 slots, .planWrite 7 0 0 2 slots, .planWrite 7 2 0 2 slots,
        .planWrite 7 1 62 2 (0x81 :: slots.take 15), .planSwitch 7 1, .planSwitch 7 0, .planSwitch 7 255, .planCancel 7],
      ∀ s ∈ [ready, stage (.accepted .b), stage (.announced .b)],
        (fetched c s).quiet = true ∧ (fetched c s).fetchedCommand = some c) ∧
      (1 : Byte) = PlanContext.b.code ∧ (0 : Byte) = PlanContext.a.code ∧ ready.sched.active = .a ∧
      slotEntries (slots.take (min (max 1 (min 16 (16 : Byte).toNat)) (64 - min 63 (63 : Byte).toNat))) =
        some [.beacon] ∧
      slotEntries ((0x81 :: slots.take 15).take (min (max 1 (min 16 (2 : Byte).toNat)) (64 - min 63 (62 : Byte).toNat))) =
        none ∧
      (ready.sched.plan .b).valid = true ∧
      ((ready.sched.setPlan .b ⟨Vector.replicate 64 .idle, 1⟩).plan .b).valid = false := by decide +kernel
theorem witness_TimingSetHandlesTheRole :
    ∀ c ∈ [Instr.timingSet 7 1 9, .timingSet 7 2 0, .timingSet 7 0 0],
      ∀ s ∈ [ready, { ready with timing := { ready.timing with role := .root, state := .root } }],
        (fetched c s).quiet = true ∧ (fetched c s).fetchedCommand = some c := by decide +kernel
theorem witness_EngineResetStartsTheQuiesce :
    ∀ c ∈ [Instr.engineReset 7 1, .engineReset 7 2, .engineReset 7 0],
      (fetched c ready).quiet = true ∧ (fetched c ready).fetchedCommand = some c := by decide +kernel
theorem witness_EngineResetStartsTheQuiesce_states :
    let h := header 1 6 2 0x21 0xC4 0x21 0
    let deciding := claiming beaconHeader [] ready
    (fetched (.engineReset 7 1) deciding).path.slot = .deciding 0x1000 (rxRecord 0x10000 20 1) 4 ∧
      (fetched (.engineReset 7 1) deciding).fetchedCommand = some (.engineReset 7 1) ∧
      (fetched (.engineReset 7 1) deciding).path.windows = some w0 ∧
      (∀ g ∈ [IntakeStage.fetched ⟨0x10000, 20⟩ h, .stalled ⟨0x10000, 20⟩ h 2 false],
        ∀ s ∈ [fetched (.engineReset 7 2) (intakeIn g ready), fetched (.engineReset 7 2) (intakeIn g (tagless ready))],
          s.quiet = true ∧ s.path.windows = some w0 ∧ s.intake.stage = g) ∧
      ready.taglessWaiting = false ∧ (tagless ready).taglessWaiting = true := by decide +kernel
theorem witness_EngineResetStartsTheQuiesce_pool :
    (fetched (.engineReset 7 1) (withHeld (withQueued .table .active))).PoolOk ∧
      (withHeld (withQueued .table .active)).frame 0 = some (entry .table (.queued 2)) := by
  have h := poolOk_withHeld _ (poolOk_withQueued .table .active) (by decide +kernel) rfl
  exact ⟨⟨h.queued, h.held, h.releasing, h.tagless⟩, by decide +kernel⟩

end Sys2Proof.Tests
end

