-- ==== Sys2Proof/Proofs/Beacon.lean ====
section
/-!
PROOF. The BEACON slot (R12, R106, R137, R142): reading the fields of a record made of parts, the positions a beacon
carries and what it does to the Route Table, the rate and the frame of a beacon, what sending an own frame changes,
and the start of a slot that is due.
-/

namespace Sys2Proof.Machine

/-! ### Reading a record made of parts -/

theorem byteAt_append_left {a : List Byte} (b : List Byte) {i : Nat} (h : i < a.length) :
    byteAt (a ++ b) i = byteAt a i := List.getD_append a b 0 i h

theorem byteAt_append_right (a b : List Byte) (i : Nat) : byteAt (a ++ b) (a.length + i) = byteAt b i := by
  simp [byteAt, List.getElem?_append_right]

theorem half_append_left {a : List Byte} (b : List Byte) {i : Nat} (h : i + 1 < a.length) :
    half (a ++ b) i = half a i := by
  simp [half, byteAt_append_left b h, byteAt_append_left b (Nat.lt_of_succ_lt h)]

theorem half_append_right (a b : List Byte) (i : Nat) : half (a ++ b) (a.length + i) = half b i := by
  simp [half, Nat.add_assoc, byteAt_append_right]

/-- The high and the low byte of a value make the value. -/
theorem extract_append_extract (w : BitVec 16) : w.extractLsb' 8 8 ++ w.extractLsb' 0 8 = w :=
  (BitVec.extractLsb'_append_extractLsb'_eq_extractLsb' (by decide)).trans BitVec.extractLsb'_eq_self

theorem word_wordBytes (w : BitVec 32) (r : List Byte) : word (wordBytes w ++ r) 0 = w := by
  have hlo : half (wordBytes w ++ r) 0 = w.extractLsb' 0 16 := extract_append_extract _
  have hhi : half (wordBytes w ++ r) 2 = w.extractLsb' 16 16 := extract_append_extract _
  unfold word
  rw [hlo, hhi]
  exact (BitVec.extractLsb'_append_extractLsb'_eq_extractLsb' (by decide)).trans BitVec.extractLsb'_eq_self

@[simp] theorem advertBytes_length (a : Advert) : (advertBytes a).length = 6 := rfl
@[simp] theorem ownHeader_length (kind : Nat) (ownId dest : NodeId) (payload : Nat) :
    (ownHeader kind ownId dest payload).length = 20 := rfl

theorem flatMap_advertBytes_length (as : List Advert) : (as.flatMap advertBytes).length = 6 * as.length := by
  induction as with
  | nil => rfl
  | cons a as ih => simp [ih]; omega

/-- Each advert takes six bytes, so a field of advert `i` stands `6 * i` bytes on. -/
theorem half_adverts {k : Nat} (hk : k < 5) {a : Advert} : ∀ {as : List Advert} {i : Nat}, as[i]? = some a →
    half (as.flatMap advertBytes) (6 * i + k) = half (advertBytes a) k
  | b :: as, 0, h => by
    obtain rfl : b = a := by simpa using h
    simpa using half_append_left (a := advertBytes b) _ (by simp; omega)
  | b :: as, i + 1, h => by
    have ih := half_adverts hk (as := as) (i := i) (by simpa using h)
    have hi : 6 * (i + 1) + k = (advertBytes b).length + (6 * i + k) := by simp; omega
    rw [List.flatMap_cons, hi, half_append_right, ih]

/-! ### The positions a beacon carries (R106) -/

theorem RouteEntry.learned_iff {e : RouteEntry} : e.learned = true ↔ ∀ h, e.body ≠ .pinned h := by
  cases hb : e.body <;> simp [RouteEntry.learned, hb]

/-- How many positions after the beacon cursor a position comes, wrapping from 255 to 0. -/
def RouteTable.distance (rt : RouteTable) (p : RoutePos) : Nat := (p.val + 256 - rt.cursor % 256) % 256

/-- The LEARNED positions from the beacon cursor on. -/
def RouteTable.candidates (rt : RouteTable) : List RoutePos :=
  rt.lap.filter fun p => (rt.entry p).any RouteEntry.learned

theorem RouteTable.chosen_eq (rt : RouteTable) : rt.chosen = rt.candidates.take 23 := rfl

theorem RouteTable.distance_ofNat (rt : RouteTable) {i : Nat} (h : i < 256) :
    rt.distance (Fin.ofNat 256 (rt.cursor + i)) = i := by
  simp only [RouteTable.distance, Fin.val_ofNat]
  omega

theorem RouteTable.mem_lap (rt : RouteTable) (p : RoutePos) : p ∈ rt.lap := by
  refine List.mem_map.mpr ⟨rt.distance p, List.mem_range.mpr (Nat.mod_lt _ (by decide)), Fin.ext ?_⟩
  simp only [RouteTable.distance, Fin.val_ofNat]
  omega

/-- The cursor's round meets the positions in the order of their distance. -/
theorem RouteTable.lap_pairwise (rt : RouteTable) :
    rt.lap.Pairwise fun p q => rt.distance p < rt.distance q := by
  refine List.pairwise_map.mpr (List.pairwise_lt_range.imp_of_mem fun {i k} hi hk h => ?_)
  rwa [rt.distance_ofNat (List.mem_range.mp hi), rt.distance_ofNat (List.mem_range.mp hk)]

theorem RouteTable.mem_candidates {rt : RouteTable} {p : RoutePos} :
    p ∈ rt.candidates ↔ ∃ e, rt.entry p = some e ∧ ∀ h, e.body ≠ .pinned h := by
  simp [RouteTable.candidates, rt.mem_lap, Option.any_eq_true, RouteEntry.learned_iff]

theorem RouteTable.candidates_pairwise (rt : RouteTable) :
    rt.candidates.Pairwise fun p q => rt.distance p < rt.distance q := rt.lap_pairwise.filter _

theorem RouteTable.chosen_length_le (rt : RouteTable) : rt.chosen.length ≤ 23 := List.length_take_le _ _

theorem RouteTable.chosen_pairwise (rt : RouteTable) :
    rt.chosen.Pairwise fun p q => rt.distance p < rt.distance q :=
  rt.candidates_pairwise.sublist (List.take_sublist _ _)

theorem RouteTable.learned_of_chosen {rt : RouteTable} {p : RoutePos} (h : p ∈ rt.chosen) :
    ∃ d b, rt.entry p = some ⟨d, b⟩ ∧ ∀ h, b ≠ .pinned h := by
  obtain ⟨⟨d, b⟩, he, hb⟩ := RouteTable.mem_candidates.mp (List.mem_of_mem_take h)
  exact ⟨d, b, he, hb⟩

/-- A LEARNED position is left out only when 23 before it fill the beacon. -/
theorem RouteTable.full_of_not_chosen {rt : RouteTable} {p : RoutePos} {e : RouteEntry} (he : rt.entry p = some e)
    (hl : ∀ h, e.body ≠ .pinned h) (hp : p ∉ rt.chosen) :
    rt.chosen.length = 23 ∧ ∀ q ∈ rt.chosen, rt.distance q < rt.distance p := by
  have hsplit : rt.candidates = rt.chosen ++ rt.candidates.drop 23 := (List.take_append_drop 23 _).symm
  have hdrop : p ∈ rt.candidates.drop 23 := by
    have hmem := RouteTable.mem_candidates.mpr ⟨e, he, hl⟩
    rw [hsplit] at hmem
    exact (List.mem_append.mp hmem).resolve_left hp
  have hpairs := rt.candidates_pairwise
  rw [hsplit] at hpairs
  obtain ⟨-, -, hbefore⟩ := List.pairwise_append.mp hpairs
  refine ⟨?_, fun q hq => hbefore q hq p hdrop⟩
  have hlong : 0 < (rt.candidates.drop 23).length := List.length_pos_of_mem hdrop
  rw [List.length_drop] at hlong
  rw [RouteTable.chosen_eq, List.length_take]
  omega

/-- The advert of the entry at an occupied position. -/
def RouteTable.advertAt (rt : RouteTable) (p : RoutePos) : Advert :=
  match rt.entry p with
  | some e => e.advert
  | none => ⟨nodeNone, 0, 0⟩

theorem RouteTable.adverts_eq (rt : RouteTable) (ownId : NodeId) :
    rt.adverts ownId = ⟨ownId, 0, rt.ownSeq⟩ :: rt.chosen.map rt.advertAt := by
  refine congrArg _ (List.filterMap_eq_map_iff_forall_eq_some.mpr fun p hp => ?_)
  obtain ⟨d, b, he, -⟩ := RouteTable.learned_of_chosen hp
  simp [RouteTable.advertAt, he]

theorem RouteTable.adverts_length (rt : RouteTable) (ownId : NodeId) :
    (rt.adverts ownId).length = 1 + rt.chosen.length := by
  simp [RouteTable.adverts_eq, Nat.add_comm]

/-- The own entry comes first, so the entry at the chosen position `i` is advert `i + 1`. -/
theorem RouteTable.adverts_of_chosen {rt : RouteTable} (ownId : NodeId) {i : Nat} {p : RoutePos} {e : RouteEntry}
    (hp : rt.chosen[i]? = some p) (he : rt.entry p = some e) : (rt.adverts ownId)[i + 1]? = some e.advert := by
  simp [RouteTable.adverts_eq, hp, RouteTable.advertAt, he]

/-! ### The Route Table after a beacon (R106) -/

theorem RouteTable.afterBeacon_poisoned {rt : RouteTable} {p : RoutePos} {d : NodeId} {sq : BitVec 16} {age k : Nat}
    (hp : p ∈ rt.chosen) (he : rt.entry p = some ⟨d, .poisoned sq age k⟩) :
    rt.afterBeacon.entry p = some ⟨d, .poisoned sq age (k - 1)⟩ := by
  simp [RouteTable.afterBeacon_entry, hp, he, RouteBody.countDown]

theorem RouteBody.countDown_of_not_poisoned {b : RouteBody} (h : ∀ sq age k, b ≠ .poisoned sq age k) :
    b.countDown = b := by
  cases b with
  | pinned h => rfl
  | live st q alt sq age => rfl
  | poisoned sq age k => exact absurd rfl (h sq age k)

theorem RouteTable.afterBeacon_other {rt : RouteTable} {p : RoutePos}
    (h : p ∉ rt.chosen ∨ ∀ d sq age k, rt.entry p ≠ some ⟨d, .poisoned sq age k⟩) :
    rt.afterBeacon.entry p = rt.entry p := by
  rw [RouteTable.afterBeacon_entry]
  split
  case isFalse => rfl
  case isTrue hp =>
    cases he : rt.entry p with
    | none => rfl
    | some e =>
      have hb : ∀ sq age k, e.body ≠ .poisoned sq age k := fun sq age k hk =>
        h.resolve_left (not_not_intro hp) e.dest sq age k (by rw [he, ← hk])
      simp [RouteBody.countDown_of_not_poisoned hb]

/-- The entry at a position is POISONED and the next beacon that carries it is its last. -/
def RouteTable.lastBeacon (rt : RouteTable) (p : RoutePos) : Bool :=
  match rt.entry p with
  | some ⟨_, .poisoned _ _ k⟩ => decide (k ≤ 1)
  | _ => false

theorem RouteTable.poisonDue_eq (rt : RouteTable) :
    rt.poisonDue = (rt.chosen.filter rt.lastBeacon).map .poisonCountExpiry := by
  unfold RouteTable.poisonDue
  induction rt.chosen with
  | nil => rfl
  | cons p ps ih =>
    rw [List.filterMap_cons, List.filter_cons, ih]
    rcases he : rt.entry p with _ | ⟨d, _ | _ | ⟨sq, age, k⟩⟩
    case some.poisoned => by_cases hk : k ≤ 1 <;> simp [RouteTable.lastBeacon, he, hk]
    all_goals simp [RouteTable.lastBeacon, he]

/-! ### The rate of a beacon (R12) -/

theorem beaconRate_fits (budget length : Nat) :
    airtime (beaconRate budget length) length ≤ budget ∨ beaconRate budget length = 7 := by
  unfold beaconRate
  cases h : (List.range 8).find? fun r => decide (airtime r length ≤ budget) with
  | none => exact .inr rfl
  | some r => exact .inl (by simpa using List.find?_some h)

theorem beaconRate_lowest {budget length r : Nat} (h : r < beaconRate budget length) :
    budget < airtime r length := by
  unfold beaconRate at h
  cases hf : (List.range 8).find? fun r => decide (airtime r length ≤ budget) with
  | none =>
    rw [hf] at h
    have hr := List.find?_eq_none.mp hf r (List.mem_range.mpr (Nat.lt_succ_of_lt h))
    simpa using hr
  | some q =>
    rw [hf] at h
    obtain ⟨-, -, hlower⟩ := List.find?_range_eq_some.mp hf
    simpa using hlower r h

/-! ### The frame of a beacon (R12, Table 12-2) -/

/-- The frame of the beacon launched in slot `j`: its header and its body. -/
def State.beaconFrame (s : State) (j : Nat) : List Byte :=
  ownHeader 2 s.path.ownId 0xFFFF (s.beaconBody j (s.routes.adverts s.path.ownId)).length ++
    s.beaconBody j (s.routes.adverts s.path.ownId)

theorem State.beaconFrame_take (s : State) (j : Nat) : (s.beaconFrame j).take 20 =
    ownHeader 2 s.path.ownId 0xFFFF (s.beaconBody j (s.routes.adverts s.path.ownId)).length :=
  List.take_left' (ownHeader_length ..)

theorem State.beaconFrame_drop (s : State) (j : Nat) :
    (s.beaconFrame j).drop 20 = s.beaconBody j (s.routes.adverts s.path.ownId) :=
  List.drop_left' (ownHeader_length ..)

/-- The ten bytes of a beacon's body before its route entries. -/
def State.beaconHead (s : State) (j count : Nat) : List Byte :=
  wordBytes s.timing.number ++ natHalf (s.slotTime j + Config.guardTime) ++
    [toByte (s.timing.state.depth % 16 + 16 * bit s.timing.state.holdoverFlag), s.sched.announcement.1,
     toByte (bit s.sched.announcement.2), toByte count]

theorem State.beaconHead_length (s : State) (j count : Nat) : (s.beaconHead j count).length = 10 := rfl

section Body
variable (s : State) (j : Nat) (as : List Advert)

theorem State.beaconBody_eq : s.beaconBody j as = s.beaconHead j as.length ++ as.flatMap advertBytes := rfl

theorem State.beaconBody_length : (s.beaconBody j as).length = 10 + 6 * as.length := by
  rw [State.beaconBody_eq, List.length_append, State.beaconHead_length, flatMap_advertBytes_length]

theorem bodySuperframe_beaconBody : bodySuperframe (s.beaconBody j as) = s.timing.number :=
  word_wordBytes ..

theorem bodyOffset_beaconBody : bodyOffset (s.beaconBody j as) = (s.slotTime j + 10) % 65536 :=
  congrArg BitVec.toNat (extract_append_extract (BitVec.ofNat 16 (s.slotTime j + 10)))

theorem bodyDepth_beaconBody : bodyDepth (s.beaconBody j as) = s.timing.state.depth % 16 := by
  change field (toByte (s.timing.state.depth % 16 + 16 * bit s.timing.state.holdoverFlag)) 0 4 = _
  cases s.timing.state.holdoverFlag <;> simp [field, toByte, bit]

theorem bodyHoldover_beaconBody : bodyHoldover (s.beaconBody j as) = s.timing.state.holdoverFlag := by
  change (BitVec.ofNat 8 (s.timing.state.depth % 16 + 16 * bit s.timing.state.holdoverFlag)).getLsbD 4 = _
  rw [BitVec.getLsbD_ofNat, Nat.testBit_eq_decide_div_mod_eq]
  cases s.timing.state.holdoverFlag <;> simp [bit]

theorem bodyGeneration_beaconBody : bodyGeneration (s.beaconBody j as) = s.sched.announcement.1 := rfl

theorem bodyAnnounce_beaconBody : bodyAnnounce (s.beaconBody j as) = s.sched.announcement.2 := by
  change bitOf (toByte (bit s.sched.announcement.2)) 0 = _
  cases s.sched.announcement.2 <;> rfl

theorem bodyCount_beaconBody : bodyCount (s.beaconBody j as) = as.length % 256 := rfl

/-- An advert reads back with its metric cut to the 16 bits of its field. -/
theorem bodyEntry_beaconBody {as : List Advert} {i : Nat} {a : Advert} (h : as[i]? = some a) :
    bodyEntry (s.beaconBody j as) i = ⟨a.dest, a.metric % 65536, a.seq⟩ := by
  have hfield : ∀ k < 5, half (s.beaconBody j as) (10 + k + 6 * i) = half (advertBytes a) k := fun k hk => by
    rw [show 10 + k + 6 * i = (s.beaconHead j as.length).length + (6 * i + k) by
      rw [State.beaconHead_length]; omega, State.beaconBody_eq, half_append_right, half_adverts hk h]
  have hdest : half (advertBytes a) 0 = a.dest := extract_append_extract a.dest
  have hmetric : half (advertBytes a) 2 = BitVec.ofNat 16 a.metric := extract_append_extract _
  have hseq : half (advertBytes a) 4 = a.seq := extract_append_extract a.seq
  have h0 := hfield 0 (by decide)
  have h2 := hfield 2 (by decide)
  have h4 := hfield 4 (by decide)
  simp only [Nat.add_zero, Nat.reduceAdd] at h0 h2 h4
  simp [bodyEntry, h0, h2, h4, hdest, hmetric, hseq]

end Body

theorem State.beaconFrame_length (s : State) (j : Nat) :
    (s.beaconFrame j).length = 30 + 6 * (1 + s.routes.chosen.length) := by
  simp only [State.beaconFrame, List.length_append, ownHeader_length, State.beaconBody_length,
    RouteTable.adverts_length]
  omega

theorem Scheduler.announcement_of_announced {d : Scheduler} {c : PlanContext} (h : d.stage = .announced c) :
    d.announcement = ((d.plan c).generation, true) := by
  simp [Scheduler.announcement, h]

theorem Scheduler.announcement_of_not {d : Scheduler} (h : ∀ c, d.stage ≠ .announced c) :
    d.announcement = (d.activePlan.generation, false) := by
  unfold Scheduler.announcement
  split
  case h_1 c hc => exact absurd hc (h c)
  case h_2 => rfl

/-! ### Sending an own frame (R11, R142) -/

/-- R142: an in-flight record takes the producer's position and lap, and the producer moves on round the ring. -/
theorem Scheduler.record_eq (d : Scheduler) (c : Carried) : d.record c = { d with
    inFlight := d.inFlight ++ [⟨d.producer, c, d.lap, false, false⟩]
    producer := if d.producer + 1 < d.ringSize.getD 0 then d.producer + 1 else 0
    lap := if d.producer + 1 < d.ringSize.getD 0 then d.lap else !d.lap } := by
  unfold Scheduler.record Scheduler.advanceProducer
  by_cases h : d.producer + 1 < d.ringSize.getD 0 <;> simp [h]

/-- The accesses that send an own frame: the frame's writes and then its descriptor's. -/
def State.ownAccesses (s : State) (j rate attempts : Nat) (b : BufIx) (frame : List Byte) (dest : NodeId) :
    List Injected :=
  writeAccesses .ownFrame (s.bufferAddress b) frame ++
    [.write (.descriptor s.sched.producer) (s.txAddress s.sched.producer) (descriptorBytes {
      lap := s.sched.lap, rate := rate, attempts := attempts, launchSuperframe := s.timing.number
      buffer := s.bufferAddress b, length := frame.length, dest := dest
      launch := s.slotTime j + 10
      deadline := s.slotTime j + 10 + s.slotBudget - airtime rate frame.length })]

/-- The queue filled a second time, with what it was given the first time and more, is filled with all of it. -/
theorem MemoryPath.fill_fill (p : MemoryPath) (xs ys : List Injected) :
    (p.fill xs).fill ((p.fill xs).queue ++ (p.fill xs).tails ++ ys) = p.fill (xs ++ ys) := by
  rw [MemoryPath.fill_all]
  rfl

/-- R11: sending an own frame issues its accesses, makes the in-flight record, and leaves the buffer busy with the
descriptor's ring position. -/
theorem State.sendOwn_eq (s : State) (j rate attempts : Nat) (b : BufIx) (frame : List Byte) (dest : NodeId)
    (c : Carried) : s.sendOwn j rate attempts b frame dest c = { s with
      path := s.path.fill (s.path.queue ++ s.path.tails ++ s.ownAccesses j rate attempts b frame dest)
      sched := { s.sched.record c with buffers := bankPut s.sched.buffers b (some s.sched.producer) } } := by
  have hbuf : (s.sched.record c).buffers = s.sched.buffers := by rw [Scheduler.record_eq]
  unfold State.sendOwn State.writeDescriptor State.ownAccesses
  rw [← List.append_assoc, ← MemoryPath.fill_fill, ← hbuf]
  rfl

/-! ### The BEACON slot -/

/-- R12, R106, R137: with its buffer and a ring position free, the BEACON slot sends the beacon, the Route Table moves
on, and the other beacon buffer is next. -/
theorem State.beaconSlot_of_free {s : State} (j : Nat) (hb : s.bufferFree s.sched.beaconBuffer = true)
    (hr : s.ringFree = true) : s.beaconSlot j = ({ s with
      path := s.path.fill (s.path.queue ++ s.path.tails ++ s.ownAccesses j
        (beaconRate s.slotBudget (s.beaconFrame j).length) 1 s.sched.beaconBuffer (s.beaconFrame j) 0xFFFF)
      routes := s.routes.afterBeacon
      sched := { s.sched.record (.beacon s.sched.beaconBuffer) with
        buffers := bankPut s.sched.buffers s.sched.beaconBuffer (some s.sched.producer)
        nextBeacon := !s.sched.nextBeacon } }, s.routes.poisonDue) := by
  have hn : (s.sched.record (.beacon s.sched.beaconBuffer)).nextBeacon = s.sched.nextBeacon := by
    rw [Scheduler.record_eq]
  unfold State.beaconSlot
  simp only [hb, hr, Bool.and_self, if_true, State.sendOwn_eq, ← hn]
  rfl

/-! ### The start of a slot -/

section Pass
variable (p : MemoryPath) (d : Nat)

/-- The passing of time leaves the Memory Path as it is, falls the hold budget, or releases the held write and
abandons its decision. -/
theorem MemoryPath.pass_cases : p.pass d = p ∨ (∃ a r t, p.pass d = { p with slot := .deciding a r (t - d) }) ∨
    ∃ a r, p.pass d = MemoryPath.abandon { p with slot := .released a r } := by
  unfold MemoryPath.pass
  split
  case h_1 a r t _ =>
    by_cases h : t ≤ d
    · exact .inr (.inr ⟨a, r, if_pos h⟩)
    · exact .inr (.inl ⟨a, r, t, if_neg h⟩)
  case h_2 => exact .inl rfl

theorem MemoryPath.pass_windows : (p.pass d).windows = p.windows := by
  obtain h | ⟨_, _, _, h⟩ | ⟨_, _, h⟩ := p.pass_cases d <;> simp [h]

theorem MemoryPath.pass_ownId : (p.pass d).ownId = p.ownId := by
  obtain h | ⟨_, _, _, h⟩ | ⟨_, _, h⟩ := p.pass_cases d <;> simp [h]

theorem MemoryPath.pass_engine : (p.pass d).engine = p.engine := by
  obtain h | ⟨_, _, _, h⟩ | ⟨_, _, h⟩ := p.pass_cases d <;> simp [h]

end Pass

/-- The state in which slot `j` acts: the time up to its start has passed, and the slot after it is next. -/
def State.enterSlot (s : State) (j : SlotIx) : State :=
  let e := s.elapse (s.slotTime j.val - s.timing.timebase)
  { e with timing := { e.timing with nextSlot := j.val + 1 } }

section Enter
variable (s : State) (j : SlotIx)

theorem State.enterSlot_ownId : (s.enterSlot j).path.ownId = s.path.ownId := MemoryPath.pass_ownId ..

theorem State.enterSlot_isRunning : (s.enterSlot j).isRunning = s.isRunning :=
  congrArg (· == EngineState.running) (MemoryPath.pass_engine ..)

theorem State.enterSlot_windows : (s.enterSlot j).path.windows = s.path.windows := MemoryPath.pass_windows ..

theorem State.enterSlot_ownAccesses (k rate attempts : Nat) (b : BufIx) (frame : List Byte) (dest : NodeId) :
    (s.enterSlot j).ownAccesses k rate attempts b frame dest = s.ownAccesses k rate attempts b frame dest := by
  unfold State.ownAccesses State.bufferAddress State.txAddress
  rw [State.enterSlot_windows]
  rfl

theorem State.enterSlot_beaconFrame (k : Nat) : (s.enterSlot j).beaconFrame k = s.beaconFrame k := by
  unfold State.beaconFrame
  rw [State.enterSlot_ownId]
  rfl

end Enter

/-- R151: outside UNANCHORED the next slot starts, as long as it does so before the superframe's end. -/
theorem exec_slotStart_of_due {s : State} {j : SlotIx} (hq : s.quiet = true) (hj : s.timing.nextSlot = j.val)
    (he : s.path.engine ≠ .unanchored) (ht : s.slotTime j.val < s.superframeEnd) :
    exec .slotStart s = .next { ((s.enterSlot j).slotAction j).1 with
      work := ((s.enterSlot j).slotAction j).2.map .due } := by
  have hix : index? 64 s.timing.nextSlot = some j := by simp [index?, hj]
  have hun : s.isUnanchored = false := by simpa [State.isUnanchored] using he
  have hlt : ¬ s.superframeEnd ≤ s.slotTime j.val := Nat.not_le.mpr ht
  change Host.Outcome.next s.settle.startSlot = _
  rw [State.settle_of_quiet hq, State.startSlot, hix]
  simp only [hun, hlt, decide_false, Bool.or_self, Bool.false_eq_true, if_false]
  rfl

theorem State.slotAction_beacon {s : State} {j : SlotIx} (hr : s.isRunning = true)
    (hj : bankGet s.sched.activePlan.slots j = .beacon) : s.slotAction j = s.beaconSlot j.val := by
  simp [State.slotAction, hr, hj]

/-- The BEACON slot of a RUNNING engine with its buffer and a ring position free. -/
theorem exec_slotStart_beacon {s : State} {j : SlotIx} (hq : s.quiet = true) (hr : s.path.engine = .running)
    (hj : s.timing.nextSlot = j.val) (ht : s.slotTime j.val < s.superframeEnd)
    (hs : bankGet s.sched.activePlan.slots j = .beacon) (hb : s.bufferFree s.sched.beaconBuffer = true)
    (hf : s.ringFree = true) :
    exec .slotStart s = .next { s.enterSlot j with
      path := (s.enterSlot j).path.fill ((s.enterSlot j).path.queue ++ (s.enterSlot j).path.tails ++
        s.ownAccesses j.val (beaconRate s.slotBudget (s.beaconFrame j.val).length) 1 s.sched.beaconBuffer
          (s.beaconFrame j.val) 0xFFFF)
      routes := s.routes.afterBeacon
      sched := { s.sched.record (.beacon s.sched.beaconBuffer) with
        buffers := bankPut s.sched.buffers s.sched.beaconBuffer (some s.sched.producer)
        nextBeacon := !s.sched.nextBeacon }
      work := s.routes.poisonDue.map .due } := by
  have hrun : (s.enterSlot j).isRunning = true := by rw [State.enterSlot_isRunning]; simp [State.isRunning, hr]
  rw [exec_slotStart_of_due hq hj (by simp [hr]) ht, State.slotAction_beacon hrun hs,
    State.beaconSlot_of_free (s := s.enterSlot j) j.val hb hf, State.enterSlot_ownAccesses,
    State.enterSlot_beaconFrame]
  rfl

/-! ### The obligation -/

/-- The route entries of a beacon's body: the own entry, then one for each chosen position, 65535 when POISONED. -/
theorem State.beaconBody_entries (s : State) (j : Nat) :
    bodyEntry (s.beaconBody j (s.routes.adverts s.path.ownId)) 0 = ⟨s.path.ownId, 0, s.routes.ownSeq⟩ ∧
    ∀ (i : Nat) (p : RoutePos) (x : RouteEntry), s.routes.chosen[i]? = some p → s.routes.entry p = some x →
      (∀ st q alt seq age, x.body = .live st q alt seq age →
        bodyEntry (s.beaconBody j (s.routes.adverts s.path.ownId)) (i + 1) = ⟨x.dest, q.metric % 65536, seq⟩) ∧
      (∀ seq age count, x.body = .poisoned seq age count →
        bodyEntry (s.beaconBody j (s.routes.adverts s.path.ownId)) (i + 1) = ⟨x.dest, 65535, seq⟩) := by
  refine ⟨bodyEntry_beaconBody s j (a := ⟨s.path.ownId, 0, s.routes.ownSeq⟩) rfl, fun i p x hp hx => ?_⟩
  have hentry := bodyEntry_beaconBody s j (RouteTable.adverts_of_chosen s.path.ownId hp hx)
  constructor
  · intro st q alt seq age hbody
    simp [hentry, RouteEntry.advert, hbody]
  · intro seq age count hbody
    simp [hentry, RouteEntry.advert, hbody, Config.saturated]

/-- Settles O38: `exec_slotStart_beacon` gives the next state; the chosen entries are those of the cursor's round, and
the fields of the frame read back what `beaconFrame` is made of. -/
theorem beaconSlotSendsABeacon : Obligations.BeaconSlotSendsABeacon := by
  intro s e j hq hr hj ht hs hb hf he
  subst he
  have hexec := exec_slotStart_beacon hq hr hj ht hs hb hf
  rw [Scheduler.record_eq, RouteTable.poisonDue_eq, List.map_map] at hexec
  have hcount : 1 + s.routes.chosen.length < 256 := by have := s.routes.chosen_length_le; omega
  refine ⟨_, s.beaconFrame j.val, beaconRate s.slotBudget (s.beaconFrame j.val).length, s.routes.chosen, hexec, rfl,
    s.routes.chosen_length_le, s.routes.chosen_pairwise, fun p => RouteTable.learned_of_chosen,
    fun p d b he hl hp => RouteTable.full_of_not_chosen he hl hp,
    fun p d sq age k hp he => RouteTable.afterBeacon_poisoned hp he,
    fun p h => RouteTable.afterBeacon_other h, ?accesses, beaconRate_fits _ _, fun r => beaconRate_lowest,
    ?header, State.beaconFrame_length _ _, ?body⟩
  case accesses =>
    rw [MemoryPath.fill_all, State.ownAccesses, ← List.append_assoc]
    rfl
  case header =>
    rw [State.beaconFrame_take, ← State.beaconFrame_drop, List.length_drop]
  case body =>
    rw [State.beaconFrame_drop, bodyCount_beaconBody, RouteTable.adverts_length, bodyGeneration_beaconBody,
      bodyAnnounce_beaconBody]
    refine ⟨Nat.mod_eq_of_lt hcount, bodySuperframe_beaconBody .., bodyOffset_beaconBody .., bodyDepth_beaconBody ..,
      bodyHoldover_beaconBody .., fun c hc => ?announced, fun hc => ?unannounced, s.beaconBody_entries j.val⟩
    case announced => simp [Scheduler.announcement_of_announced hc]
    case unannounced => simp [Scheduler.announcement_of_not hc]

end Sys2Proof.Machine
end

section
/-!
PROOF. Where the tags of the Frame Pool stand (R17, R20 to R22). A tag that moves is first lifted from its place, so
that it stands nowhere, and is then put into the place its new entry names: one rule for each lift and each put. The
moves and releases of chapter 2 are made of these, and so keep every tag in its place.
-/

namespace Sys2Proof.Machine

/-! ### The class queues under the pool's updates -/

theorem ClassQueues.get_put (q : ClassQueues) (c d : TrafficClass) (ts : List Tag) :
    (q.put c ts).get d = if c = d then ts else q.get d := by
  cases c <;> cases d <;> rfl

theorem ClassQueues.mem_all {q : ClassQueues} {g : Tag} : g ∈ q.all ↔ ∃ c, g ∈ q.get c := by
  constructor
  · intro h
    simp only [ClassQueues.all, List.mem_append] at h
    obtain ((h | h) | h) | h := h
    exacts [⟨.expedited, h⟩, ⟨.interactive, h⟩, ⟨.bulk, h⟩, ⟨.background, h⟩]
  · rintro ⟨c, h⟩
    simp only [ClassQueues.all, List.mem_append]
    cases c
    exacts [.inl (.inl (.inl h)), .inl (.inl (.inr h)), .inl (.inr h), .inr h]

section Updates
variable (s : State) (n m : LinkIx) (c d : TrafficClass) (g : Tag)

theorem State.queuesOf_setQueues (q : ClassQueues) :
    (s.setQueues n q).queuesOf m = if n = m then q else s.queuesOf m := bankGet_bankPut ..

/-- R20: a tag leaves the class queues of one link. -/
theorem State.unqueue_get : ((s.unqueue n g).queuesOf m).get c =
    if n = m then ((s.queuesOf m).get c).filter fun x => x != g else (s.queuesOf m).get c := by
  rw [State.unqueue, State.queuesOf_setQueues]
  split
  · subst m; cases c <;> rfl
  · rfl

/-- R20: a tag joins the tail of one class queue. -/
theorem State.pushTail_get : ((s.pushTail n c g).queuesOf m).get d =
    if n = m ∧ c = d then (s.queuesOf m).get d ++ [g] else (s.queuesOf m).get d := by
  rw [State.pushTail, State.queuesOf_setQueues]
  by_cases hn : n = m
  · subst m; by_cases hc : c = d <;> simp [ClassQueues.get_put, hc]
  · simp [hn]

/-- R27: a tag joins the head of one class queue. -/
theorem State.pushHead_get : ((s.pushHead n c g).queuesOf m).get d =
    if n = m ∧ c = d then g :: (s.queuesOf m).get d else (s.queuesOf m).get d := by
  rw [State.pushHead, State.queuesOf_setQueues]
  by_cases hn : n = m
  · subst m; by_cases hc : c = d <;> simp [ClassQueues.get_put, hc]
  · simp [hn]

@[simp] theorem State.frame_unqueue (u : Tag) : (s.unqueue n g).frame u = s.frame u := rfl
@[simp] theorem State.frame_unhold (u : Tag) : (s.unhold g).frame u = s.frame u := rfl
@[simp] theorem State.frame_pushTail (u : Tag) : (s.pushTail n c g).frame u = s.frame u := rfl
@[simp] theorem State.frame_pushHeld (u : Tag) : (s.pushHeld g).frame u = s.frame u := rfl
@[simp] theorem State.frame_pushBacklog (u : Tag) (i : ReleaseItem) : (s.pushBacklog i).frame u = s.frame u := rfl

end Updates

/-- The entries are the pool's. -/
theorem State.frame_congr {s t : State} (h : t.pool = s.pool) (u : Tag) : t.frame u = s.frame u := by
  rw [State.frame, h, State.frame]

/-! ### Entries that are on no list -/

@[simp] theorem queuedAt_none (n : LinkIx) (c : TrafficClass) : queuedAt none n c = false := rfl
@[simp] theorem heldEntry_none : heldEntry none = false := rfl
@[simp] theorem releasingEntry_none : releasingEntry none = false := rfl

@[simp] theorem queuedAt_some (f : Frame) (n : LinkIx) (c : TrafficClass) :
    queuedAt (some f) n c = decide (f.place = .queued n ∧ f.cls = c) := by
  simp only [queuedAt, beq_eq_decide, Bool.decide_and]

@[simp] theorem heldEntry_some (f : Frame) : heldEntry (some f) = decide (f.place = .held) := by
  simp only [heldEntry, beq_eq_decide]

theorem Frame.inFlight_iff {f : Frame} :
    f.inFlight = true ↔ ∃ n d, f.place = .inRing n d ∨ f.place = .fetched n d := by
  unfold Frame.inFlight
  split <;> simp_all

/-! ### The place of one tag -/

/-- The tag `g` stands in the one place that the entry `o` names: in a class queue, on the held list, in the release
backlog, or in none of them. -/
structure State.StandsAs (s : State) (g : Tag) (o : Option Frame) : Prop where
  queued : ∀ (n : LinkIx) (c : TrafficClass), ((s.queuesOf n).get c).count g = bit (queuedAt o n c)
  held : s.pool.heldList.count g = bit (heldEntry o)
  releasing : s.pool.backlog.count (.entry g) = bit (releasingEntry o)

/-- Every tag but `g` stands in its place, and `g` stands in none, whatever its entry. -/
structure State.Lifted (s : State) (g : Tag) : Prop where
  others : ∀ u, u ≠ g → s.StandsAs u (s.frame u)
  nowhere : s.StandsAs g none
  tagless : s.pool.backlog.countP ReleaseItem.isTagless ≤ 1

section Places
variable {s t : State} {g : Tag} {f : Frame} {o : Option Frame} {n : LinkIx} {c : TrafficClass}

theorem State.PoolOk.standsAs (h : s.PoolOk) (g : Tag) : s.StandsAs g (s.frame g) :=
  ⟨h.queued g, h.held g, h.releasing g⟩

theorem State.poolOk_of_standsAs (h : ∀ g, s.StandsAs g (s.frame g))
    (ht : s.pool.backlog.countP ReleaseItem.isTagless ≤ 1) : s.PoolOk :=
  ⟨fun g => (h g).queued, fun g => (h g).held, fun g => (h g).releasing, ht⟩

/-- The places are a matter of the pool alone. -/
theorem State.PoolOk.congr (h : s.PoolOk) (hp : t.pool = s.pool) : t.PoolOk := by
  obtain ⟨hq, hh, hr, ht⟩ := h
  constructor <;> simpa only [State.queuesOf, State.frame, hp]

/-- An IN_RING or FETCHED tag stands where a FREE one does: nowhere. -/
theorem State.standsAs_inFlight (hf : f.inFlight = true) : s.StandsAs g (some f) ↔ s.StandsAs g none := by
  obtain ⟨n, d, hp⟩ := Frame.inFlight_iff.mp hf
  have hq : ∀ m c, queuedAt (some f) m c = false := by rcases hp with hp | hp <;> simp [hp]
  have hh : heldEntry (some f) = false := by rcases hp with hp | hp <;> simp [hp]
  have hr : releasingEntry (some f) = false := by rcases hp with hp | hp <;> simp [releasingEntry, hp]
  constructor <;> rintro ⟨h1, h2, h3⟩ <;> constructor <;> simp_all

/-- A tag in place whose entry names none is lifted as it stands. -/
theorem State.PoolOk.lifted (h : s.PoolOk) (hn : s.StandsAs g none) : s.Lifted g :=
  ⟨fun u _ => h.standsAs u, hn, h.tagless⟩

theorem State.PoolOk.lifted_of_free (h : s.PoolOk) (hf : s.frame g = none) : s.Lifted g :=
  h.lifted (hf ▸ h.standsAs g)

theorem State.PoolOk.lifted_of_inFlight (h : s.PoolOk) (hf : s.frame g = some f) (hi : f.inFlight = true) :
    s.Lifted g :=
  h.lifted ((State.standsAs_inFlight hi).mp (hf ▸ h.standsAs g))

/-- A lifted tag is in place when its entry names a place it stands in. -/
theorem State.Lifted.poolOk (h : s.Lifted g) (hg : s.StandsAs g (s.frame g)) : s.PoolOk :=
  State.poolOk_of_standsAs (fun u => if hu : u = g then hu ▸ hg else h.others u hu) h.tagless

theorem State.Lifted.poolOk_of_free (h : s.Lifted g) (hf : s.frame g = none) : s.PoolOk :=
  h.poolOk (hf ▸ h.nowhere)

theorem State.Lifted.poolOk_of_inFlight (h : s.Lifted g) (hf : s.frame g = some f) (hi : f.inFlight = true) :
    s.PoolOk :=
  h.poolOk (hf ▸ (State.standsAs_inFlight hi).mpr h.nowhere)

/-- The entry of a lifted tag may take any value. -/
theorem State.Lifted.setFrame (h : s.Lifted g) (o : Option Frame) : (s.setFrame g o).Lifted g where
  others u hu := by
    rw [State.frame_setFrame_other _ _ hu.symm]
    obtain ⟨hq, hh, hr⟩ := h.others u hu
    exact ⟨hq, hh, hr⟩
  nowhere := ⟨h.nowhere.queued, h.nowhere.held, h.nowhere.releasing⟩
  tagless := h.tagless

/-! ### Lifting a tag -/

/-- R20: a QUEUED tag leaves its queue. -/
theorem State.PoolOk.unqueue (h : s.PoolOk) (hf : s.frame g = some f) (hp : f.place = .queued n) :
    (s.unqueue n g).Lifted g where
  others u hu := by
    refine ⟨fun m c => ?_, h.held u, h.releasing u⟩
    rw [State.unqueue_get, State.frame_unqueue, ← h.queued u m c]
    split
    · exact List.count_filter (by simpa using hu)
    · rfl
  nowhere := by
    have hg := hf ▸ h.standsAs g
    refine ⟨fun m c => ?_, hg.held.trans (by simp [hp]), hg.releasing.trans (by simp [releasingEntry, hp])⟩
    rw [State.unqueue_get]
    split
    · exact List.count_eq_zero.mpr (by simp)
    · rename_i hm
      exact (hg.queued m c).trans (by simp [hp, hm])
  tagless := h.tagless

/-- R21: a HELD tag leaves the held list. -/
theorem State.PoolOk.unhold (h : s.PoolOk) (hf : s.frame g = some f) (hp : f.place = .held) :
    (s.unhold g).Lifted g where
  others u hu := ⟨h.queued u, (List.count_filter (by simpa using hu)).trans (h.held u), h.releasing u⟩
  nowhere := by
    have hg := hf ▸ h.standsAs g
    exact ⟨fun m c => (hg.queued m c).trans (by simp [hp]), List.count_eq_zero.mpr (by simp [State.unhold]),
      hg.releasing.trans (by simp [releasingEntry, hp])⟩
  tagless := h.tagless

/-! ### Putting a lifted tag into its place -/

/-- A lifted tag that joins the class queue its entry names, at either end, is in place. -/
theorem State.Lifted.enqueued (h : s.Lifted g) (hf : s.frame g = some f) (hp : f.place = .queued n)
    (hframe : ∀ u, t.frame u = s.frame u) (hheld : t.pool.heldList = s.pool.heldList)
    (hback : t.pool.backlog = s.pool.backlog)
    (hq : ∀ u m d, ((t.queuesOf m).get d).count u =
      ((s.queuesOf m).get d).count u + if n = m ∧ f.cls = d ∧ g = u then 1 else 0) : t.PoolOk := by
  refine State.poolOk_of_standsAs (fun u => ?_) (hback ▸ h.tagless)
  rw [hframe u]
  by_cases hu : u = g
  · subst hu
    refine ⟨fun m d => ?_, ?_, ?_⟩
    · rw [hq, h.nowhere.queued, hf]
      by_cases hm : n = m <;> by_cases hd : f.cls = d <;> simp [hp, hm, hd, bit]
    · rw [hheld, h.nowhere.held, hf]; simp [hp]
    · rw [hback, h.nowhere.releasing, hf]; simp [releasingEntry, hp]
  · obtain ⟨hqueued, hh, hr⟩ := h.others u hu
    refine ⟨fun m d => ?_, hheld ▸ hh, hback ▸ hr⟩
    rw [hq, hqueued]
    simp [Ne.symm hu]

/-- R20: a lifted tag joins the tail of the class queue its entry names. -/
theorem State.Lifted.pushTail (h : s.Lifted g) (hf : s.frame g = some f) (hp : f.place = .queued n)
    (hc : f.cls = c) : (s.pushTail n c g).PoolOk :=
  h.enqueued hf hp (fun _ => rfl) rfl rfl fun u m d => by
    rw [State.pushTail_get, hc]
    by_cases hn : n = m <;> by_cases hd : c = d <;> simp [hn, hd, List.count_singleton]

/-- R27: a lifted tag joins the head of the class queue its entry names. -/
theorem State.Lifted.pushHead (h : s.Lifted g) (hf : s.frame g = some f) (hp : f.place = .queued n)
    (hc : f.cls = c) : (s.pushHead n c g).PoolOk :=
  h.enqueued hf hp (fun _ => rfl) rfl rfl fun u m d => by
    rw [State.pushHead_get, hc]
    by_cases hn : n = m <;> by_cases hd : c = d <;> simp [hn, hd, List.count_cons]

/-- R21: a lifted tag whose entry is HELD joins the held list. -/
theorem State.Lifted.pushHeld (h : s.Lifted g) (hf : s.frame g = some f) (hp : f.place = .held) :
    (s.pushHeld g).PoolOk := by
  refine State.poolOk_of_standsAs (fun u => ?_) h.tagless
  rw [State.frame_pushHeld]
  by_cases hu : u = g
  · subst hu
    rw [hf]
    refine ⟨fun m d => (h.nowhere.queued m d).trans (by simp [hp]), ?_,
      h.nowhere.releasing.trans (by simp [releasingEntry, hp])⟩
    have := h.nowhere.held
    simp_all [State.pushHeld, bit]
  · obtain ⟨hq, hh, hr⟩ := h.others u hu
    refine ⟨hq, ?_, hr⟩
    rw [← hh]
    simp [State.pushHeld, Ne.symm hu]

/-- R22: a lifted tag whose entry is RELEASING joins the release backlog. -/
theorem State.Lifted.pushEntry {st : ReleaseStatus} (h : s.Lifted g) (hf : s.frame g = some f)
    (hp : f.place = .releasing st) : (s.pushBacklog (.entry g)).PoolOk := by
  refine State.poolOk_of_standsAs (fun u => ?_) (by simpa [ReleaseItem.isTagless] using h.tagless)
  rw [State.frame_pushBacklog]
  by_cases hu : u = g
  · subst hu
    rw [hf]
    refine ⟨fun m d => (h.nowhere.queued m d).trans (by simp [hp]),
      h.nowhere.held.trans (by simp [hp]), ?_⟩
    have := h.nowhere.releasing
    simp_all [releasingEntry, bit]
  · obtain ⟨hq, hh, hr⟩ := h.others u hu
    refine ⟨hq, hh, ?_⟩
    rw [← hr]
    simp [Ne.symm hu]

/-! ### What stands in a list -/

/-- The entry is QUEUED on link `n`. -/
def queuedOn (n : LinkIx) (o : Option Frame) : Prop := ∃ f, o = some f ∧ f.place = .queued n

/-- R20: a tag in a class queue of a link is QUEUED on that link. -/
theorem State.PoolOk.queuedOn_of_mem (h : s.PoolOk) (hg : g ∈ (s.queuesOf n).get c) : queuedOn n (s.frame g) := by
  have hpos : 0 < bit (queuedAt (s.frame g) n c) := h.queued g n c ▸ List.count_pos_iff.mpr hg
  cases hf : s.frame g with
  | none => simp [hf, bit] at hpos
  | some f =>
    refine ⟨f, rfl, ?_⟩
    by_contra hp
    simp [hf, hp, bit] at hpos

theorem State.PoolOk.queuedOn_of_mem_all (h : s.PoolOk) (hg : g ∈ (s.queuesOf n).all) : queuedOn n (s.frame g) := by
  obtain ⟨c, hc⟩ := ClassQueues.mem_all.mp hg
  exact h.queuedOn_of_mem hc

/-- R21: a tag on the held list is HELD. -/
theorem State.PoolOk.held_of_mem (h : s.PoolOk) (hg : g ∈ s.pool.heldList) :
    ∃ f, s.frame g = some f ∧ f.place = .held := by
  have hpos : 0 < bit (heldEntry (s.frame g)) := h.held g ▸ List.count_pos_iff.mpr hg
  cases hf : s.frame g with
  | none => simp [hf, bit] at hpos
  | some f =>
    refine ⟨f, rfl, ?_⟩
    by_contra hp
    simp [hf, hp, bit] at hpos

/-- R22: a tag in the release backlog is RELEASING. -/
theorem State.PoolOk.releasing_of_mem (h : s.PoolOk) (hg : .entry g ∈ s.pool.backlog) :
    ∃ f st, s.frame g = some f ∧ f.place = .releasing st := by
  have hpos : 0 < bit (releasingEntry (s.frame g)) := h.releasing g ▸ List.count_pos_iff.mpr hg
  cases hf : s.frame g with
  | none => simp [hf, bit] at hpos
  | some f =>
    simp only [hf, releasingEntry] at hpos
    split at hpos
    · exact ⟨f, _, rfl, ‹_›⟩
    · simp [bit] at hpos

/-- R20: a tag stands at most once in the four class queues of a link. -/
theorem State.PoolOk.nodup_all (h : s.PoolOk) (n : LinkIx) : (s.queuesOf n).all.Nodup := by
  refine List.nodup_iff_count_le_one.mpr fun g => ?_
  have hx := h.queued g n .expedited
  have hi := h.queued g n .interactive
  have hb := h.queued g n .bulk
  have hk := h.queued g n .background
  simp only [ClassQueues.get] at hx hi hb hk
  simp only [ClassQueues.all, List.count_append, hx, hi, hb, hk]
  cases s.frame g with
  | none => simp [bit]
  | some f => cases hc : f.cls <;> by_cases hp : f.place = .queued n <;> simp [hp, hc, bit]

/-- R21: a tag stands at most once on the held list. -/
theorem State.PoolOk.nodup_held (h : s.PoolOk) : s.pool.heldList.Nodup := by
  refine List.nodup_iff_count_le_one.mpr fun g => ?_
  rw [h.held g, bit]
  split <;> omega

/-- R38: a pool whose entries are all FREE and whose lists are all empty. -/
theorem State.poolOk_of_empty (he : s.pool.entries = Vector.replicate 512 none)
    (hq : s.pool.queues = Vector.replicate 16 ClassQueues.reset) (hh : s.pool.heldList = [])
    (hb : s.pool.backlog = []) : s.PoolOk := by
  have hf : ∀ g, s.frame g = none := fun g => by rw [State.frame, he, bankGet_replicate]
  refine State.poolOk_of_standsAs (fun g => ?_) (by simp [hb])
  rw [hf g]
  refine ⟨fun n c => ?_, by simp [hh, bit], by simp [hb, bit]⟩
  rw [State.queuesOf, hq, bankGet_replicate]
  cases c <;> rfl

end Places

end Sys2Proof.Machine
end

section
/-!
PROOF. The moves of chapter 2 keep the tags in their places: releases, the way into and out of the transmit ring,
returns, diversion, re-dispatch, re-evaluation, admission and aging; with what each leaves of the other tags, for the
moves that are made of one tag after another.
-/

namespace Sys2Proof.Machine

/-! ### What leaves the pool as it is -/

section PoolKept
variable (s : State) (n : LinkIx)

@[simp] theorem State.routeLinkLost_pool : (s.routeLinkLost n).pool = s.pool := rfl
@[simp] theorem State.dropReply_pool : (s.dropReply n).pool = s.pool := rfl

@[simp] theorem State.timingLinkLost_pool : (s.timingLinkLost n).pool = s.pool := by
  unfold State.timingLinkLost; split <;> rfl

@[simp] theorem State.enterDrained_pool : (s.enterDrained n).pool = s.pool := by simp [State.enterDrained]

@[simp] theorem State.drainTest_pool : (s.drainTest n).pool = s.pool := by
  rcases s.drainTest_cases n with h | ⟨-, -, -, -, h⟩ <;> simp [h]

@[simp] theorem State.countFell_pool : (s.countFell n).pool = s.pool := by
  simp [State.countFell, State.signalIntake_eq]

@[simp] theorem State.frame_countFell (u : Tag) : (s.countFell n).frame u = s.frame u :=
  State.frame_congr (s.countFell_pool n) u

end PoolKept

/-! ### Releases (R34, R36, R40) -/

section Release
variable {s : State} {g : Tag} {f : Frame} {n : LinkIx} (st : ReleaseStatus)

theorem State.release_of_free (hf : s.frame g = none) : s.release g st = s := by simp [State.release, hf]

theorem State.release_of_releasing {st' : ReleaseStatus} (hf : s.frame g = some f)
    (hp : f.place = .releasing st') : s.release g st = s := by simp [State.release, hf, hp]

/-- R34: a QUEUED tag leaves its queue for the backlog, and the queued count of its link falls. -/
theorem State.release_of_queued (hf : s.frame g = some f) (hp : f.place = .queued n) :
    s.release g st = (((s.unqueue n g).setFrame g (some { f with place := .releasing st })).pushBacklog
      (.entry g)).countFell n := by
  simp [State.release, hf, hp, State.pushBacklog]

/-- R34: a HELD tag leaves the held list for the backlog. -/
theorem State.release_of_held (hf : s.frame g = some f) (hp : f.place = .held) :
    s.release g st = ((s.unhold g).setFrame g (some { f with place := .releasing st })).pushBacklog (.entry g) := by
  simp [State.release, hf, hp, State.pushBacklog]

/-- R34: a tag in flight joins the backlog. -/
theorem State.release_of_inFlight (hf : s.frame g = some f) (hi : f.inFlight = true) :
    s.release g st = (s.setFrame g (some { f with place := .releasing st })).pushBacklog (.entry g) := by
  obtain ⟨n, d, hp | hp⟩ := Frame.inFlight_iff.mp hi <;> simp [State.release, hf, hp, State.pushBacklog]

/-- The ways a release can go, by the entry of its tag. -/
theorem State.release_cases (s : State) (g : Tag) (st : ReleaseStatus) :
    s.release g st = s ∨
    (∃ f n, s.frame g = some f ∧ f.place = .queued n ∧
      s.release g st = (((s.unqueue n g).setFrame g (some { f with place := .releasing st })).pushBacklog
        (.entry g)).countFell n) ∨
    (∃ f, s.frame g = some f ∧ f.place = .held ∧
      s.release g st = ((s.unhold g).setFrame g (some { f with place := .releasing st })).pushBacklog (.entry g)) ∨
    ∃ f, s.frame g = some f ∧ f.inFlight = true ∧
      s.release g st = (s.setFrame g (some { f with place := .releasing st })).pushBacklog (.entry g) := by
  cases hf : s.frame g with
  | none => exact .inl (State.release_of_free st hf)
  | some f =>
    cases hp : f.place with
    | queued n => exact .inr (.inl ⟨f, n, rfl, hp, State.release_of_queued st hf hp⟩)
    | held => exact .inr (.inr (.inl ⟨f, rfl, hp, State.release_of_held st hf hp⟩))
    | inRing n d =>
      have hi := Frame.inFlight_iff.mpr ⟨n, d, .inl hp⟩
      exact .inr (.inr (.inr ⟨f, rfl, hi, State.release_of_inFlight st hf hi⟩))
    | fetched n d =>
      have hi := Frame.inFlight_iff.mpr ⟨n, d, .inr hp⟩
      exact .inr (.inr (.inr ⟨f, rfl, hi, State.release_of_inFlight st hf hi⟩))
    | releasing st' => exact .inl (State.release_of_releasing st hf hp)

/-- A lifted tag that is released goes from wherever it came to the backlog. -/
theorem State.Lifted.release (h : s.Lifted g) :
    ((s.setFrame g (some { f with place := .releasing st })).pushBacklog (.entry g)).PoolOk :=
  (h.setFrame _).pushEntry (State.frame_setFrame_same ..) rfl

theorem State.PoolOk.release (h : s.PoolOk) : (s.release g st).PoolOk := by
  obtain e | ⟨f, n, hf, hp, e⟩ | ⟨f, hf, hp, e⟩ | ⟨f, hf, hi, e⟩ := s.release_cases g st <;> rw [e]
  · exact h
  · exact ((h.unqueue hf hp).release st).congr (State.countFell_pool ..)
  · exact (h.unhold hf hp).release st
  · exact (h.lifted_of_inFlight hf hi).release st

theorem State.release_frame_other {u : Tag} (hu : u ≠ g) : (s.release g st).frame u = s.frame u := by
  obtain e | ⟨f, n, -, -, e⟩ | ⟨f, -, -, e⟩ | ⟨f, -, -, e⟩ := s.release_cases g st <;> rw [e] <;>
    simp [State.frame_setFrame_other _ _ hu.symm]

theorem State.PoolOk.releaseAll (ts : List Tag) (h : s.PoolOk) : (s.releaseAll st ts).PoolOk := by
  induction ts generalizing s with
  | nil => exact h
  | cons g ts ih => exact ih (h.release st)

theorem State.PoolOk.cutRelease (h : s.PoolOk) : (s.cutRelease n).PoolOk := h.releaseAll ..

theorem State.PoolOk.quiesceRelease (h : s.PoolOk) : s.quiesceRelease.PoolOk := h.releaseAll ..

theorem State.PoolOk.releaseInFlight (h : s.PoolOk) : (s.releaseInFlight g st).PoolOk := by
  unfold State.releaseInFlight
  split
  · split
    · exact h.release st
    · exact h
  · exact h

end Release

section Moves
variable {s : State} {g u : Tag} {f : Frame} {n m : LinkIx}

/-! ### The transmit ring (R25, R40, R27, R28) -/

/-- R25: a QUEUED tag moves to the ring. -/
theorem State.PoolOk.takeToRing (pos : Nat) (h : s.PoolOk) (hf : s.frame g = some f) (hp : f.place = .queued n) :
    (s.takeToRing n g f pos).PoolOk :=
  (((h.unqueue hf hp).setFrame _).poolOk_of_inFlight (State.frame_setFrame_same ..) rfl).congr
    (State.countFell_pool ..)

theorem State.takeToRing_frame_other (pos : Nat) (hu : u ≠ g) :
    (s.takeToRing n g f pos).frame u = s.frame u := by
  simp [State.takeToRing, State.frame_setFrame_other _ _ hu.symm]

theorem State.PoolOk.markFetched (h : s.PoolOk) : (s.markFetched g).PoolOk := by
  unfold State.markFetched
  split
  · rename_i f hf
    split
    · rename_i n d hp
      exact ((h.lifted_of_inFlight hf (Frame.inFlight_iff.mpr ⟨n, d, .inl hp⟩)).setFrame _).poolOk_of_inFlight
        (State.frame_setFrame_same ..) rfl
    · exact h
  · exact h

/-- R27: a lifted tag that comes back from the ring is placed, whatever the target. -/
theorem State.Lifted.placeReturned (target : Option LinkIx) (h : s.Lifted g) (hi : f.inFlight = true) :
    (s.placeReturned g f target).PoolOk := by
  unfold State.placeReturned
  split
  · exact (h.setFrame _).pushHead (State.frame_setFrame_same ..) rfl rfl
  · split
    · exact (h.setFrame _).pushHeld (State.frame_setFrame_same ..) rfl
    · exact ((h.setFrame _).poolOk_of_inFlight (State.frame_setFrame_same ..) hi).release _

theorem State.PoolOk.requeue (h : s.PoolOk) : (s.requeue g).PoolOk := by
  unfold State.requeue
  split
  · exact h
  · rename_i f hf
    split
    · exact h
    · rename_i hi
      have hi : f.inFlight = true := by simpa using hi
      split
      · exact h.release _
      · exact (h.lifted_of_inFlight hf hi).placeReturned _ hi

theorem State.PoolOk.expiryReturn (h : s.PoolOk) : (s.expiryReturn g).PoolOk := by
  unfold State.expiryReturn
  split
  · exact h
  · rename_i f hf
    split
    · exact h
    · rename_i hi
      have hi : f.inFlight = true := by simpa using hi
      split
      · exact (h.lifted_of_inFlight hf hi).placeReturned _ hi
      · exact h.release _

/-! ### One tag after another -/

/-- A move made of a list's tags one after another keeps the places when each single move does so in the case of its
own tag, and leaves the entries of the others. -/
theorem State.PoolOk.foldl {move : State → Tag → State} {before : Option Frame → Prop}
    (hmove : ∀ s g, s.PoolOk → before (s.frame g) → (move s g).PoolOk)
    (hother : ∀ s g u, u ≠ g → (move s g).frame u = s.frame u) {ts : List Tag} (hd : ts.Nodup)
    (hb : ∀ g ∈ ts, before (s.frame g)) (h : s.PoolOk) : (ts.foldl move s).PoolOk := by
  induction ts generalizing s with
  | nil => exact h
  | cons g ts ih =>
    obtain ⟨hg, hd⟩ := List.nodup_cons.mp hd
    refine ih hd (fun u hu => ?_) (hmove s g h (hb g List.mem_cons_self))
    rw [hother s g u (ne_of_mem_of_not_mem hu hg)]
    exact hb u (List.mem_cons_of_mem _ hu)

/-! ### Moves between queues and to the held list (R29 to R31) -/

theorem State.PoolOk.moveTail (h : s.PoolOk) (hf : s.frame g = some f) (hp : f.place = .queued n) :
    (s.moveTail n m g f).PoolOk :=
  (((h.unqueue hf hp).setFrame _).pushTail (State.frame_setFrame_same ..) rfl rfl).congr (State.countFell_pool ..)

theorem State.moveTail_frame_other (hu : u ≠ g) : (s.moveTail n m g f).frame u = s.frame u := by
  simp [State.moveTail, State.frame_setFrame_other _ _ hu.symm]

theorem State.PoolOk.divertOne (h : s.PoolOk) (hq : queuedOn n (s.frame g)) : (s.divertOne n g).PoolOk := by
  obtain ⟨f, hf, hp⟩ := hq
  simp only [State.divertOne, hf]
  split
  · exact h
  · split
    · split
      · exact h
      · exact h.moveTail hf hp
    · exact h

theorem State.divertOne_frame_other (hu : u ≠ g) : (s.divertOne n g).frame u = s.frame u := by
  unfold State.divertOne
  split
  · rfl
  · split
    · rfl
    · split
      · split
        · rfl
        · exact State.moveTail_frame_other hu
      · rfl

theorem State.PoolOk.divert (h : s.PoolOk) : (s.divert n).PoolOk :=
  h.foldl (fun _ _ h hq => h.divertOne hq) (fun _ _ _ hu => State.divertOne_frame_other hu) (h.nodup_all n)
    fun _ hg => h.queuedOn_of_mem_all hg

theorem State.PoolOk.redispatchOne (h : s.PoolOk) (hq : queuedOn n (s.frame g)) : (s.redispatchOne n g).PoolOk := by
  obtain ⟨f, hf, hp⟩ := hq
  simp only [State.redispatchOne, hf]
  split
  · exact h.release _
  · split
    · exact h.moveTail hf hp
    · split
      · exact (((h.unqueue hf hp).setFrame _).pushHeld (State.frame_setFrame_same ..) rfl).congr
          (State.countFell_pool ..)
      · exact h.release _

theorem State.redispatchOne_frame_other (hu : u ≠ g) : (s.redispatchOne n g).frame u = s.frame u := by
  unfold State.redispatchOne
  split
  · rfl
  · split
    · exact State.release_frame_other _ hu
    · split
      · exact State.moveTail_frame_other hu
      · split
        · simp [State.frame_setFrame_other _ _ hu.symm]
        · exact State.release_frame_other _ hu

theorem State.PoolOk.redispatch (h : s.PoolOk) : (s.redispatch n).PoolOk :=
  h.foldl (fun _ _ h hq => h.redispatchOne hq) (fun _ _ _ hu => State.redispatchOne_frame_other hu) (h.nodup_all n)
    fun _ hg => h.queuedOn_of_mem_all hg

theorem State.PoolOk.reevaluateOne (h : s.PoolOk) (hh : ∃ f, s.frame g = some f ∧ f.place = .held) :
    (s.reevaluateOne g).PoolOk := by
  obtain ⟨f, hf, hp⟩ := hh
  simp only [State.reevaluateOne, hf]
  split
  · exact ((h.unhold hf hp).setFrame _).pushTail (State.frame_setFrame_same ..) rfl rfl
  · exact h

theorem State.reevaluateOne_frame_other (hu : u ≠ g) : (s.reevaluateOne g).frame u = s.frame u := by
  unfold State.reevaluateOne
  split
  · rfl
  · split
    · simp [State.frame_setFrame_other _ _ hu.symm]
    · rfl

theorem State.PoolOk.reevaluate (h : s.PoolOk) : s.reevaluate.PoolOk :=
  h.foldl (before := fun o => ∃ f, o = some f ∧ f.place = .held) (fun _ _ h hh => h.reevaluateOne hh)
    (fun _ _ _ hu => State.reevaluateOne_frame_other hu) h.nodup_held fun _ hg => h.held_of_mem hg

/-! ### Admission (R18, R23, R24) -/

theorem State.frame_lowestFree (hg : s.lowestFree = some g) : s.frame g = none :=
  Option.isNone_iff_eq_none.mp (bankFind_some hg)

theorem State.PoolOk.admitQueue {r : Request} {t : State} (h : s.PoolOk) (ha : s.admitQueue r n = some (t, g)) :
    t.PoolOk := by
  unfold State.admitQueue at ha
  split at ha
  · obtain ⟨u, hu, e⟩ := Option.map_eq_some_iff.mp ha
    cases e
    exact ((h.lifted_of_free (State.frame_lowestFree hu)).setFrame _).pushTail (State.frame_setFrame_same ..) rfl rfl
  · cases ha

theorem State.PoolOk.admitHeld {r : Request} {t : State} (h : s.PoolOk) (ha : s.admitHeld r = some (t, g)) :
    t.PoolOk := by
  unfold State.admitHeld at ha
  split at ha
  · obtain ⟨u, hu, e⟩ := Option.map_eq_some_iff.mp ha
    cases e
    exact ((h.lifted_of_free (State.frame_lowestFree hu)).setFrame _).pushHeld (State.frame_setFrame_same ..) rfl
  · cases ha

/-! ### The backlog and the tagless item (R22, R35, R126) -/

/-- R126: a tagless item joins the backlog when none waits there. -/
theorem State.PoolOk.pushTagless {b : Nat} {st : ReleaseStatus} (h : s.PoolOk) (hw : s.taglessWaiting = false) :
    (s.pushBacklog (.tagless b st)).PoolOk := by
  have hnone : s.pool.backlog.countP ReleaseItem.isTagless = 0 :=
    List.countP_eq_zero.mpr fun i hi => by simpa using List.any_eq_false.mp hw i hi
  refine ⟨h.queued, h.held, fun t => ?_, ?_⟩
  · simpa using h.releasing t
  · simp [hnone, ReleaseItem.isTagless]

/-- The state without the oldest item of the backlog. -/
def State.popBacklog (s : State) : State := { s with pool := { s.pool with backlog := s.pool.backlog.tail } }

@[simp] theorem State.frame_popBacklog (s : State) (u : Tag) : s.popBacklog.frame u = s.frame u := rfl
@[simp] theorem State.popBacklog_backlog (s : State) : s.popBacklog.pool.backlog = s.pool.backlog.tail := rfl

theorem State.released_tagless (s : State) (b : Nat) (st : ReleaseStatus) :
    s.released (.tagless b st) = s.popBacklog := rfl

@[simp] theorem State.signalFreed_pool (s : State) : s.signalFreed.pool = s.pool := by
  unfold State.signalFreed; split <;> rfl

theorem State.released_entry_pool (s : State) (g : Tag) :
    (s.released (.entry g)).pool = (s.popBacklog.setFrame g none).pool := State.signalFreed_pool _

section Oldest
variable {is : List ReleaseItem}

theorem State.PoolOk.tagless_popBacklog {i : ReleaseItem} (h : s.PoolOk) (hb : s.pool.backlog = i :: is) :
    s.popBacklog.pool.backlog.countP ReleaseItem.isTagless ≤ 1 := by
  have := h.tagless
  rw [hb, List.countP_cons] at this
  rw [State.popBacklog_backlog, hb, List.tail_cons]
  omega

theorem State.PoolOk.popBacklog_of_tagless {b : Nat} {st : ReleaseStatus} (h : s.PoolOk)
    (hb : s.pool.backlog = .tagless b st :: is) : s.popBacklog.PoolOk := by
  refine ⟨h.queued, h.held, fun u => ?_, h.tagless_popBacklog hb⟩
  rw [State.frame_popBacklog, ← h.releasing u, State.popBacklog_backlog]
  simp [hb]

/-- R22: the tag at the front of the backlog stood there once: it is lifted. -/
theorem State.PoolOk.popBacklog_of_entry (h : s.PoolOk) (hb : s.pool.backlog = .entry g :: is) :
    s.popBacklog.Lifted g := by
  obtain ⟨f, st, hf, hp⟩ := h.releasing_of_mem (hb ▸ List.mem_cons_self)
  have hg := hf ▸ h.standsAs g
  refine ⟨fun u hu => ⟨h.queued u, h.held u, ?_⟩, ⟨fun n c => ?_, ?_, ?_⟩, h.tagless_popBacklog hb⟩
  · rw [State.frame_popBacklog, ← h.releasing u, State.popBacklog_backlog]
    simp [hb, Ne.symm hu]
  · exact (hg.queued n c).trans (by simp [hp])
  · exact hg.held.trans (by simp [hp])
  · have := hg.releasing
    rw [hb, List.count_cons_self] at this
    rw [State.popBacklog_backlog, hb]
    simpa [releasingEntry, hp, bit] using this

/-- R35: the oldest item of the backlog is reported; a tag there becomes FREE. -/
theorem State.PoolOk.released {i : ReleaseItem} (h : s.PoolOk) (hb : s.pool.backlog = i :: is) :
    (s.released i).PoolOk := by
  cases i with
  | tagless b st => rw [State.released_tagless]; exact h.popBacklog_of_tagless hb
  | entry g =>
    exact (((h.popBacklog_of_entry hb).setFrame none).poolOk_of_free (State.frame_setFrame_same ..)).congr
      (s.released_entry_pool g)

end Oldest

/-! ### Aging (R32, R33) -/

theorem State.frame_raisePoolAges (s : State) (g : Tag) :
    s.raisePoolAges.frame g = (s.frame g).map fun f => { f with age := raiseAge f.age } := by
  simp only [State.frame, State.raisePoolAges, bankGet_bankMap]

theorem State.queuesOf_raisePoolAges (s : State) (n : LinkIx) : s.raisePoolAges.queuesOf n = s.queuesOf n := by
  simp only [State.queuesOf, State.raisePoolAges]

theorem State.raisePoolAges_lists (s : State) :
    s.raisePoolAges.pool.heldList = s.pool.heldList ∧ s.raisePoolAges.pool.backlog = s.pool.backlog := by
  simp only [State.raisePoolAges, and_self]

theorem State.PoolOk.raisePoolAges (h : s.PoolOk) : s.raisePoolAges.PoolOk := by
  obtain ⟨hheld, hback⟩ := s.raisePoolAges_lists
  refine State.poolOk_of_standsAs (fun g => ?_) (by rw [hback]; exact h.tagless)
  obtain ⟨hq, hh, hr⟩ := h.standsAs g
  rw [State.frame_raisePoolAges]
  refine ⟨fun n c => ?_, ?_, ?_⟩
  · rw [State.queuesOf_raisePoolAges, hq]
    cases s.frame g <;> rfl
  · rw [hheld, hh]
    cases s.frame g <;> rfl
  · rw [hback, hr]
    cases s.frame g <;> rfl

theorem State.PoolOk.releaseAged (h : s.PoolOk) : (s.releaseAged g).PoolOk := by
  unfold State.releaseAged
  split
  · exact h
  · split
    · split
      · exact h.release _
      · exact h
    · split
      · exact h.release _
      · exact h
    · exact h

theorem State.PoolOk.releaseTimedOut (h : s.PoolOk) : (s.releaseTimedOut g).PoolOk := by
  unfold State.releaseTimedOut
  split
  · exact h
  · split
    · split
      · exact h.release _
      · exact h
    · exact h

end Moves

end Sys2Proof.Machine
end

section
/-!
PROOF. What the blocks outside the Frame Pool leave of it: the operations that do not touch the pool, by block.
-/

namespace Sys2Proof.Machine

section Neutral
variable (s : State)

/-! ### The Timing Unit and the Route Table -/

@[simp] theorem State.newSuperframe_pool (stop : Nat) : (s.newSuperframe stop).pool = s.pool := rfl

@[simp] theorem State.applyPendingRoot_pool : s.applyPendingRoot.pool = s.pool := by
  unfold State.applyPendingRoot; split <;> rfl

@[simp] theorem State.countSilence_pool : s.countSilence.pool = s.pool := by
  unfold State.countSilence
  split
  · split
    · rfl
    · split <;> rfl
  · split <;> rfl
  · rfl

@[simp] theorem State.enterHoldover_pool : s.enterHoldover.pool = s.pool := by
  unfold State.enterHoldover; split <;> rfl

@[simp] theorem State.endHoldover_pool : s.endHoldover.pool = s.pool := by
  unfold State.endHoldover; split <;> rfl

@[simp] theorem State.giveUpParent_pool : s.giveUpParent.pool = s.pool := by
  unfold State.giveUpParent; split <;> rfl

@[simp] theorem State.seekingBeacon_pool : s.seekingBeacon.pool = s.pool := by
  unfold State.seekingBeacon
  split
  · rfl
  · split <;> rfl

@[simp] theorem State.lockedBeacon_pool (p : LinkIx) (node : NodeId) (d : Nat) (g : Sighting) :
    (s.lockedBeacon p node d g).pool = s.pool := by
  unfold State.lockedBeacon
  split
  · rfl
  · dsimp only
    split <;> split <;> rfl

@[simp] theorem State.holdoverBeacon_pool (p : LinkIx) (node : NodeId) (g : Sighting) :
    (s.holdoverBeacon p node g).pool = s.pool := by
  unfold State.holdoverBeacon; split <;> rfl

@[simp] theorem State.timingBeacon_pool (source : NodeId) (g : Sighting) :
    (s.timingBeacon source g).pool = s.pool := by
  unfold State.timingBeacon
  split
  · rfl
  · split
    · rfl
    · dsimp only
      split
      · rfl
      · split <;> simp
      · split <;> simp
      · split <;> simp

@[simp] theorem State.askRole_pool (r : Role) : (s.askRole r).pool = s.pool := by
  unfold State.askRole; split <;> rfl

/-! ### The Link Table -/

@[simp] theorem State.linkBeacon_pool (source : NodeId) (t : TimingPair) (p : PlanPair) :
    (s.linkBeacon source t p).pool = s.pool := by
  unfold State.linkBeacon
  split
  · rfl
  · split <;> rfl

@[simp] theorem State.linkBoundary_pool : s.linkBoundary.1.pool = s.pool := by
  unfold State.linkBoundary; split <;> rfl

@[simp] theorem State.routeBoundary_pool : s.routeBoundary.1.pool = s.pool := by
  unfold State.routeBoundary; split <;> rfl

@[simp] theorem State.engineBoundary_pool : s.engineBoundary.1.pool = s.pool := by
  unfold State.engineBoundary; split <;> rfl

/-! ### The Receive Classifier -/

@[simp] theorem State.beginDecision_pool (b l : Nat) : (s.beginDecision b l).pool = s.pool := by
  unfold State.beginDecision; split <;> rfl

@[simp] theorem State.headerGathered_pool (b l : Nat) (h : List Byte) : (s.headerGathered b l h).pool = s.pool := by
  unfold State.headerGathered
  split
  · split
    · split <;> rfl
    · rfl
  · rfl

@[simp] theorem State.headerAnswered_pool (bs : List Byte) (last : Bool) :
    (s.headerAnswered bs last).pool = s.pool := by
  unfold State.headerAnswered
  split
  · split <;> simp
  · rfl

@[simp] theorem State.bodyAnswered_pool (bs : List Byte) (last : Bool) : (s.bodyAnswered bs last).pool = s.pool := by
  unfold State.bodyAnswered
  split
  · split
    · split <;> rfl
    · rfl
  · rfl

@[simp] theorem State.nameRelease_pool (a : Nat) (r : List Byte) (v : Verdict) :
    (s.nameRelease a r v).pool = s.pool := by
  unfold State.nameRelease; split <;> rfl

@[simp] theorem State.releaseHeld_pool : s.releaseHeld.pool = s.pool := by
  unfold State.releaseHeld; split <;> rfl

@[simp] theorem State.expireBudget_pool : s.expireBudget.pool = s.pool := by
  unfold State.expireBudget; split <;> rfl

/-! ### The Local Intake -/

@[simp] theorem State.fetchEntry_pool : s.fetchEntry.pool = s.pool := by
  unfold State.fetchEntry
  split
  · split <;> rfl
  · rfl

/-! ### The Slot Scheduler and the Completion Unit -/

@[simp] theorem State.writeDescriptor_pool (j budget rate attempts b l : Nat) (dest : NodeId) (c : Carried) :
    (s.writeDescriptor j budget rate attempts b l dest c).pool = s.pool := rfl

@[simp] theorem State.beaconSlot_pool (j : Nat) : (s.beaconSlot j).1.pool = s.pool := by
  unfold State.beaconSlot; dsimp only; split <;> rfl

@[simp] theorem State.serveReply_pool (j : Nat) : (s.serveReply j).1.pool = s.pool := by
  unfold State.serveReply
  split
  · rfl
  · split
    · rfl
    · split
      · rfl
      · split <;> rfl

@[simp] theorem State.sharedSlot_pool (j : Nat) : (s.sharedSlot j).pool = s.pool := by
  have hr := s.serveReply_pool j
  unfold State.sharedSlot
  dsimp only
  split
  · exact hr
  · split
    · exact hr
    · exact hr

@[simp] theorem State.advanceStage_pool : s.advanceStage.pool = s.pool := by
  unfold State.advanceStage; split <;> rfl

@[simp] theorem State.recall_pool (which : InFlight → Bool) : (s.recall which).pool = s.pool := rfl

@[simp] theorem State.retire_pool (r : InFlight) : (s.retire r).pool = s.pool := by simp [State.retire]

@[simp] theorem State.drainAfter_pool (c : Carried) : (s.drainAfter c).pool = s.pool := by
  unfold State.drainAfter; split <;> simp

/-! ### The Command Unit, the Report Writer and the engine -/

@[simp] theorem State.fetchCommand_pool : s.fetchCommand.pool = s.pool := by
  unfold State.fetchCommand
  split
  · split <;> rfl
  · rfl

@[simp] theorem State.leaveQuiesce_pool : s.leaveQuiesce.pool = s.pool := by
  unfold State.leaveQuiesce; split <;> rfl

@[simp] theorem State.responded_pool : s.responded.pool = s.pool := by simp [State.responded]

@[simp] theorem State.readyReset_pool : s.readyReset.pool = s.pool := by
  unfold State.readyReset; split <;> rfl

@[simp] theorem State.capture_pool (w : PostWord) (v : Nat) : (s.capture w v).pool = s.pool := by
  unfold State.capture
  split
  · rfl
  · split <;> split <;> rfl

/-! ### The Memory Path -/

@[simp] theorem State.skipTaken_pool (a : Nat) (d : List Byte) (p : Nat) : (s.skipTaken a d p).pool = s.pool := by
  unfold State.skipTaken; split <;> rfl

@[simp] theorem State.writeTaken_pool (w : Writer) (a : Nat) (d : List Byte) : (s.writeTaken w a d).pool = s.pool := by
  unfold State.writeTaken; split <;> simp

@[simp] theorem State.holdRecord_pool (a : Nat) (d : List Byte) : (s.holdRecord a d).pool = s.pool := by
  simp [State.holdRecord]

end Neutral

end Sys2Proof.Machine
end

section
/-!
PROOF. The blocks keep the places of the tags: what a link's changes of state ask of the pool, outcomes and completions,
beacons, probes and DATA frames received, the Local Intake, bursts, boundaries and their consequences.
-/

namespace Sys2Proof.Machine

section Blocks
variable {s : State} {g : Tag} {n : LinkIx}

/-! ### Links (R45, R46, R54, R55, R59 to R62) -/

theorem State.PoolOk.enterActive (k : Attention) (h : s.PoolOk) : (s.enterActive n k).PoolOk :=
  (h.congr (t := s.setLink n ((s.link n).opened.attend k)) rfl).reevaluate

theorem State.PoolOk.unblock (h : s.PoolOk) : (s.unblock n).PoolOk := by
  unfold State.unblock
  exact State.PoolOk.reevaluate (h.congr rfl)

theorem State.PoolOk.enterBlocked (h : s.PoolOk) : (s.enterBlocked n).PoolOk := by
  unfold State.enterBlocked
  exact State.PoolOk.divert (h.congr rfl)

/-- R45: of the requests of a link that leaves the usable set, only its pool request moves tags. -/
theorem State.PoolOk.leaveUsable {request : State → State} {reply : Bool}
    (hr : ∀ s : State, s.PoolOk → (request s).PoolOk) (h : s.PoolOk) : (s.leaveUsable n request reply).PoolOk := by
  refine (hr (s.routeLinkLost n) (h.congr rfl)).congr ?_
  unfold State.leaveUsable
  dsimp only
  split <;> simp

theorem State.PoolOk.enterFailed (r : FailureReason) (h : s.PoolOk) : (s.enterFailed n r).PoolOk :=
  State.PoolOk.congr (State.PoolOk.leaveUsable (s := s.setLink n { s.link n with state := .failed r }) (n := n)
    (reply := true) (fun _ h => h.redispatch (n := n)) (h.congr rfl)) rfl

theorem State.PoolOk.enterSilent (h : s.PoolOk) : (s.enterSilent n).PoolOk :=
  State.PoolOk.leaveUsable (s := s.setLink n { s.link n with state := .silent }) (n := n)
    (request := fun s => s.cutRelease n) (reply := true) (fun _ h => h.cutRelease) (h.congr rfl)

theorem State.PoolOk.enterDraining (h : s.PoolOk) : (s.enterDraining n).PoolOk :=
  State.PoolOk.leaveUsable (s := s.setLink n { s.link n with state := .draining }) (n := n)
    (request := fun s => s) (reply := false) (fun _ h => h) (h.congr rfl)

theorem State.PoolOk.drainBroken (h : s.PoolOk) : (s.drainBroken n).PoolOk := h.enterSilent.congr rfl

theorem State.PoolOk.loseBeacons (h : s.PoolOk) : (s.loseBeacons n).PoolOk := by
  unfold State.loseBeacons
  split
  · exact h.enterFailed _
  · exact h

theorem State.PoolOk.expireOpen (h : s.PoolOk) : (s.expireOpen n).PoolOk := by
  unfold State.expireOpen
  split
  · exact h.enterFailed _
  · exact h

theorem State.PoolOk.expireBlock (h : s.PoolOk) : (s.expireBlock n).PoolOk := by
  unfold State.expireBlock
  split
  · exact h.enterFailed _
  · exact h

/-! ### Outcomes and completions (R53, R146 to R148, R145) -/

theorem State.PoolOk.linkOutcome (o : TxOutcome) (k : Nat) (data : Bool) (h : s.PoolOk) :
    (s.linkOutcome n o k data).PoolOk := by
  have hl : ∀ l, (s.setLink n l).PoolOk := fun l => h.congr rfl
  unfold State.linkOutcome
  dsimp only
  split
  · exact h
  · split
    · split
      · exact (hl _).unblock
      · exact hl _
    · split
      · split
        · exact (hl _).enterBlocked
        · split
          · exact (hl _).drainBroken
          · exact hl _
      · exact hl _
    · split
      · exact hl _
      · exact h
    · exact h

theorem State.PoolOk.ownOutcome (node : NodeId) (o : TxOutcome) (k : Nat) (h : s.PoolOk) :
    (s.ownOutcome n node o k).PoolOk := by
  unfold State.ownOutcome
  split
  · exact h
  · exact State.PoolOk.linkOutcome _ _ _ (h.congr rfl)

theorem State.PoolOk.carriedOutcome (o : TxOutcome) (k : Nat) (h : s.PoolOk) :
    (s.carriedOutcome g n o k).PoolOk := by
  have hl : ((s.setLink n ((s.link n).measureData o k)).linkOutcome n o k true).PoolOk :=
    State.PoolOk.linkOutcome _ _ _ (h.congr rfl)
  cases o with
  | delivered => exact hl.releaseInFlight _
  | undelivered => exact hl.requeue
  | expired => exact hl.expiryReturn
  | aborted => exact hl.releaseInFlight _

theorem State.PoolOk.dataOutcome (o : TxOutcome) (k : Nat) (h : s.PoolOk) : (s.dataOutcome g n o k).PoolOk := by
  unfold State.dataOutcome
  split
  · exact h.releaseInFlight _
  · split
    · exact h.carriedOutcome _ _
    · exact h.carriedOutcome _ _
    · exact h.carriedOutcome _ _
    · exact h.releaseInFlight _
    · exact h.releaseInFlight _
    · exact h.releaseInFlight _
    · exact h.requeue
    · exact h.expiryReturn

theorem State.PoolOk.handleOutcome (r : InFlight) (o : TxOutcome) (k : Nat) (h : s.PoolOk) :
    (s.handleOutcome r o k).PoolOk := by
  unfold State.handleOutcome
  split
  · exact h.dataOutcome _ _
  · exact h
  · exact h.ownOutcome _ _ _
  · exact h.ownOutcome _ _ _

theorem State.PoolOk.takeCompletion (h : s.PoolOk) : s.takeCompletion.PoolOk := by
  unfold State.takeCompletion
  split
  · exact h
  · rename_i c cs _
    have hs : State.PoolOk { s with completion := { s.completion with queue := cs } } := h.congr rfl
    dsimp only
    split
    · exact hs
    · exact (hs.handleOutcome _ _ _).congr ((State.drainAfter_pool ..).trans (State.retire_pool ..))

/-- Operations that leave the pool leave it when made one after another. -/
theorem State.foldl_pool {α : Type} {f : State → α → State} (hf : ∀ s a, (f s a).pool = s.pool) (l : List α)
    (s : State) : (l.foldl f s).pool = s.pool := by
  induction l generalizing s with
  | nil => rfl
  | cons a l ih => exact (ih _).trans (hf s a)

theorem State.PoolOk.foldl_of_keeps {α : Type} {f : State → α → State}
    (hf : ∀ s a, s.PoolOk → (f s a).PoolOk) (l : List α) (h : s.PoolOk) : (l.foldl f s).PoolOk := by
  induction l generalizing s with
  | nil => exact h
  | cons a l ih => exact ih (hf s a h)

theorem State.PoolOk.giveUp (h : s.PoolOk) : s.giveUp.PoolOk := by
  have hr : (s.tagsInFlight.foldl (fun s t => s.releaseInFlight t .abandoned) s).PoolOk :=
    h.foldl_of_keeps (fun _ _ h => h.releaseInFlight _) _
  exact hr.congr (State.foldl_pool (fun s (r : InFlight) => s.setMark_pool r.pos .none) _ _)

/-! ### Frames received (R49, R50, R93, R116 to R120) -/

theorem State.PoolOk.probeReceived (source : NodeId) (h : s.PoolOk) : (s.probeReceived source).PoolOk := by
  unfold State.probeReceived
  split
  · split
    · exact (h.enterActive _).congr rfl
    · exact h.congr rfl
    · exact h.congr rfl
    · exact h.congr rfl
    · exact h
  · split
    · split
      · rename_i n _
        have hs : (s.setLink n { s.link n with neighbour := some source }).PoolOk := h.congr rfl
        exact (hs.enterActive _).congr rfl
      · exact h
    · exact h

theorem State.PoolOk.replyReceived (source : NodeId) (h : s.PoolOk) : (s.replyReceived source).PoolOk := by
  unfold State.replyReceived
  split
  · split
    · exact h.enterActive _
    · exact h
  · exact h

theorem State.PoolOk.learnBeacon (source : NodeId) (es : List Advert) (h : s.PoolOk) :
    (s.learnBeacon source es).PoolOk := by
  unfold State.learnBeacon
  split
  · exact h
  · dsimp only
    split
    · exact State.PoolOk.reevaluate (h.congr rfl)
    · exact h.congr rfl

theorem State.PoolOk.takeBeacon (r hd b : List Byte) (h : s.PoolOk) : (s.takeBeacon r hd b).PoolOk := by
  unfold State.takeBeacon
  dsimp only
  split
  · exact (State.PoolOk.learnBeacon _ _ (h.congr (State.linkBeacon_pool ..))).congr (State.timingBeacon_pool ..)
  · exact h

theorem State.PoolOk.admitForward (b l : Nat) (hd : List Byte) (h : s.PoolOk) :
    (s.admitForward b l hd).1.PoolOk := by
  unfold State.admitForward
  dsimp only
  split
  · exact h
  · split
    · rename_i ha; exact (h.admitHeld ha).congr rfl
    · exact h
  · split
    · rename_i ha; exact (h.admitQueue ha).congr rfl
    · exact h

theorem State.PoolOk.judgeData (b l : Nat) (hd : List Byte) (h : s.PoolOk) : (s.judgeData b l hd).1.PoolOk := by
  unfold State.judgeData
  split
  · exact h
  · split
    · exact h
    · split
      · exact h
      · split
        · exact h
        · split
          · exact h
          · exact h.admitForward _ _ _

theorem State.PoolOk.judge (r : List Byte) (b l : Nat) (hd bd : List Byte) (h : s.PoolOk) :
    (s.judge r b l hd bd).1.PoolOk := by
  unfold State.judge
  split
  · exact h.takeBeacon _ _ _
  · split
    · dsimp only
      split
      · exact h.probeReceived _
      · exact h
    · split
      · dsimp only
        split
        · exact h.replyReceived _
        · exact h
      · exact h.judgeData _ _ _

theorem State.PoolOk.claim (h : s.PoolOk) : s.claim.PoolOk := by
  unfold State.claim
  split
  · split
    · split
      · exact h.congr (State.nameRelease_pool ..)
      · exact (h.judge _ _ _ _ _).congr (State.nameRelease_pool ..)
      · exact h
    · exact h
  · exact h

/-! ### The Local Intake (R122 to R127) -/

theorem State.PoolOk.releaseTagless (e : LocalEntry) (hd : List Byte) (st : ReleaseStatus) (h : s.PoolOk) :
    (s.releaseTagless e hd st).PoolOk := by
  unfold State.releaseTagless
  split
  · exact h.congr rfl
  · rename_i hw
    exact (h.pushTagless (by simpa using hw)).congr rfl

theorem State.PoolOk.entryAnswered (bs : List Byte) (h : s.PoolOk) : (s.entryAnswered bs).PoolOk := by
  unfold State.entryAnswered
  dsimp only
  split
  · exact h.releaseTagless _ _ _
  · split
    · exact h.congr rfl
    · exact h.releaseTagless _ _ _

theorem State.PoolOk.localHeaderAnswered (bs : List Byte) (last : Bool) (h : s.PoolOk) :
    (s.localHeaderAnswered bs last).PoolOk := by
  unfold State.localHeaderAnswered
  split
  · split
    · exact h.congr rfl
    · split
      · exact h.releaseTagless _ _ _
      · split
        · exact h.congr rfl
        · exact h.releaseTagless _ _ _
  · exact h

theorem State.PoolOk.admitLocal (e : LocalEntry) (hd : List Byte) (h : s.PoolOk) : (s.admitLocal e hd).PoolOk := by
  unfold State.admitLocal
  dsimp only
  split
  · exact h.releaseTagless _ _ _
  · split
    · rename_i ha; exact (h.admitHeld ha).congr rfl
    · exact h.releaseTagless _ _ _
  · split
    · rename_i ha; exact (h.admitQueue ha).congr rfl
    · exact h.congr rfl

theorem State.PoolOk.intakeQuiesce (h : s.PoolOk) : s.intakeQuiesce.PoolOk := by
  unfold State.intakeQuiesce
  split
  · exact h.releaseTagless _ _ _
  · exact h.releaseTagless _ _ _
  · exact h

theorem State.PoolOk.localAdmission (h : s.PoolOk) : s.localAdmission.PoolOk := by
  unfold State.localAdmission
  split
  · split
    · exact h.admitLocal _ _
    · exact h
  · exact h

theorem State.PoolOk.intakeRetry (h : s.PoolOk) : s.intakeRetry.PoolOk := by
  unfold State.intakeRetry
  split
  · split
    · exact h.admitLocal _ _
    · exact h
  · exact h

theorem State.PoolOk.handOver (h : s.PoolOk) : s.handOver.PoolOk := by
  unfold State.handOver
  split
  · split
    · exact h
    · rename_i hw
      exact (h.pushTagless (by simpa using hw)).congr rfl
  · exact h

/-! ### Bursts (R138 to R140) -/

variable {p : BurstPlan} {f : Frame}

theorem State.PoolOk.takeFrame (h : s.PoolOk) (hf : s.frame g = some f) (hp : f.place = .queued p.link) :
    (s.takeFrame p g f).PoolOk :=
  State.PoolOk.takeToRing _ (h.congr (State.writeDescriptor_pool ..)) hf hp

theorem State.takeFrame_frame_other {u : Tag} (hu : u ≠ g) : (s.takeFrame p g f).frame u = s.frame u :=
  State.takeToRing_frame_other _ hu

/-- R139, phase 1: the tags of a class are taken from its head on, each of them QUEUED on the burst's link still. -/
theorem State.PoolOk.takeClass {ts : List Tag} {left : Nat} (h : s.PoolOk) (hd : ts.Nodup)
    (hq : ∀ g ∈ ts, queuedOn p.link (s.frame g)) : (State.takeClass p ts (s, left)).1.PoolOk := by
  induction ts generalizing s left with
  | nil => exact h
  | cons g ts ih =>
    obtain ⟨hg, hd⟩ := List.nodup_cons.mp hd
    obtain ⟨f, hf, hp⟩ := hq g List.mem_cons_self
    simp only [State.takeClass, hf]
    split
    · refine ih (h.takeFrame hf hp) hd fun u hu => ?_
      rw [State.takeFrame_frame_other (ne_of_mem_of_not_mem hu hg)]
      exact hq u (List.mem_cons_of_mem _ hu)
    · exact h

theorem State.takeClass_frame_other {ts : List Tag} {left : Nat} {u : Tag} (hu : u ∉ ts) :
    (State.takeClass p ts (s, left)).1.frame u = s.frame u := by
  induction ts generalizing s left with
  | nil => rfl
  | cons g ts ih =>
    obtain ⟨hug, hu⟩ := not_or.mp (List.mem_cons.not.mp hu)
    unfold State.takeClass
    split
    · rfl
    · split
      · exact (ih hu).trans (State.takeFrame_frame_other hug)
      · rfl

/-- R139: the frame at the head of a list that fits. -/
theorem State.fittingHead_some {left : Nat} {ts : List Tag} (h : s.fittingHead p left ts = some (g, f)) :
    g ∈ ts ∧ s.frame g = some f := by
  cases ts with
  | nil => cases h
  | cons u us =>
    simp only [State.fittingHead] at h
    cases hu : s.frame u with
    | none => simp [hu] at h
    | some f' =>
      simp only [hu, Option.ite_none_right_eq_some, Option.some.injEq, Prod.mk.injEq] at h
      obtain ⟨-, rfl, rfl⟩ := h
      exact ⟨List.mem_cons_self, hu⟩

/-- R139, phase 2. -/
theorem State.PoolOk.takeShared {fuel left : Nat} (h : s.PoolOk) : (State.takeShared p fuel s left).PoolOk := by
  induction fuel generalizing s left with
  | zero => exact h
  | succ fuel ih =>
    unfold State.takeShared
    dsimp only
    split
    · rename_i g f hsome
      obtain ⟨ts, hts, hfit⟩ := List.exists_of_findSome?_eq_some hsome
      obtain ⟨hg, hf⟩ := State.fittingHead_some hfit
      have hmem : ∃ c, g ∈ (s.queuesOf p.link).get c := by
        split at hts <;> obtain rfl | rfl : ts = _ ∨ ts = _ := by simpa using hts
        exacts [⟨.background, hg⟩, ⟨.bulk, hg⟩, ⟨.bulk, hg⟩, ⟨.background, hg⟩]
      obtain ⟨c, hc⟩ := hmem
      obtain ⟨f', hf', hp⟩ := h.queuedOn_of_mem hc
      obtain rfl : f = f' := Option.some.inj (hf.symm.trans hf')
      exact ih ((h.takeFrame hf hp).congr rfl)
    · exact h

/-- R138, R139: the two classes of phase 1 hold no tag in common, so those of the second are QUEUED still when the
first has been taken. -/
theorem State.PoolOk.burst (j : Nat) (h : s.PoolOk) : (s.burst j n).PoolOk := by
  have hnodup : ((s.queuesOf n).expedited ++ (s.queuesOf n).interactive).Nodup := by
    have hall := h.nodup_all n
    rw [ClassQueues.all, List.append_assoc] at hall
    exact hall.of_append_left
  obtain ⟨hx, hi, hdisjoint⟩ := List.nodup_append.mp hnodup
  have hfirst := h.takeClass (p := ⟨j, n, (s.link n).rate, s.burstBudget j n⟩) (left := s.burstBudget j n) hx
    fun g hg => h.queuedOn_of_mem (c := .expedited) hg
  refine State.PoolOk.takeShared (State.PoolOk.takeClass hfirst hi fun g hg => ?_)
  rw [State.takeClass_frame_other fun he => hdisjoint g he g hg rfl]
  exact h.queuedOn_of_mem (c := .interactive) hg

/-! ### Slots, boundaries and consequences (R135, R151) -/

theorem State.PoolOk.txSlot (j : Nat) (h : s.PoolOk) : (s.txSlot j n).PoolOk := by
  unfold State.txSlot
  split
  · exact h.burst j
  · exact h.burst j
  · split
    · exact h.congr rfl
    · exact h
  · exact h

theorem State.PoolOk.slotAction (j : SlotIx) (h : s.PoolOk) : (s.slotAction j).1.PoolOk := by
  unfold State.slotAction
  split
  · split
    · exact h.congr (State.beaconSlot_pool ..)
    · exact h.congr (State.sharedSlot_pool ..)
    · exact h.txSlot _
    · exact h
  · exact h

theorem State.PoolOk.takeBoundary (b : Block) (h : s.PoolOk) : (s.takeBoundary b).1.PoolOk := by
  cases b with
  | framePool => exact h.raisePoolAges
  | linkTable => exact h.congr s.linkBoundary_pool
  | routeTable => exact h.congr s.routeBoundary_pool
  | slotScheduler =>
    unfold State.takeBoundary State.schedulerBoundary
    dsimp only
    split
    · exact State.PoolOk.slotAction 0 (h.congr s.advanceStage_pool)
    · exact h
  | engine => exact h.congr s.engineBoundary_pool

theorem State.PoolOk.perform (c : Consequence) (h : s.PoolOk) : (s.perform c).PoolOk := by
  cases c with
  | agedRelease g => exact h.releaseAged
  | holdTimeout g => exact h.releaseTimedOut
  | beaconLoss n => exact h.loseBeacons
  | openTimeout n => exact h.expireOpen
  | blockHoldExpiry n => exact h.expireBlock
  | quiesceLimit => exact h.giveUp
  | silenceLimit => exact h.congr s.enterHoldover_pool
  | holdoverTimeout => exact h.congr s.endHoldover_pool
  | outlierLimit => exact h.congr s.giveUpParent_pool
  | routeStale p => exact h.congr rfl
  | routeAgePoison p => exact h.congr rfl
  | ownSequenceAdvance => exact h.congr rfl
  | poisonCountExpiry p => exact h.congr rfl

/-- The work of an event, taken up to its first consequence. -/
theorem State.PoolOk.advance (ws : List Work) (h : s.PoolOk) : (State.advance ws s).PoolOk := by
  induction ws generalizing s with
  | nil => exact h.congr rfl
  | cons w ws ih =>
    cases w with
    | due c => exact h.congr rfl
    | take b =>
      have hb := h.takeBoundary b
      unfold State.advance
      split
      · rename_i hr; exact ih (by rwa [hr] at hb)
      · rename_i hr; rw [hr] at hb; exact hb.congr rfl

/-- All the work of an event. -/
theorem State.PoolOk.finish (ws : List Work) (h : s.PoolOk) : (State.finish ws s).PoolOk := by
  induction ws generalizing s with
  | nil => exact h.congr rfl
  | cons w ws ih =>
    cases w with
    | due c => exact ih (h.perform c)
    | take b => exact ih ((h.takeBoundary b).foldl_of_keeps (fun _ c h => h.perform c) _)

theorem State.PoolOk.resolve (kind : Consequence → Bool) (h : s.PoolOk) : (s.resolve kind).PoolOk := by
  unfold State.resolve
  split
  · split
    · exact (h.perform _).advance _
    · exact h
  · exact h

theorem State.PoolOk.boundary (order : List Block) (h : s.PoolOk) : (s.boundary order).PoolOk := by
  unfold State.boundary
  exact State.PoolOk.advance _ (h.congr (by simp))

theorem State.PoolOk.startSlot (h : s.PoolOk) : s.startSlot.PoolOk := by
  unfold State.startSlot
  split
  · exact h
  · split
    · exact h
    · rename_i j _ _
      have hs : (s.enterSlot j).PoolOk := h.congr rfl
      exact (hs.slotAction j).congr rfl

end Blocks

end Sys2Proof.Machine
end

section
/-!
PROOF. Every step keeps the places of the tags (R17, R20 to R22), and reset has them: the software commands, the
engine, reports, the port and the accesses that wait, and then the rows.
-/

namespace Sys2Proof.Machine

/-! ### Software commands -/

section Commands
variable (s : State) (seq : BitVec 16)

@[simp] theorem State.commandLinkOpen_pool (link : Byte) (node : NodeId) (fl ce at' : Byte) :
    (s.commandLinkOpen seq link node fl ce at').pool = s.pool := by
  unfold State.commandLinkOpen
  split
  · rfl
  · split
    · rfl
    · split <;> rfl

@[simp] theorem State.commandLinkTune_pool (link : Byte) (sel : BitVec 16) (v : TuneValues) :
    (s.commandLinkTune seq link sel v).pool = s.pool := by
  unfold State.commandLinkTune
  split
  · rfl
  · split <;> rfl

@[simp] theorem State.commandLinkClear_pool (link : Byte) : (s.commandLinkClear seq link).pool = s.pool := by
  unfold State.commandLinkClear
  split
  · rfl
  · dsimp only
    split
    · rfl
    · split <;> rfl

@[simp] theorem State.commandLinkQuery_pool (link : Byte) : (s.commandLinkQuery seq link).pool = s.pool := by
  unfold State.commandLinkQuery; split <;> rfl

@[simp] theorem State.commandLinkClimb_pool (link act : Byte) : (s.commandLinkClimb seq link act).pool = s.pool := by
  unfold State.commandLinkClimb
  split
  · rfl
  · rfl
  · dsimp only
    split
    · rfl
    · split <;> rfl

@[simp] theorem State.commandRouteUnpin_pool (dest : NodeId) : (s.commandRouteUnpin seq dest).pool = s.pool := by
  unfold State.commandRouteUnpin
  split
  · rfl
  · split <;> rfl

@[simp] theorem State.commandRouteQuery_pool (sel : Byte) (v : BitVec 16) :
    (s.commandRouteQuery seq sel v).pool = s.pool := by
  unfold State.commandRouteQuery
  split
  · rfl
  · split
    · rfl
    · split <;> rfl
  · rfl

@[simp] theorem State.commandPlanWrite_pool (c first count : Byte) (es : List Byte) :
    (s.commandPlanWrite seq c first count es).pool = s.pool := by
  unfold State.commandPlanWrite
  dsimp only
  split
  · rfl
  · rfl
  · split <;> rfl

@[simp] theorem State.commandPlanSwitch_pool (c : Byte) : (s.commandPlanSwitch seq c).pool = s.pool := by
  unfold State.commandPlanSwitch
  split
  · rfl
  · split
    · rfl
    · split
      · rfl
      · split <;> rfl

@[simp] theorem State.commandPlanCancel_pool : (s.commandPlanCancel seq).pool = s.pool := by
  unfold State.commandPlanCancel; split <;> rfl

@[simp] theorem State.commandTimingSet_pool (role prop : Byte) : (s.commandTimingSet seq role prop).pool = s.pool := by
  unfold State.commandTimingSet; split <;> simp

end Commands

section Steps
variable {s : State}

theorem State.PoolOk.commandLinkDrain (seq : BitVec 16) (link : Byte) (h : s.PoolOk) :
    (s.commandLinkDrain seq link).PoolOk := by
  unfold State.commandLinkDrain
  split
  · exact h.congr rfl
  · split
    · exact h.enterDraining.congr (State.drainTest_pool ..)
    · exact h.congr rfl

theorem State.PoolOk.commandLinkCut (seq : BitVec 16) (link : Byte) (h : s.PoolOk) :
    (s.commandLinkCut seq link).PoolOk := by
  unfold State.commandLinkCut
  split
  · exact h.congr rfl
  · split
    · exact h.congr rfl
    · exact h.congr rfl
    · exact h.enterSilent.congr ((State.respond_pool ..).trans (State.recall_pool ..))

theorem State.PoolOk.commandRoutePin (seq : BitVec 16) (dest : NodeId) (link : Byte) (metric : BitVec 16)
    (h : s.PoolOk) : (s.commandRoutePin seq dest link metric).PoolOk := by
  unfold State.commandRoutePin
  split
  · exact h.congr (State.respond_pool ..)
  · split
    · exact h.congr (State.respond_pool ..)
    · split
      · exact h.congr (State.respond_pool ..)
      · rename_i rt _
        have hs : State.PoolOk { s with routes := rt } := h.congr rfl
        exact hs.reevaluate.congr rfl

theorem State.PoolOk.enterQuiescing (m : ResetMode) (h : s.PoolOk) : (s.enterQuiescing m).PoolOk := by
  have hs : (State.releaseHeld { s with path := { s.path with engine := .quiescing m 0 } }).PoolOk :=
    h.congr (State.releaseHeld_pool _)
  exact hs.intakeQuiesce.quiesceRelease.congr rfl

theorem State.PoolOk.commandEngineReset (seq : BitVec 16) (mode : Byte) (h : s.PoolOk) :
    (s.commandEngineReset seq mode).PoolOk := by
  unfold State.commandEngineReset
  split
  · exact h.congr rfl
  · rename_i m _
    have hq := h.enterQuiescing m
    dsimp only
    exact hq.congr rfl

theorem State.PoolOk.apply (c : Instr) (h : s.PoolOk) : (s.apply c).PoolOk := by
  unfold State.apply
  split
  case h_3 => exact h.congr (State.commandLinkOpen_pool ..)
  case h_4 => exact h.congr (State.commandLinkTune_pool ..)
  case h_5 => exact h.commandLinkDrain _ _
  case h_6 => exact h.commandLinkCut _ _
  case h_7 => exact h.congr (State.commandLinkClear_pool ..)
  case h_8 => exact h.congr (State.commandLinkQuery_pool ..)
  case h_9 => exact h.congr (State.commandLinkClimb_pool ..)
  case h_10 => exact h.commandRoutePin _ _ _ _
  case h_11 => exact h.congr (State.commandRouteUnpin_pool ..)
  case h_12 => exact h.congr (State.commandRouteQuery_pool ..)
  case h_13 => exact h.congr (State.commandPlanWrite_pool ..)
  case h_14 => exact h.congr (State.commandPlanSwitch_pool ..)
  case h_15 => exact h.congr (State.commandPlanCancel_pool ..)
  case h_16 => exact h.congr (State.commandTimingSet_pool ..)
  case h_17 => exact h.commandEngineReset _ _
  all_goals exact h.congr rfl

/-! ### Reset, the anchor commit and the reports -/

theorem State.poolOk_reset : State.reset.PoolOk := State.poolOk_of_empty rfl rfl rfl rfl

theorem State.poolOk_pinReset (s : State) : s.pinReset.PoolOk := State.poolOk_of_empty rfl rfl rfl rfl

theorem State.poolOk_commit (s : State) : s.commit.PoolOk := State.poolOk_of_empty rfl rfl rfl rfl

theorem State.PoolOk.validateAnchor (sel : BitVec 2) (h : s.PoolOk) : (s.validateAnchor sel).PoolOk := by
  unfold State.validateAnchor
  dsimp only
  split
  · exact s.poolOk_commit.congr rfl
  · exact h.congr rfl

theorem State.PoolOk.captureAnchor (o : Nat) (d : List Byte) (h : s.PoolOk) : (s.captureAnchor o d).PoolOk := by
  unfold State.captureAnchor
  split
  · exact h
  · have hs : State.PoolOk { s with path := { s.path with staging := overlay s.path.staging o d } } := h.congr rfl
    dsimp only
    split
    · exact hs.validateAnchor _
    · exact hs

/-- R183: a RELEASE report that is to be written is of the oldest item of the backlog. -/
theorem State.nextReport_release {i : ReleaseItem} (h : s.nextReport = some (.release i)) :
    ∃ is, s.pool.backlog = i :: is := by
  have hwait : ∀ c, s.waitingFor c = some (.release i) → ∃ is, s.pool.backlog = i :: is := by
    intro c hc
    cases c with
    | release =>
      cases hb : s.pool.backlog with
      | nil => simp [State.waitingFor, hb] at hc
      | cons j js => simp_all [State.waitingFor]
    | response => simp only [State.waitingFor] at hc; split at hc <;> simp at hc
    | attention n => simp only [State.waitingFor] at hc; split at hc <;> simp at hc
    | planActive => simp [State.waitingFor] at hc
    | timing => simp [State.waitingFor] at hc
  unfold State.nextReport at h
  split at h
  · rename_i w hw
    obtain ⟨c, -, hc⟩ := Option.bind_eq_some_iff.mp hw
    exact hwait c (hc.trans h)
  · unfold State.chooseReport at h
    split at h
    · cases h
    · split at h
      · rename_i j js hb
        obtain rfl : j = i := by simpa using h
        exact ⟨js, hb⟩
      · split at h
        · cases h
        · split at h
          · cases h
          · simp at h

theorem State.PoolOk.writeReport (h : s.PoolOk) : s.writeReport.PoolOk := by
  unfold State.writeReport
  split
  · split
    · rename_i w hw
      split
      · cases w with
        | release i =>
          obtain ⟨is, hb⟩ := State.nextReport_release hw
          refine State.PoolOk.released (is := is) (h.congr rfl) hb
        | response code seq st p => exact h.congr (State.responded_pool _)
        | attention n => exact h.congr rfl
        | planActive p => exact h.congr rfl
        | timing t => exact h.congr rfl
      · exact h.congr rfl
    · exact h
  · exact h

/-! ### The port (R170 to R172) -/

theorem State.PoolOk.reportFetch (p : Nat) (h : s.PoolOk) : (s.reportFetch p).PoolOk := by
  unfold State.reportFetch
  split
  · exact h
  · split
    · exact h
    · dsimp only
      split
      · exact State.PoolOk.markFetched (h.congr rfl)
      · exact h.congr rfl

theorem State.PoolOk.answered (who : Reader) (bs : List Byte) (last : Bool) (h : s.PoolOk) :
    (s.answered who bs last).PoolOk := by
  cases who with
  | classifierHeader => exact h.congr (State.headerAnswered_pool ..)
  | classifierBody => exact h.congr (State.bodyAnswered_pool ..)
  | intakeEntry => exact h.entryAnswered _
  | intakeHeader => exact h.localHeaderAnswered _ _
  | command => exact State.PoolOk.apply _ (h.congr rfl)

theorem State.PoolOk.takeHead (h : s.PoolOk) : s.takeHead.PoolOk := by
  have hd : s.dropHead.PoolOk := h.congr rfl
  unfold State.takeHead
  split
  · exact h
  · split
    · exact hd.answered _ _ _
    · exact hd
  · exact hd.congr (State.writeTaken_pool ..)

theorem State.PoolOk.yieldFor (fuel : Nat) (h : s.PoolOk) : (State.yieldFor fuel s).PoolOk := by
  induction fuel generalizing s with
  | zero => exact h
  | succ fuel ih =>
    unfold State.yieldFor
    split
    · exact ih h.takeHead
    · exact h

theorem State.PoolOk.yieldPort (h : s.PoolOk) : s.yieldPort.PoolOk := h.yieldFor _

theorem State.PoolOk.takeRun (who : Reader) (fuel : Nat) (h : s.PoolOk) : (State.takeRun who fuel s).PoolOk := by
  induction fuel generalizing s with
  | zero => exact h
  | succ fuel ih =>
    unfold State.takeRun
    split
    · split
      · split
        · exact h.takeHead
        · exact ih h.takeHead
      · exact h
    · exact h

theorem State.PoolOk.answerRun (who : Reader) (h : s.PoolOk) : (s.answerRun who).PoolOk := h.takeRun _ _

/-! ### System-side accesses (R164, R166 to R168) -/

theorem State.PoolOk.copyWrite (a : Nat) (d : List Byte) (p : Nat) (h : s.PoolOk) : (s.copyWrite a d p).PoolOk := by
  unfold State.copyWrite
  split
  · exact h.yieldPort.congr rfl
  · exact h.congr rfl

theorem State.PoolOk.takeWrite (a : Nat) (d : List Byte) (h : s.PoolOk) : (s.takeWrite a d).PoolOk := by
  have hs : (s.yieldPort.store a d).PoolOk := h.yieldPort.congr rfl
  unfold State.takeWrite
  split
  · exact hs
  · exact h
  · exact h.congr (State.holdRecord_pool ..)
  · exact h.copyWrite _ _ _
  · exact hs.congr (State.capture_pool ..)
  · exact hs.captureAnchor _ _

theorem State.PoolOk.fetchPosition (p : Nat) (h : s.PoolOk) : (s.fetchPosition p).PoolOk := by
  unfold State.fetchPosition
  split
  · exact State.PoolOk.reportFetch _ (h.congr (State.setMark_pool ..))
  · exact h

theorem State.PoolOk.takeAccess (x : Access) (h : s.PoolOk) : (s.takeAccess x).PoolOk := by
  cases x with
  | write a d => exact h.takeWrite _ _
  | read a n => exact h.yieldPort.foldl_of_keeps (fun _ _ h => h.fetchPosition _) _

theorem State.PoolOk.proceedFor (fuel : Nat) (h : s.PoolOk) : (State.proceedFor fuel s).PoolOk := by
  induction fuel generalizing s with
  | zero => exact h
  | succ fuel ih =>
    unfold State.proceedFor
    split
    · exact h
    · exact ih (State.PoolOk.takeAccess _ (h.congr rfl))

theorem State.PoolOk.proceed (h : s.PoolOk) : s.proceed.PoolOk := h.proceedFor _

theorem State.PoolOk.access (x : Access) (h : s.PoolOk) : (s.access x).PoolOk := by
  unfold State.access
  split
  · exact h.congr rfl
  · exact (h.takeAccess x).proceed

theorem State.PoolOk.takeHeld (h : s.PoolOk) : s.takeHeld.PoolOk := by
  have hs : ∀ a d, ((s.yieldPort.store a d).setSlot .empty).PoolOk := fun a d => h.yieldPort.congr rfl
  unfold State.takeHeld
  split
  · exact (hs _ _).proceed
  · exact (hs _ _).proceed
  · exact h

theorem State.PoolOk.refillCompletion (h : s.PoolOk) : s.refillCompletion.PoolOk := by
  have he : (s.setSlot .empty).PoolOk := h.congr rfl
  unfold State.refillCompletion
  split
  · split
    · exact State.PoolOk.proceed (he.yieldPort.congr rfl)
    · exact h
  · exact h

theorem State.PoolOk.processCompletion (h : s.PoolOk) : s.processCompletion.PoolOk := by
  unfold State.processCompletion
  split
  · exact h
  · exact h.takeCompletion.refillCompletion

/-! ### The end of a quiesce and the settling of an event -/

theorem State.PoolOk.releaseWaiting (m : ResetMode) (h : s.PoolOk) : (s.releaseWaiting m).PoolOk := by
  have he : (s.setSlot .empty).PoolOk := h.congr rfl
  unfold State.releaseWaiting
  split
  · split <;> exact he.yieldPort.congr rfl
  · exact h

theorem State.PoolOk.endQuiesce (h : s.PoolOk) : s.endQuiesce.PoolOk := by
  have hs : ((s.clearBlocks s.quiesceMode).releaseWaiting s.quiesceMode).PoolOk :=
    State.PoolOk.releaseWaiting _ (h.congr rfl)
  exact State.PoolOk.proceed (hs.congr (State.readyReset_pool _))

theorem State.PoolOk.letPass (h : s.PoolOk) : s.letPass.PoolOk :=
  State.PoolOk.proceed (State.PoolOk.releaseWaiting
    (s := { s with completion := { s.completion with queue := [] } }) .unanchor (h.congr rfl))

theorem State.PoolOk.reportWrite (h : s.PoolOk) : s.reportWrite.PoolOk := by
  unfold State.reportWrite
  dsimp only
  split
  · exact h.writeReport.letPass
  · exact h.writeReport

theorem State.PoolOk.finishWork (h : s.PoolOk) : s.finishWork.PoolOk := h.finish _

theorem State.PoolOk.settle (h : s.PoolOk) : s.settle.PoolOk := by
  unfold State.settle
  dsimp only
  split
  · exact h.finishWork.endQuiesce
  · exact h.finishWork

theorem State.PoolOk.idle (h : s.PoolOk) : s.idle.PoolOk := by
  unfold State.idle
  dsimp only
  split
  · exact h.settle
  · split
    · exact h.settle.congr rfl
    · exact h.settle.congr rfl

/-! ### The rows -/

/-- Every tag stands in its place in the next state, if there is one. -/
def OutcomePoolOk (o : Host.Outcome State Fault Refusal) : Prop := ∀ t, o = .next t → t.PoolOk

theorem OutcomePoolOk.next (h : s.PoolOk) : OutcomePoolOk (.next s) := by
  rintro _ ⟨⟩
  exact h

theorem OutcomePoolOk.fault (r : Fault) : OutcomePoolOk (.fault r) := fun _ h => nomatch h

/-- A software command's row has the command's effect, or none. -/
theorem State.PoolOk.onCommand {effect : State → State} (c : Instr) (he : ∀ s : State, s.PoolOk → (effect s).PoolOk)
    (h : s.PoolOk) : OutcomePoolOk (.next (s.settle.onCommand c effect)) := by
  refine .next ?_
  unfold State.onCommand
  split
  · exact he _ (h.settle.congr rfl)
  · exact h.settle

theorem State.PoolOk.systemSideWrite (a : BitVec 32) (d : List Byte) (h : s.PoolOk) :
    OutcomePoolOk (systemSideWrite a d s) := by
  unfold Sys2Proof.Machine.systemSideWrite
  split
  · exact .next (h.settle.access _)
  · exact .fault _

/-- A row that takes the head of the injection queue in some cases, and otherwise changes nothing. -/
theorem State.PoolOk.takeHead_or {t : State} (h : s.PoolOk) (ht : t = s ∨ t = s.takeHead ∨ t = s.takeHead.proceed) :
    OutcomePoolOk (.next t) := by
  obtain rfl | rfl | rfl := ht
  exacts [.next h, .next h.takeHead, .next h.takeHead.proceed]

theorem State.PoolOk.exec (i : Instr) (h : s.PoolOk) : OutcomePoolOk (exec i s) := by
  have hs := h.settle
  cases i
  case pinReset => exact .next s.poolOk_pinReset
  case resetNRelease sel =>
    refine .next ?_
    split
    · exact h.congr rfl
    · exact h
  -- The system-side accesses.
  case anchorWrite a d => exact h.systemSideWrite a d
  case anchorCommit a d => exact h.systemSideWrite a d
  case systemWrite a d => exact h.systemSideWrite a d
  case droppedWrite a d => exact h.systemSideWrite a d
  case receiveCompletionWrite a d => exact h.systemSideWrite a d
  case transmitCompletionWrite a d => exact h.systemSideWrite a d
  case commandPostWord a d => exact h.systemSideWrite a d
  case localPostWord a d => exact h.systemSideWrite a d
  case reportConsumedWord a d => exact h.systemSideWrite a d
  case descriptorFetch a n =>
    unfold Machine.exec execDescriptorFetch
    dsimp only
    split
    · exact .next (hs.access _)
    · exact .fault _
  -- The port.
  case heldWriteTaken => exact .next hs.takeHeld
  case rewriteTaken => exact hs.takeHead_or (by split <;> simp)
  case descriptorWriteTaken => exact hs.takeHead_or (by split <;> simp)
  case skipWriteTaken => exact hs.takeHead_or (by split <;> simp)
  case injectedWriteTaken => exact hs.takeHead_or (by split <;> simp)
  -- Reception and the Local Intake.
  case headerReadDone => exact .next (hs.answerRun _)
  case beaconBodyReadDone => exact .next (hs.answerRun _)
  case claim => exact .next hs.claim
  case holdBudgetExpiry => exact .next (hs.congr (State.expireBudget_pool _))
  case localEntryFetch => exact .next (hs.congr (State.fetchEntry_pool _))
  case localEntryReadDone => exact .next (hs.answerRun _)
  case localHeaderReadDone => exact .next (hs.answerRun _)
  case localAdmission => exact .next hs.localAdmission
  case localIntakeRetry => exact .next hs.intakeRetry
  case taglessHandover => exact .next hs.handOver
  -- The software commands.
  case commandFetch => exact .next (hs.congr (State.fetchCommand_pool _))
  case nop seq => exact h.onCommand _ fun _ h => h.congr rfl
  case unknownCommand code seq => exact h.onCommand _ fun _ h => h.congr rfl
  case linkOpen => exact h.onCommand _ fun _ h => h.congr (State.commandLinkOpen_pool ..)
  case linkTune => exact h.onCommand _ fun _ h => h.congr (State.commandLinkTune_pool ..)
  case linkDrain => exact h.onCommand _ fun _ h => h.commandLinkDrain _ _
  case linkCut => exact h.onCommand _ fun _ h => h.commandLinkCut _ _
  case linkClear => exact h.onCommand _ fun _ h => h.congr (State.commandLinkClear_pool ..)
  case linkQuery => exact h.onCommand _ fun _ h => h.congr (State.commandLinkQuery_pool ..)
  case linkClimb => exact h.onCommand _ fun _ h => h.congr (State.commandLinkClimb_pool ..)
  case routePin => exact h.onCommand _ fun _ h => h.commandRoutePin _ _ _ _
  case routeUnpin => exact h.onCommand _ fun _ h => h.congr (State.commandRouteUnpin_pool ..)
  case routeQuery => exact h.onCommand _ fun _ h => h.congr (State.commandRouteQuery_pool ..)
  case planWrite => exact h.onCommand _ fun _ h => h.congr (State.commandPlanWrite_pool ..)
  case planSwitch => exact h.onCommand _ fun _ h => h.congr (State.commandPlanSwitch_pool ..)
  case planCancel => exact h.onCommand _ fun _ h => h.congr (State.commandPlanCancel_pool ..)
  case timingSet => exact h.onCommand _ fun _ h => h.congr (State.commandTimingSet_pool ..)
  case engineReset => exact h.onCommand _ fun _ h => h.commandEngineReset _ _
  -- The rows that follow the timebase, and the completions and reports.
  case completionProcess => exact .next hs.processCompletion
  case reportWrite => exact .next hs.reportWrite
  case slotStart => exact .next hs.startSlot
  case superframeBoundary order =>
    unfold Machine.exec execSuperframeBoundary
    refine .next ?_
    split
    · exact hs
    · exact hs.boundary order
  case quiesceEnd =>
    unfold Machine.exec execQuiesceEnd
    refine .next ?_
    split
    · exact h.finishWork.endQuiesce
    · exact h.finishWork
  -- The consequences.
  all_goals exact .next (h.resolve _)

theorem State.PoolOk.step (h : s.PoolOk) : OutcomePoolOk (step s) := by
  unfold Machine.step
  split
  · exact .next h.idle
  · exact State.PoolOk.exec _ (h.congr rfl)

end Steps

/-! ### The obligations -/

/-- Settles O9: `State.PoolOk.step`. Each move of a tag lifts it from its place and puts it into the one its new entry
names, and all else a step does leaves the pool. -/
theorem stepKeepsPoolPlaces : Obligations.StepKeepsPoolPlaces := fun _ t h hst => h.step t hst

/-- Settles O5: each law of `State.Safe` holds of the values after a pin reset, the pool's by `State.poolOk_reset`. -/
theorem resetIsSafe : Obligations.ResetIsSafe := by
  refine ⟨⟨rfl, fun n => ?_, fun p e he => ?_, rfl, rfl, State.poolOk_reset⟩, rfl⟩
  · have hl : State.reset.link n = LinkRec.reset := bankGet_replicate ..
    rw [hl]
    decide
  · have hf : State.reset.routes.entry p = none := bankGet_replicate ..
    rw [hf] at he
    cases he

end Sys2Proof.Machine
end

section
/-!
PROOF. Releases by age (R32, R33, R34): the rows that carry one consequence out, the drain test and what a drained link
leaves behind (R61, R45, R51, R103, R161), and the release of a QUEUED and of a HELD entry.
-/

namespace Sys2Proof.Machine

/-! ### A consequence's row -/

section Rows
variable {s : State} {g : Tag} {f : Frame} {ws : List Work}

/-- When consequences are all that is left of the work, it waits for their rows. -/
theorem State.advance_dues (s : State) (hws : ∀ w ∈ ws, ∃ x, w = .due x) :
    State.advance ws s = { s with work := ws } := by
  cases ws with
  | nil => exact s.advance_nil
  | cons w ws =>
    obtain ⟨x, rfl⟩ := hws w List.mem_cons_self
    exact s.advance_due x ws

theorem exec_agedRelease_of_due (hw : s.work = .due (.agedRelease g) :: ws) (hws : ∀ w ∈ ws, ∃ x, w = .due x) :
    exec .agedRelease s = .next { s.releaseAged g with work := ws } := by
  rw [← State.advance_dues _ hws]
  exact congrArg Host.Outcome.next (State.resolve_head hw rfl)

theorem exec_holdTimeout_of_due (hw : s.work = .due (.holdTimeout g) :: ws) (hws : ∀ w ∈ ws, ∃ x, w = .due x) :
    exec .holdTimeout s = .next { s.releaseTimedOut g with work := ws } := by
  rw [← State.advance_dues _ hws]
  exact congrArg Host.Outcome.next (State.resolve_head hw rfl)

/-! ### An entry over its age or hold timeout -/

theorem State.releaseAged_of_queued {n : LinkIx} (hf : s.frame g = some f) (hp : f.place = .queued n)
    (ha : s.pool.maxAge f.cls < f.age) : s.releaseAged g = s.release g .aged := by
  simp [State.releaseAged, hf, hp, Pool.overAge, ha]

theorem State.releaseAged_of_held (hf : s.frame g = some f) (hp : f.place = .held)
    (ha : s.pool.maxAge f.cls < f.age) : s.releaseAged g = s.release g .aged := by
  simp [State.releaseAged, hf, hp, Pool.overAge, ha]

theorem State.releaseTimedOut_of_held (hf : s.frame g = some f) (hp : f.place = .held)
    (ha : s.pool.holdTimeout ≤ f.age) : s.releaseTimedOut g = s.release g .noRoute := by
  simp [State.releaseTimedOut, hf, hp, ha]

end Rows

/-! ### The drain test (R61) -/

/-- R61: the record of a DRAINING link that has been drained. -/
def LinkRec.drained (l : LinkRec) : LinkRec := (LinkRec.climbEnded { l with state := .silent }).attend .drained

theorem LinkRec.climbEnded_eq (l : LinkRec) : l.climbEnded = { l with
    climbing := false
    climb := if l.climbing = true then l.climb.map fun x => { x with run := 0 } else l.climb } := by
  cases hc : l.climbing <;> simp [LinkRec.climbEnded, LinkRec.setRun, hc]
  rw [← hc]

theorem LinkRec.drained_eq (l : LinkRec) : l.drained = { l with
    state := .silent
    climbing := false
    climb := if l.climbing = true then l.climb.map fun x => { x with run := 0 } else l.climb
    attention := l.attention ||| 32 } := by
  rw [LinkRec.drained, LinkRec.climbEnded_eq]
  rfl

theorem LinkRec.climbEnded_neighbour (l : LinkRec) : l.climbEnded.neighbour = l.neighbour := by
  rw [LinkRec.climbEnded_eq]

section Drain
variable (s : State) (n : LinkIx)

/-- R61, R45: what a drained link changes: its record, its pending reply, the Route Table, and the Timing Unit when it
was the parent. -/
theorem State.enterDrained_eq : s.enterDrained n = { s with
    linkTable := { s.linkTable with
      links := bankPut s.linkTable.links n (s.link n).drained
      pendingReplies := s.linkTable.pendingReplies.filter fun x => some x != (s.link n).neighbour }
    routes := s.routes.dropLink n
    timing := (s.timingLinkLost n).timing
    reports := (s.timingLinkLost n).reports } := by
  by_cases hp : s.timing.state.parent = some n <;>
    simp [State.enterDrained, State.timingLinkLost, hp, State.routeLinkLost, State.dropReply, State.setLink, State.link,
      State.setTiming, bankPut_bankPut, LinkRec.drained, LinkRec.climbEnded_neighbour]

/-- R45, R51, R103, R161: a drained link is lost to the Route Table, the Timing Unit and the pending replies. -/
theorem State.linkLost_enterDrained : s.LinkLost (s.enterDrained n) n := by
  rw [State.enterDrained_eq]
  exact {
    routes := s.routes.linkDropped_dropLink n
    replies := rfl
    parent := fun hp => by simp [State.timingLinkLost, hp, State.setTiming]
    others := fun hp => by simp [State.timingLinkLost, hp] }

/-- The pool and the Local Intake have no part in the loss of a link. -/
theorem State.linkLost_enterDrained_of_pool (p : Pool) (i : Intake) :
    s.LinkLost (State.enterDrained { s with pool := p, intake := i } n) n := by
  obtain ⟨hroutes, hreplies, hparent, hothers⟩ := State.linkLost_enterDrained { s with pool := p, intake := i } n
  exact ⟨hroutes, hreplies, hparent, hothers⟩

theorem State.timingLinkLost_reports : (s.timingLinkLost n).reports =
    { s.reports with timingLatch := (s.timingLinkLost n).reports.timingLatch } := by
  unfold State.timingLinkLost; split <;> rfl

/-- The drain test changes the link records and the pending replies, the Route Table, the Timing Unit and the latch of
TIMING notices at most. -/
theorem State.drainTest_frame : s.drainTest n = { s with
    linkTable := { s.linkTable with links := (s.drainTest n).linkTable.links,
                                    pendingReplies := (s.drainTest n).linkTable.pendingReplies }
    routes := (s.drainTest n).routes
    timing := (s.drainTest n).timing
    reports := { s.reports with timingLatch := (s.drainTest n).reports.timingLatch } } := by
  obtain h | ⟨-, -, -, -, h⟩ := s.drainTest_cases n <;> rw [h]
  rw [State.enterDrained_eq]
  conv_lhs => rw [State.timingLinkLost_reports]

theorem State.drainTest_of_drained (hr : s.path.engine = .running) (hd : (s.link n).state = .draining)
    (hq : s.queuedCount n = 0) (hi : s.inFlightCount n = 0) : s.drainTest n = s.enterDrained n := by
  simp [State.drainTest, State.isRunning, hr, hd, hq, hi]

theorem State.drainTest_of_not (h : s.path.engine ≠ .running ∨ (s.link n).state ≠ .draining ∨ s.queuedCount n ≠ 0 ∨
    s.inFlightCount n ≠ 0) : s.drainTest n = s := by
  obtain e | ⟨hr, hd, hq, hi, -⟩ := s.drainTest_cases n
  · exact e
  · exact absurd h (by simp [beq_iff_eq.mp hr, hd, hq, hi])

theorem State.link_enterDrained : (s.enterDrained n).link n = (s.link n).drained := by
  rw [State.enterDrained_eq]
  exact bankGet_bankPut_same ..

theorem State.drainTest_link_other {m : LinkIx} (hm : m ≠ n) : (s.drainTest n).link m = s.link m := by
  obtain h | ⟨-, -, -, -, h⟩ := s.drainTest_cases n <;> rw [h]
  rw [State.enterDrained_eq]
  exact bankGet_bankPut_other _ _ hm.symm

end Drain

/-! ### A QUEUED entry that is released -/

section Aged
variable {s : State} {g : Tag} {f : Frame} {n : LinkIx}

/-- R34, R20: the state in which the drain test finds link `n` once its frame at tag `g` has been released: the tag is
in the backlog, and the Local Intake has its signal. -/
def State.agedOut (s : State) (g : Tag) (f : Frame) (n : LinkIx) : State :=
  (((s.unqueue n g).setFrame g (some { f with place := .releasing .aged })).pushBacklog (.entry g)).signalIntake n

theorem State.release_eq_drainTest (hf : s.frame g = some f) (hp : f.place = .queued n) :
    s.release g .aged = (s.agedOut g f n).drainTest n := State.release_of_queued .aged hf hp

theorem State.agedOut_eq : s.agedOut g f n = { s with
    pool := { s.pool with
      entries := bankPut s.pool.entries g (some { f with place := .releasing .aged })
      queues := (s.unqueue n g).pool.queues
      backlog := s.pool.backlog ++ [.entry g] }
    intake := { s.intake with stage := s.intake.stage.afterFall n } } := State.signalIntake_eq _ n

theorem State.agedOut_link (m : LinkIx) : (s.agedOut g f n).link m = s.link m := by rw [State.agedOut_eq]; rfl

theorem State.agedOut_path : (s.agedOut g f n).path = s.path := by rw [State.agedOut_eq]

theorem State.agedOut_inFlightCount (m : LinkIx) : (s.agedOut g f n).inFlightCount m = s.inFlightCount m := by
  rw [State.agedOut_eq]; rfl

theorem State.agedOut_get (m : LinkIx) (c : TrafficClass) : ((s.agedOut g f n).queuesOf m).get c =
    if n = m then ((s.queuesOf m).get c).filter fun x => x != g else (s.queuesOf m).get c := by
  rw [State.agedOut_eq]
  exact State.unqueue_get s n m c g

theorem State.agedOut_queues_other {m : LinkIx} (hm : m ≠ n) : (s.agedOut g f n).queuesOf m = s.queuesOf m := by
  rw [State.agedOut_eq]
  exact State.queuesOf_setQueues_other _ _ hm.symm

/-- The class queues are not a matter of the drain test. -/
theorem State.queuesOf_drainTest (s : State) (n m : LinkIx) : (s.drainTest n).queuesOf m = s.queuesOf m := by
  rw [State.queuesOf, State.drainTest_pool, State.queuesOf]

theorem State.queuedCount_drainTest (s : State) (n m : LinkIx) : (s.drainTest n).queuedCount m = s.queuedCount m := by
  rw [State.queuedCount, State.queuesOf_drainTest, State.queuedCount]

/-- What the release of an aged QUEUED entry changes at most. -/
theorem State.agedOut_drainTest_frame : (s.agedOut g f n).drainTest n = { s with
    pool := { s.pool with
      entries := bankPut s.pool.entries g (some { f with place := .releasing .aged })
      queues := ((s.agedOut g f n).drainTest n).pool.queues
      backlog := s.pool.backlog ++ [.entry g] }
    intake := { s.intake with stage := s.intake.stage.afterFall n }
    linkTable := { s.linkTable with links := ((s.agedOut g f n).drainTest n).linkTable.links,
                                    pendingReplies := ((s.agedOut g f n).drainTest n).linkTable.pendingReplies }
    routes := ((s.agedOut g f n).drainTest n).routes
    timing := ((s.agedOut g f n).drainTest n).timing
    reports := { s.reports with timingLatch := ((s.agedOut g f n).drainTest n).reports.timingLatch } } := by
  conv_lhs => rw [State.drainTest_frame]
  rw [State.drainTest_pool, State.agedOut_eq]

end Aged

/-! ### The obligation -/

/-- Settles O44: the row releases the entry at the head of the work; a QUEUED one leaves `State.agedOut`, which then
passes the drain test. -/
theorem agedFramesAreReleased : Obligations.AgedFramesAreReleased := by
  intro s g f ws hws hf
  refine ⟨fun n hw hp ha => ?queued, fun c st hp hdue => ?held⟩
  case queued =>
    have hexec := exec_agedRelease_of_due hw hws
    rw [State.releaseAged_of_queued hf hp ha, State.release_eq_drainTest hf hp] at hexec
    have hcount := (s.agedOut g f n).queuedCount_drainTest n n
    refine ⟨_, hexec, ?frame, fun c => ?left, fun m hm => ⟨?others, ?links⟩, fun hnot => ?kept,
      fun hr hd hq hi => ?drained⟩
    case frame => conv_lhs => rw [State.agedOut_drainTest_frame]
    case left =>
      refine (congrArg (ClassQueues.get · c) (State.queuesOf_drainTest ..)).trans ?_
      rw [State.agedOut_get, if_pos rfl]
    case others => exact (State.queuesOf_drainTest ..).trans (State.agedOut_queues_other hm)
    case links => exact (State.drainTest_link_other _ n hm).trans (State.agedOut_link m)
    case kept =>
      have hsame := State.drainTest_of_not (s.agedOut g f n) n (by
        rw [State.agedOut_path, State.agedOut_link, State.agedOut_inFlightCount, ← hcount]; exact hnot)
      rw [hsame, State.agedOut_eq]
      exact ⟨rfl, rfl, rfl, rfl⟩
    case drained =>
      have hdrained := State.drainTest_of_drained (s.agedOut g f n) n (by rwa [State.agedOut_path])
        (by rwa [State.agedOut_link]) (hcount ▸ hq) (by rwa [State.agedOut_inFlightCount])
      constructor
      · rw [hdrained, State.agedOut_eq]
        obtain ⟨hroutes, hreplies, hparent, hothers⟩ := State.linkLost_enterDrained_of_pool s n _ _
        exact ⟨hroutes, hreplies, hparent, hothers⟩
      · refine Eq.trans ?_ (LinkRec.drained_eq (s.link n))
        rw [hdrained]
        exact (State.link_enterDrained _ n).trans (congrArg LinkRec.drained (State.agedOut_link n))
  case held =>
    obtain ⟨rfl, rfl, hw, ha⟩ | ⟨rfl, rfl, hw, ha⟩ := hdue
    · rw [exec_agedRelease_of_due hw hws, State.releaseAged_of_held hf hp ha, State.release_of_held _ hf hp]
      rfl
    · rw [exec_holdTimeout_of_due hw hws, State.releaseTimedOut_of_held hf hp ha, State.release_of_held _ hf hp]
      rfl

end Sys2Proof.Machine
end

section
/-!
PROOF. The values after a pin reset (Tables 2-6, 2-7, 3-2, 3-5, 5-3, 5-4, 7-2 and 8-3), block by block.
-/

namespace Sys2Proof.Machine

theorem State.reset_link (n : LinkIx) : State.reset.link n = LinkRec.reset := bankGet_replicate ..

theorem State.reset_mark (p : Nat) : State.reset.mark p = .none := by
  unfold State.mark
  split
  · exact bankGet_replicate ..
  · rfl

theorem State.reset_frame (g : Tag) : State.reset.frame g = none := bankGet_replicate ..

/-- R18: after a reset every one of the 512 entries is FREE. -/
theorem State.reset_freeCount : State.reset.freeCount = 512 := by
  have hentries : State.reset.pool.entries.toList = List.replicate 512 none := Vector.toList_replicate
  rw [State.freeCount, hentries, List.countP_replicate]
  rfl

theorem State.reset_queuedCount (n : LinkIx) : State.reset.queuedCount n = 0 := by
  have hq : State.reset.queuesOf n = ClassQueues.reset := bankGet_replicate ..
  rw [State.queuedCount, hq]
  rfl

theorem State.reset_entry (p : RoutePos) : State.reset.routes.entry p = none := bankGet_replicate ..

theorem State.reset_sighting (n : LinkIx) : bankGet State.reset.timing.sightings n = none := bankGet_replicate ..

theorem State.reset_bufferFree (b : BufIx) : State.reset.bufferFree b = true := by
  have hb : bankGet State.reset.sched.buffers b = none := bankGet_replicate ..
  rw [State.bufferFree, hb]
  rfl

theorem State.reset_plan (c : PlanContext) : State.reset.sched.plan c = Plan.reset := by cases c <;> rfl

/-- R129: the default plan opens with the beacon and shares every other slot. -/
theorem Plan.reset_slot (j : SlotIx) :
    bankGet Plan.reset.slots j = if 0 = j then SlotEntry.beacon else SlotEntry.shared := by
  have hput : Plan.reset.slots = bankPut (Vector.replicate 64 SlotEntry.shared) 0 SlotEntry.beacon := rfl
  rw [hput, bankGet_bankPut, bankGet_replicate]

/-- Settles O4: the banks read as the value they are filled with, and every other field is the literal of the reset
state. -/
theorem resetHasTheManualsValues : Obligations.ResetHasTheManualsValues := by
  refine ⟨?path, ⟨rfl, rfl⟩, ?pool, ?links, ?routes, ?sched, ?timing, ?commands⟩
  case path => exact ⟨rfl, rfl, rfl, rfl, rfl, rfl, rfl, State.reset_mark, rfl⟩
  case pool =>
    exact ⟨State.reset_frame, State.reset_freeCount, rfl, rfl, State.reset_queuedCount, rfl, rfl, rfl, rfl, rfl, rfl,
      rfl⟩
  case links =>
    exact ⟨State.reset_link, fun n => by rw [State.reset_link]; exact ⟨rfl, rfl⟩, rfl, rfl, rfl, rfl⟩
  case routes => exact ⟨State.reset_entry, rfl, rfl, rfl, rfl, rfl, rfl⟩
  case sched =>
    refine ⟨fun c => ?_, rfl, rfl, rfl, rfl, rfl, rfl, rfl, State.reset_bufferFree, rfl, rfl, rfl⟩
    rw [State.reset_plan]
    exact ⟨rfl, Plan.reset_slot 0, fun j hj => (Plan.reset_slot j).trans (if_neg (Ne.symm hj))⟩
  case timing => exact ⟨rfl, rfl, rfl, rfl, rfl, rfl, rfl, rfl, rfl, rfl, rfl, rfl, State.reset_sighting⟩
  case commands => exact ⟨rfl, rfl, rfl, rfl, rfl, rfl, rfl, rfl, rfl⟩

end Sys2Proof.Machine
end

section
/-!
PROOF. The link commands that touch one record: what a software command's row comes to, LINK_CLEAR (R63), LINK_OPEN
(R47) and LINK_TUNE (R64).
-/

namespace Sys2Proof.Machine

/-! ### A software command's row -/

section Rows
variable {s : State} {c : Instr} {seq : BitVec 16} {link : Byte}

/-- In a quiet state the row of the command that is read carries its effect out. -/
theorem State.settle_onCommand (hq : s.quiet = true) (hc : s.fetchedCommand = some c) (effect : State → State) :
    s.settle.onCommand c effect = effect s.commandRead := by
  rw [State.settle_of_quiet hq, State.onCommand_read effect hc]

theorem exec_linkOpen_read {node : NodeId} {floor ceiling attempts : Byte} (hq : s.quiet = true)
    (hc : s.fetchedCommand = some (.linkOpen seq link node floor ceiling attempts)) :
    exec (.linkOpen seq link node floor ceiling attempts) s =
      .next (s.commandRead.commandLinkOpen seq link node floor ceiling attempts) :=
  congrArg Host.Outcome.next (State.settle_onCommand hq hc _)

theorem exec_linkTune_read {sel : BitVec 16} {v : TuneValues} (hq : s.quiet = true)
    (hc : s.fetchedCommand = some (.linkTune seq link sel v)) :
    exec (.linkTune seq link sel v) s = .next (s.commandRead.commandLinkTune seq link sel v) :=
  congrArg Host.Outcome.next (State.settle_onCommand hq hc _)

theorem exec_linkDrain_read (hq : s.quiet = true) (hc : s.fetchedCommand = some (.linkDrain seq link)) :
    exec (.linkDrain seq link) s = .next (s.commandRead.commandLinkDrain seq link) :=
  congrArg Host.Outcome.next (State.settle_onCommand hq hc _)

theorem exec_linkCut_read (hq : s.quiet = true) (hc : s.fetchedCommand = some (.linkCut seq link)) :
    exec (.linkCut seq link) s = .next (s.commandRead.commandLinkCut seq link) :=
  congrArg Host.Outcome.next (State.settle_onCommand hq hc _)

theorem exec_linkClear_read (hq : s.quiet = true) (hc : s.fetchedCommand = some (.linkClear seq link)) :
    exec (.linkClear seq link) s = .next (s.commandRead.commandLinkClear seq link) :=
  congrArg Host.Outcome.next (State.settle_onCommand hq hc _)

theorem exec_linkQuery_read (hq : s.quiet = true) (hc : s.fetchedCommand = some (.linkQuery seq link)) :
    exec (.linkQuery seq link) s = .next (s.commandRead.commandLinkQuery seq link) :=
  congrArg Host.Outcome.next (State.settle_onCommand hq hc _)

end Rows

/-! ### What the reading of a record leaves as it is -/

section Read
variable (s : State)

@[simp] theorem State.commandRead_link (n : LinkIx) : s.commandRead.link n = s.link n := rfl
@[simp] theorem State.commandRead_inFlightCount (n : LinkIx) :
    s.commandRead.inFlightCount n = s.inFlightCount n := rfl
@[simp] theorem State.commandRead_bufferFree (b : BufIx) : s.commandRead.bufferFree b = s.bufferFree b := rfl

end Read

/-! ### Link states -/

/-- R2: a node id identifies a neighbour when it is none of the two reserved ones and not the own id. -/
theorem State.identifies_iff {s : State} {node : NodeId} :
    s.identifies node = true ↔ node ≠ 0 ∧ node ≠ 0xFFFF ∧ node ≠ s.path.ownId := by
  simp [State.identifies, nodeNone, nodeAll, and_assoc]

/-! ### LINK_CLEAR (R63) -/

section Clear
variable {s : State} {n : LinkIx} {seq : BitVec 16} {link : Byte}

theorem State.commandLinkClear_of_none (h : linkArg link = none) :
    s.commandLinkClear seq link = s.respond 0x14 seq .badArgument := by
  simp [State.commandLinkClear, h]

theorem State.commandLinkClear_of_some (h : linkArg link = some n) : s.commandLinkClear seq link =
    if (s.link n).state = .empty ∨ (s.link n).closed = false then s.respond 0x14 seq .refusedState
    else if s.inFlightCount n ≠ 0 ∨ s.bufferFree (probeBuffer n) = false then s.respond 0x14 seq .refusedBusy
    else (s.setLink n { LinkRec.reset with
      attention := (s.link n).attention, interleave := (s.link n).interleave }).respond 0x14 seq .done := by
  simp only [State.commandLinkClear, h]

/-- R63: LINK_CLEAR takes a record in SILENT or FAILED alone. -/
theorem LinkRec.clearable_iff {l : LinkRec} :
    ¬ (l.state = .empty ∨ l.closed = false) ↔ l.state = .silent ∨ ∃ r, l.state = .failed r := by
  cases hs : l.state <;> simp [LinkRec.closed, hs]

end Clear

/-- Settles O53: the tests of R63 in their order. -/
theorem linkClearReturnsTheRecord : Obligations.LinkClearReturnsTheRecord := by
  intro s seq link hq hc
  rw [exec_linkClear_read hq hc]
  refine ⟨fun h => ?bad, fun n h hs hf => ?state, fun n h hs hb => ?busy, fun n h hs hi hb => ?done⟩
  case bad => rw [State.commandLinkClear_of_none (linkArg_none.mpr h)]
  all_goals rw [State.commandLinkClear_of_some (linkArg_some.mpr h), State.commandRead_link,
    State.commandRead_inFlightCount, State.commandRead_bufferFree]
  case state =>
    have hnot : ¬ ((s.link n).state = .silent ∨ ∃ r, (s.link n).state = .failed r) := by
      rintro (h | ⟨r, h⟩)
      exacts [hs h, hf r h]
    rw [if_pos (not_not.mp (mt LinkRec.clearable_iff.mp hnot))]
  case busy => rw [if_neg (LinkRec.clearable_iff.mpr hs), if_pos hb]
  case done => rw [if_neg (LinkRec.clearable_iff.mpr hs), if_neg (by simp [hi, hb])]

/-! ### LINK_OPEN (R47) -/

section Open
variable {s : State} {n : LinkIx} {seq : BitVec 16} {link : Byte} {node : NodeId} {floor ceiling attempts : Byte}

theorem State.commandLinkOpen_of_none (h : linkArg link = none) :
    s.commandLinkOpen seq link node floor ceiling attempts = s.respond 0x10 seq .badArgument := by
  simp [State.commandLinkOpen, h]

theorem State.commandLinkOpen_of_some (h : linkArg link = some n) :
    s.commandLinkOpen seq link node floor ceiling attempts =
      if !(s.link n).closed then s.respond 0x10 seq .refusedState
      else if s.badNeighbour n node then s.respond 0x10 seq .badArgument
      else (s.setLink n ((s.link n).openTo node floor.toNat ceiling.toNat attempts.toNat
        s.linkTable.openTimeout)).respond 0x10 seq .done := by
  simp only [State.commandLinkOpen, h]

/-- R47: a node id is refused when it identifies no neighbour or another record holds it. -/
theorem State.badNeighbour_iff : s.badNeighbour n node = true ↔
    node = 0 ∨ node = 0xFFFF ∨ node = s.path.ownId ∨ ∃ m, m ≠ n ∧ s.linkOf node = some m := by
  have hid : s.identifies node = false ↔ node = 0 ∨ node = 0xFFFF ∨ node = s.path.ownId := by
    rw [← Bool.not_eq_true, State.identifies_iff]; tauto
  rw [State.badNeighbour, Bool.or_eq_true, Bool.not_eq_true', hid, or_assoc, or_assoc]
  cases s.linkOf node <;> simp

end Open

/-- Settles O49: the tests of R47 in their order, and the record that `LinkRec.openTo` leaves. -/
theorem linkOpenPlacesProbing : Obligations.LinkOpenPlacesProbing := by
  intro s seq link node floor ceiling attempts hq hc
  rw [exec_linkOpen_read hq hc]
  refine ⟨fun h => ?bad, fun n h hs => ?state, fun n h hs hb => ?taken, fun n h hs h0 hall hown hfree => ?done⟩
  case bad => rw [State.commandLinkOpen_of_none (linkArg_none.mpr h)]
  all_goals rw [State.commandLinkOpen_of_some (linkArg_some.mpr h), State.commandRead_link, hs]
  case state => rfl
  case taken =>
    have hbad : s.commandRead.badNeighbour n node = true := State.badNeighbour_iff.mpr hb
    rw [hbad]
    rfl
  case done =>
    have hgood : ¬ s.commandRead.badNeighbour n node = true := by
      rw [State.badNeighbour_iff]
      rintro (h | h | h | ⟨m, hm, h⟩)
      · exact h0 h
      · exact hall h
      · exact hown h
      · obtain hnone | hsame := hfree
        · cases hnone.symm.trans h
        · exact hm (Option.some.inj (h.symm.trans hsame))
    refine ⟨_, by rw [if_neg hgood]; rfl, ?_⟩
    simp [LinkRec.openTo, LinkRec.writeRate, LinkRec.recost, clamp, Config.saturated]

/-! ### LINK_TUNE (R64) -/

section Tune
variable {s : State} {n : LinkIx} {seq : BitVec 16} {link : Byte} {sel : BitVec 16} {v : TuneValues}

theorem State.commandLinkTune_of_none (h : linkArg link = none) :
    s.commandLinkTune seq link sel v = s.respond 0x11 seq .badArgument := by
  simp [State.commandLinkTune, h]

theorem State.commandLinkTune_of_some (h : linkArg link = some n) : s.commandLinkTune seq link sel v =
    if selectsHard sel && !(s.link n).closed then s.respond 0x11 seq .refusedState
    else (s.setLink n ((s.link n).tune sel v)).respond 0x11 seq .done := by
  simp only [State.commandLinkTune, h]

theorem selectsHard_iff :
    selectsHard sel = true ↔ sel.getLsbD 0 = true ∨ sel.getLsbD 1 = true ∨ sel.getLsbD 2 = true := by
  simp [selectsHard, or_assoc]

variable (l : LinkRec)

theorem LinkRec.writeRate_eq (r : Nat) : l.writeRate r = { l with
    rate := r
    cost := costOf r l.estimate
    sticky := { l.sticky with
      costSaturated := l.sticky.costSaturated || costOf r l.estimate == 65535 } } := rfl

/-- R64: without the floor and the ceiling among the selected values the rates stand. -/
theorem LinkRec.tuneRates_of_not (h0 : sel.getLsbD 0 = false) (h1 : sel.getLsbD 1 = false) :
    l.tuneRates sel v = l := by
  simp only [LinkRec.tuneRates, h0, h1, Bool.or_self, Bool.false_eq_true, if_false]

/-- R64, R78: the floor and the ceiling are stored, r is moved to the nearer end, and the cost is recomputed when it
moved. -/
theorem LinkRec.tuneRates_of_selected {f c r k : Nat} (h : sel.getLsbD 0 = true ∨ sel.getLsbD 1 = true)
    (hf : f = tuned sel 0 0 7 v.floor l.floor) (hc : c = max f (tuned sel 1 0 7 v.ceiling l.ceiling))
    (hr : r = max f (min c l.rate)) (hk : k = if r = l.rate then l.cost else costOf r l.estimate) :
    l.tuneRates sel v = { l with
      floor := f
      ceiling := c
      rate := r
      cost := k
      sticky := { l.sticky with costSaturated := l.sticky.costSaturated || (r != l.rate && k == 65535) } } := by
  have hsel : (sel.getLsbD 0 || sel.getLsbD 1) = true := by simpa using h
  simp only [LinkRec.tuneRates, hsel, if_true, ← hf, ← hc, LinkRec.writeRate_eq]
  by_cases hlow : l.rate < f
  · obtain rfl : r = f := by omega
    have hmoved : r ≠ l.rate := by omega
    simp [hlow, hmoved, bne_iff_ne.mpr hmoved, hk]
  · by_cases hhigh : c < l.rate
    · obtain rfl : r = c := by omega
      have hmoved : r ≠ l.rate := by omega
      simp [hlow, hhigh, hmoved, bne_iff_ne.mpr hmoved, hk]
    · have hsame : r = l.rate := by omega
      simp [hlow, hhigh, hsame, hk]

end Tune

/-- Settles O50: the tests of R64 in their order; the values outside the rates are stored one by one, and the rates are
those of `LinkRec.tuneRates`. -/
theorem linkTuneStoresSelectedValues : Obligations.LinkTuneStoresSelectedValues := by
  intro s seq link sel v hq hc
  rw [exec_linkTune_read hq hc]
  refine ⟨fun h => ?bad, fun n h hs hard => ?state, fun n h hsoft => ?done⟩
  case bad => rw [State.commandLinkTune_of_none (linkArg_none.mpr h)]
  all_goals rw [State.commandLinkTune_of_some (linkArg_some.mpr h), State.commandRead_link]
  case state => simp [selectsHard_iff.mpr hard, hs]
  case done =>
    have htaken : ¬ (selectsHard sel && !(s.link n).closed) = true := by
      obtain hclosed | ⟨h0, h1, h2⟩ := hsoft
      · simp [hclosed]
      · simp [selectsHard, h0, h1, h2, -BitVec.getLsbD_eq_getElem]
    refine ⟨_, by rw [if_neg htaken], ?_⟩
    by_cases hrates : sel.getLsbD 0 = true ∨ sel.getLsbD 1 = true
    · rw [LinkRec.tune, LinkRec.tuneRates_of_selected _ hrates rfl rfl rfl rfl]
      have hsome : sel.getLsbD 0 = false → ¬ sel.getLsbD 1 = false := fun h0 h1 => by
        obtain h | h := hrates
        exacts [Bool.false_ne_true (h0.symm.trans h), Bool.false_ne_true (h1.symm.trans h)]
      simpa [tuned, clamp, hrates, -BitVec.getLsbD_eq_getElem] using fun h0 h1 => absurd h1 (hsome h0)
    · obtain ⟨h0, h1⟩ : sel.getLsbD 0 = false ∧ sel.getLsbD 1 = false := by simpa using hrates
      simp [LinkRec.tune, LinkRec.tuneRates_of_not _ h0 h1, tuned, clamp, h0, h1, -BitVec.getLsbD_eq_getElem]

end Sys2Proof.Machine
end

section
/-!
PROOF. LINK_QUERY (R68): the fields of its payload (Table 12-11), and the sticky flags it clears (R67).
-/

namespace Sys2Proof.Machine

/-! ### Reading the fields of a byte that was put together as a number -/

@[simp] theorem bit_true : bit true = 1 := rfl
@[simp] theorem bit_false : bit false = 0 := rfl

theorem bit_le_one (b : Bool) : bit b ≤ 1 := by cases b <;> decide

theorem field_toByte (m : Nat) {lo n : Nat} (h : lo + n ≤ 8) : field (toByte m) lo n = m / 2 ^ lo % 2 ^ n := by
  have hsplit : 2 ^ 8 = 2 ^ lo * 2 ^ (8 - lo) := by rw [← pow_add]; congr 1; omega
  rw [field, toByte, BitVec.extractLsb'_toNat, BitVec.toNat_ofNat, Nat.shiftRight_eq_div_pow, hsplit,
    Nat.mod_mul_right_div_self, Nat.mod_mod_of_dvd _ (pow_dvd_pow 2 (by omega))]

theorem getLsbD_toByte {m i : Nat} {b : Bool} (hi : i < 8) (h : m / 2 ^ i % 2 = bit b) :
    (toByte m).getLsbD i = b := by
  rw [toByte, BitVec.getLsbD_ofNat, Nat.testBit_eq_decide_div_mod_eq, h, decide_eq_true hi]
  cases b <;> rfl

/-! ### The bytes of the payload -/

section Bytes
variable (l : LinkRec)

theorem LinkState.code_le (st : LinkState) : st.code ≤ 6 := by cases st <;> simp [LinkState.code]

theorem LinkState.reasonCode_le (st : LinkState) : st.reasonCode ≤ 3 := by
  unfold LinkState.reasonCode; split <;> omega

/-- R66: the current flags in their byte. -/
theorem LinkRec.currentByte_bits :
    l.currentByte.getLsbD 0 = l.lastDelivered ∧ l.currentByte.getLsbD 1 = l.lastRetried ∧
      l.currentByte.getLsbD 2 = decide (l.rate = l.floor) ∧
      l.currentByte.getLsbD 3 = decide (l.rate = l.ceiling) ∧ l.currentByte.getLsbD 4 = l.climbing := by
  have h0 := bit_le_one l.lastDelivered
  have h1 := bit_le_one l.lastRetried
  have h2 := bit_le_one l.atFloor
  have h3 := bit_le_one l.atCeiling
  have h4 := bit_le_one l.climbing
  rw [← beq_eq_decide, ← beq_eq_decide, ← LinkRec.atFloor, ← LinkRec.atCeiling]
  refine ⟨?_, ?_, ?_, ?_, ?_⟩ <;> exact getLsbD_toByte (by decide) (by omega)

/-- R67: the sticky flags in their byte. -/
theorem Sticky.byte_bits (f : Sticky) :
    f.byte.getLsbD 0 = f.everUndelivered ∧ f.byte.getLsbD 1 = f.everExpired ∧ f.byte.getLsbD 2 = f.hitFloor ∧
      f.byte.getLsbD 3 = f.costSaturated ∧ f.byte.getLsbD 4 = f.blockedSeen := by
  have h0 := bit_le_one f.everUndelivered
  have h1 := bit_le_one f.everExpired
  have h2 := bit_le_one f.hitFloor
  have h3 := bit_le_one f.costSaturated
  have h4 := bit_le_one f.blockedSeen
  refine ⟨?_, ?_, ?_, ?_, ?_⟩ <;> exact getLsbD_toByte (by decide) (by omega)

theorem LinkRec.climbBytes_of_none (h : l.climb = none) : l.climbBytes = [0, 0] := by simp [LinkRec.climbBytes, h]

/-- R71, R83: the climb record in its two bytes. -/
theorem LinkRec.climbBytes_fields {c : Climb} (h : l.climb = some c) (hrun : c.run ≤ 3) (hstart : c.start ≤ 7)
    (hmark : c.mark ≤ 7) :
    (byteAt l.climbBytes 0).getLsbD 0 = true ∧
      (byteAt l.climbBytes 0).getLsbD 1 = decide (c.act = .returnRate) ∧
      field (byteAt l.climbBytes 0) 2 2 = c.run ∧ field (byteAt l.climbBytes 1) 0 3 = c.start ∧
      field (byteAt l.climbBytes 1) 4 3 = c.mark := by
  have ha := bit_le_one (c.act == .returnRate)
  have hbytes : l.climbBytes = [toByte (1 + 2 * bit (c.act == .returnRate) + 4 * c.run),
      toByte (c.start + 16 * c.mark)] := by simp [LinkRec.climbBytes, h]
  simp only [hbytes, byteAt, List.getD_cons_zero, List.getD_cons_succ]
  refine ⟨getLsbD_toByte (by decide) ?_, getLsbD_toByte (by decide) ?_, ?_, ?_, ?_⟩
  · rw [bit_true]; omega
  · rw [← beq_eq_decide]; omega
  all_goals rw [field_toByte _ (by decide)]; omega

/-- R134: the plan pair as a number, 0 when absent. -/
def LinkRec.planBits (l : LinkRec) : Nat := (l.planPair.map fun x => 1 + 2 * bit x.announce).getD 0

/-- R57: the timing pair as a number, 0 when absent. -/
def LinkRec.timingBits (l : LinkRec) : Nat :=
  (l.timingPair.map fun x => 4 + 8 * bit x.holdover + 16 * x.depth).getD 0

theorem LinkRec.pairBytes_eq :
    l.pairBytes = [(l.planPair.map PlanPair.generation).getD 0, toByte (l.planBits + l.timingBits)] := by
  unfold LinkRec.pairBytes LinkRec.planBits LinkRec.timingBits
  cases l.planPair <;> cases l.timingPair <;> rfl

theorem LinkRec.planBits_lt : l.planBits < 4 := by
  unfold LinkRec.planBits
  cases l.planPair with
  | none => decide
  | some x => have := bit_le_one x.announce; simp only [Option.map_some, Option.getD_some]; omega

theorem LinkRec.timingBits_mod : l.timingBits % 4 = 0 := by
  unfold LinkRec.timingBits
  cases l.timingPair with
  | none => rfl
  | some x => simp only [Option.map_some, Option.getD_some]; omega

/-- R134: the plan pair in its bytes, whatever the timing pair. -/
theorem LinkRec.planBits_fields :
    (l.planPair = none → (toByte (l.planBits + l.timingBits)).getLsbD 0 = false ∧
      (toByte (l.planBits + l.timingBits)).getLsbD 1 = false) ∧
    (∀ x, l.planPair = some x → (toByte (l.planBits + l.timingBits)).getLsbD 0 = true ∧
      (toByte (l.planBits + l.timingBits)).getLsbD 1 = x.announce) := by
  have ht := l.timingBits_mod
  refine ⟨fun h => ?_, fun x h => ?_⟩
  · have hp : l.planBits = 0 := by simp [LinkRec.planBits, h]
    constructor <;> refine getLsbD_toByte (by decide) ?_ <;> rw [hp, bit_false] <;> omega
  · have hp : l.planBits = 1 + 2 * bit x.announce := by simp [LinkRec.planBits, h]
    have := bit_le_one x.announce
    constructor <;> refine getLsbD_toByte (by decide) ?_
    · rw [bit_true]; omega
    · omega

/-- R57: the timing pair in its byte, whatever the plan pair. -/
theorem LinkRec.timingBits_fields :
    (l.timingPair = none → (toByte (l.planBits + l.timingBits)).getLsbD 2 = false ∧
      (toByte (l.planBits + l.timingBits)).getLsbD 3 = false ∧
      field (toByte (l.planBits + l.timingBits)) 4 4 = 0) ∧
    (∀ x, l.timingPair = some x → (toByte (l.planBits + l.timingBits)).getLsbD 2 = true ∧
      (toByte (l.planBits + l.timingBits)).getLsbD 3 = x.holdover ∧
      (x.depth ≤ 15 → field (toByte (l.planBits + l.timingBits)) 4 4 = x.depth)) := by
  have hp := l.planBits_lt
  refine ⟨fun h => ?_, fun x h => ?_⟩
  · have ht : l.timingBits = 0 := by simp [LinkRec.timingBits, h]
    have h2 : (l.planBits + l.timingBits) / 2 ^ 2 % 2 = bit false := by rw [ht, bit_false]; omega
    have h3 : (l.planBits + l.timingBits) / 2 ^ 3 % 2 = bit false := by rw [ht, bit_false]; omega
    refine ⟨getLsbD_toByte (by decide) h2, getLsbD_toByte (by decide) h3, ?_⟩
    rw [field_toByte _ (by decide)]; omega
  · have ht : l.timingBits = 4 + 8 * bit x.holdover + 16 * x.depth := by simp [LinkRec.timingBits, h]
    have := bit_le_one x.holdover
    have h2 : (l.planBits + l.timingBits) / 2 ^ 2 % 2 = bit true := by rw [ht, bit_true]; omega
    refine ⟨getLsbD_toByte (by decide) h2, getLsbD_toByte (by decide) (by omega), fun hd => ?_⟩
    rw [field_toByte _ (by decide)]; omega

end Bytes

/-! ### The payload and the obligation -/

section Query
variable {s : State} {n : LinkIx} {seq : BitVec 16} {link : Byte}

theorem State.commandLinkQuery_of_none (h : linkArg link = none) :
    s.commandLinkQuery seq link = s.respond 0x15 seq .badArgument := by
  simp [State.commandLinkQuery, h]

theorem State.commandLinkQuery_of_some (h : linkArg link = some n) : s.commandLinkQuery seq link =
    (s.setLink n { s.link n with sticky := Sticky.reset }).respondWith 0x15 seq .done (s.linkPayload n) := by
  simp only [State.commandLinkQuery, h]

theorem LinkRec.climbBytes_eq (l : LinkRec) : l.climbBytes = [byteAt l.climbBytes 0, byteAt l.climbBytes 1] := by
  unfold LinkRec.climbBytes; cases l.climb <;> rfl

/-- Table 12-11, byte by byte. -/
theorem State.linkPayload_eq (s : State) (n : LinkIx) : s.linkPayload n =
    [toByte ((s.link n).state.code + 16 * (s.link n).state.reasonCode),
      toByte ((s.link n).floor + 16 * (s.link n).ceiling)] ++ halfBytes (s.link n).node ++
      [toByte (s.link n).rate, toByte (s.link n).pace] ++ natHalf (s.link n).estimate ++ natHalf (s.link n).cost ++
      [toByte (s.link n).undelivered, toByte (s.link n).missCount, toByte (s.link n).state.timer,
        (s.link n).currentByte, (s.link n).sticky.byte, byteAt (s.link n).climbBytes 0,
        byteAt (s.link n).climbBytes 1] ++ natHalf (s.queuedCount n) ++ natHalf (s.inFlightCount n) ++
      [((s.link n).planPair.map PlanPair.generation).getD 0,
        toByte ((s.link n).planBits + (s.link n).timingBits), 0] := by
  rw [State.linkPayload, LinkRec.pairBytes_eq, LinkRec.climbBytes_eq]
  rfl

end Query

/-- Settles O54: the payload's fields are read from `State.linkPayload_eq`, where each stands at its offset. -/
theorem linkQueryShowsAndClears : Obligations.LinkQueryShowsAndClears := by
  intro s seq link hq hc
  rw [exec_linkQuery_read hq hc]
  refine ⟨fun h => ?bad, fun n h => ?done⟩
  case bad => rw [State.commandLinkQuery_of_none (linkArg_none.mpr h)]
  case done =>
    rw [State.commandLinkQuery_of_some (linkArg_some.mpr h)]
    refine ⟨s.linkPayload n, rfl, ?_⟩
    obtain ⟨hplan0, hplan⟩ := (s.link n).planBits_fields
    obtain ⟨htiming0, htiming⟩ := (s.link n).timingBits_fields
    have hcode := (s.link n).state.code_le
    have hreason := (s.link n).state.reasonCode_le
    rw [State.linkPayload_eq]
    refine ⟨rfl, ?code, ?reason, fun hf hc => ⟨?floor, ?ceiling⟩, extract_append_extract _, rfl, rfl,
      extract_append_extract _, extract_append_extract _, rfl, rfl, rfl, (s.link n).currentByte_bits,
      (s.link n).sticky.byte_bits, fun hnone => ?noClimb, fun c => (s.link n).climbBytes_fields,
      extract_append_extract _, extract_append_extract _, fun hnone => ?noPlan, fun x hx => ?plan, htiming0, htiming⟩
    case code => exact (field_toByte _ (by decide)).trans (by omega)
    case reason => exact (field_toByte _ (by decide)).trans (by omega)
    case floor => exact (field_toByte _ (by decide)).trans (by omega)
    case ceiling => exact (field_toByte _ (by decide)).trans (by omega)
    case noClimb =>
      rw [LinkRec.climbBytes_of_none _ hnone]
      exact ⟨rfl, rfl⟩
    case noPlan => exact ⟨congrArg (fun p => (Option.map PlanPair.generation p).getD 0) hnone, hplan0 hnone⟩
    case plan => exact ⟨congrArg (fun p => (Option.map PlanPair.generation p).getD 0) hx, hplan x hx⟩

end Sys2Proof.Machine
end

section
/-!
PROOF. A link that leaves the usable set (R45): its record, its pending reply, the Route Table and the Timing Unit,
whatever its pool request does; and LINK_DRAIN (R60), with the drain test that follows it (R61).
-/

namespace Sys2Proof.Machine

/-! ### Banks and route entries -/

theorem bank_ext {α : Type} {n : Nat} {a b : Bank α n} (h : ∀ i, bankGet a i = bankGet b i) : a = b :=
  Vector.ext fun i hi => h ⟨i, hi⟩

theorem RouteTable.entry_dropLink (rt : RouteTable) (n : LinkIx) (p : RoutePos) :
    (rt.dropLink n).entry p = (rt.entry p).map fun e => ⟨e.dest, e.body.dropLink n⟩ := by
  simp [RouteTable.entry, RouteTable.dropLink]

/-- R91, R103: a live entry names the lost link no more, since its alternate was another link than its primary. -/
theorem RouteBody.live_of_dropLink {b : RouteBody} {n : LinkIx} {st : Bool} {h : Hop} {x : Option Hop}
    {sq : BitVec 16} {age : Nat} (hok : b.ok = true) (hd : b.dropLink n = .live st h x sq age) :
    h.link ≠ n ∧ ∀ q, x = some q → q.link ≠ n := by
  cases b with
  | pinned h => cases hd
  | poisoned sq age k => cases hd
  | live st' p q sq' age' =>
    by_cases hp : p.link = n
    · cases q with
      | none => simp [RouteBody.dropLink, hp, RouteBody.poison] at hd
      | some q =>
        have hne : q.link ≠ p.link := by simp_all [RouteBody.ok]
        obtain ⟨-, rfl, rfl, -⟩ : _ ∧ q = h ∧ none = x ∧ _ := by simpa [RouteBody.dropLink, hp] using hd
        exact ⟨hp ▸ hne, nofun⟩
    · by_cases hq : q.map Hop.link = some n
      · obtain ⟨-, rfl, rfl, -⟩ : _ ∧ p = h ∧ none = x ∧ _ := by
          simpa only [RouteBody.dropLink, hp, hq, if_true, if_false, RouteBody.live.injEq] using hd
        exact ⟨hp, nofun⟩
      · obtain ⟨-, rfl, rfl, -⟩ : _ ∧ p = h ∧ q = x ∧ _ := by
          simpa only [RouteBody.dropLink, hp, hq, if_false, RouteBody.live.injEq] using hd
        exact ⟨hp, fun x hx hn => hq (by rw [hx]; exact congrArg some hn)⟩

/-- R103: a second notice that a link is unusable says nothing new. -/
theorem RouteBody.dropLink_dropLink {b : RouteBody} (n : LinkIx) (hok : b.ok = true) :
    (b.dropLink n).dropLink n = b.dropLink n := by
  cases hd : b.dropLink n with
  | pinned h => rfl
  | poisoned sq age k => rfl
  | live st h x sq age =>
    obtain ⟨hh, hx⟩ := RouteBody.live_of_dropLink hok hd
    cases x with
    | none => simp [RouteBody.dropLink, hh]
    | some q => simp [RouteBody.dropLink, hh, hx q rfl]

theorem RouteTable.dropLink_dropLink {rt : RouteTable} (n : LinkIx)
    (hok : ∀ p e, rt.entry p = some e → e.body.ok = true) : (rt.dropLink n).dropLink n = rt.dropLink n := by
  have hentries : ((rt.dropLink n).dropLink n).entries = (rt.dropLink n).entries := bank_ext fun p => by
    refine (RouteTable.entry_dropLink _ n p).trans (Eq.trans ?_ (RouteTable.entry_dropLink rt n p).symm)
    rw [RouteTable.entry_dropLink]
    cases he : rt.entry p with
    | none => rfl
    | some e => simp [RouteBody.dropLink_dropLink n (hok p e he)]
  exact congrArg (fun es => { rt with entries := es }) hentries

/-! ### The requests of a link that leaves the usable set (R45) -/

section Leave
variable (s : State) (n : LinkIx)

/-- R161: the notice to the Timing Unit, in both its cases. -/
theorem State.timingLinkLost_of_parent (hp : s.timing.state.parent = some n) :
    (s.timingLinkLost n).timing = { s.timing with state := .seeking, adjust := 0 } ∧
      (s.timingLinkLost n).reports.timingLatch = some ⟨.seeking⟩ := by
  simp [State.timingLinkLost, hp, State.setTiming]

theorem State.timingLinkLost_of_not (hp : s.timing.state.parent ≠ some n) :
    (s.timingLinkLost n).timing = s.timing ∧ (s.timingLinkLost n).reports = s.reports := by
  simp [State.timingLinkLost, hp]

/-- Link `n` as it enters a state, and the Route Table told that it is unusable: how its pool request finds it. -/
def State.leaving (s : State) (n : LinkIx) (st : LinkState) : State :=
  (s.setLink n { s.link n with state := st }).routeLinkLost n

@[simp] theorem State.leaving_link (st : LinkState) : (s.leaving n st).link n = { s.link n with state := st } :=
  State.link_setLink_same ..

@[simp] theorem State.leaving_link_other (st : LinkState) {m : LinkIx} (h : n ≠ m) :
    (s.leaving n st).link m = s.link m := State.link_setLink_other _ _ h

@[simp] theorem State.leaving_routes (st : LinkState) : (s.leaving n st).routes = s.routes.dropLink n := rfl
@[simp] theorem State.leaving_pool (st : LinkState) : (s.leaving n st).pool = s.pool := rfl
@[simp] theorem State.leaving_intake (st : LinkState) : (s.leaving n st).intake = s.intake := rfl

/-- R45: what the requests change when the pool request changes the pool and the Local Intake alone. -/
theorem State.leaveUsable_eq {request : State → State} {p : Pool} {i : Intake} (st : LinkState) (reply : Bool)
    (h : request (s.leaving n st) = { s.leaving n st with pool := p, intake := i }) :
    (s.setLink n { s.link n with state := st }).leaveUsable n request reply = { s with
      linkTable := { s.linkTable with
        links := bankPut s.linkTable.links n (LinkRec.climbEnded { s.link n with state := st })
        pendingReplies := bif reply then s.linkTable.pendingReplies.filter fun x => some x != (s.link n).neighbour
          else s.linkTable.pendingReplies }
      routes := s.routes.dropLink n
      pool := p
      intake := i
      timing := (s.timingLinkLost n).timing
      reports := (s.timingLinkLost n).reports } := by
  have hpool : request ((s.setLink n { s.link n with state := st }).routeLinkLost n) =
      { s.leaving n st with pool := p, intake := i } := h
  simp only [State.leaveUsable, hpool]
  cases reply <;> by_cases hp : s.timing.state.parent = some n <;>
    simp [State.timingLinkLost, hp, State.leaving, State.routeLinkLost, State.dropReply, State.setLink, State.link,
      State.setTiming, LinkRec.climbEnded_neighbour, bankPut_bankPut]

end Leave

/-! ### A link that enters DRAINING (R60) -/

section Draining
variable (s : State) (n : LinkIx)

theorem State.enterDraining_eq : s.enterDraining n = { s with
    linkTable := { s.linkTable with
      links := bankPut s.linkTable.links n (LinkRec.climbEnded { s.link n with state := .draining }) }
    routes := s.routes.dropLink n
    timing := (s.timingLinkLost n).timing
    reports := (s.timingLinkLost n).reports } :=
  s.leaveUsable_eq n (request := fun s => s) .draining false rfl

/-- A link that is drained at once has the record it would have had without the stay in DRAINING. -/
theorem LinkRec.drained_of_draining (l : LinkRec) :
    (LinkRec.climbEnded { l with state := .draining }).drained = l.drained := by
  rw [LinkRec.drained_eq, LinkRec.drained_eq, LinkRec.climbEnded_eq]
  simp

theorem State.timingLinkLost_parent : (s.timingLinkLost n).timing.state.parent ≠ some n := by
  by_cases hp : s.timing.state.parent = some n
  · rw [(s.timingLinkLost_of_parent n hp).1]; exact nofun
  · rwa [(s.timingLinkLost_of_not n hp).1]

/-- R60, R61: a link that holds nothing passes through DRAINING to SILENT. -/
theorem State.enterDrained_enterDraining : (s.enterDraining n).enterDrained n = { s with
    linkTable := { s.linkTable with
      links := bankPut s.linkTable.links n (s.link n).drained
      pendingReplies := s.linkTable.pendingReplies.filter fun x => some x != (s.link n).neighbour }
    routes := (s.routes.dropLink n).dropLink n
    timing := (s.timingLinkLost n).timing
    reports := (s.timingLinkLost n).reports } := by
  rw [State.enterDrained_eq, State.enterDraining_eq]
  obtain ⟨htiming, hreports⟩ := State.timingLinkLost_of_not (s.enterDraining n) n (by
    rw [State.enterDraining_eq]; exact s.timingLinkLost_parent n)
  rw [State.enterDraining_eq] at htiming hreports
  rw [htiming, hreports]
  simp [State.link, bankPut_bankPut, LinkRec.drained_of_draining, LinkRec.climbEnded_neighbour]

end Draining

/-! ### LINK_DRAIN (R60) -/

section Command
variable {s : State} {n : LinkIx} {seq : BitVec 16} {link : Byte}

theorem State.commandLinkDrain_of_none (h : linkArg link = none) :
    s.commandLinkDrain seq link = s.respond 0x12 seq .badArgument := by
  simp [State.commandLinkDrain, h]

theorem State.commandLinkDrain_of_some (h : linkArg link = some n) : s.commandLinkDrain seq link =
    if (s.link n).usable then ((s.enterDraining n).drainTest n).respond 0x12 seq .done
    else s.respond 0x12 seq .refusedState := by
  simp only [State.commandLinkDrain, h]

/-- R60: a link that still holds something stays DRAINING. -/
theorem State.drainTest_enterDraining_of_held (h : s.queuedCount n ≠ 0 ∨ s.inFlightCount n ≠ 0) :
    (s.enterDraining n).drainTest n = s.enterDraining n :=
  State.drainTest_of_not _ n (.inr (.inr (by rw [State.enterDraining_eq]; exact h)))

/-- R61: a link that holds nothing is drained at once. -/
theorem State.drainTest_enterDraining_of_empty (hr : s.path.engine = .running) (hq : s.queuedCount n = 0)
    (hi : s.inFlightCount n = 0) : (s.enterDraining n).drainTest n = (s.enterDraining n).enterDrained n := by
  refine State.drainTest_of_drained _ n ?_ ?_ ?_ ?_ <;> rw [State.enterDraining_eq]
  · exact hr
  · exact (congrArg LinkRec.state (bankGet_bankPut_same ..)).trans (by rw [LinkRec.climbEnded_eq])
  · exact hq
  · exact hi

end Command

/-- Settles O51: a usable link enters DRAINING; when it holds something it stays there, and otherwise the drain test
silences it, which tells the Route Table a second time. -/
theorem linkDrainTakesNoNewTraffic : Obligations.LinkDrainTakesNoNewTraffic := by
  intro s seq link hq hc
  rw [exec_linkDrain_read hq hc]
  refine ⟨fun h => ?bad, fun n h hu => ?state, fun n h hu hr => ?done⟩
  case bad => rw [State.commandLinkDrain_of_none (linkArg_none.mpr h)]
  all_goals rw [State.commandLinkDrain_of_some (linkArg_some.mpr h), State.commandRead_link, hu]
  case state => rfl
  case done =>
    have hparent := s.commandRead.timingLinkLost_of_parent n
    have hother := s.commandRead.timingLinkLost_of_not n
    refine ⟨_, rfl, ?_⟩
    by_cases hheld : s.queuedCount n ≠ 0 ∨ s.inFlightCount n ≠ 0
    · have hkeep : ¬ (s.queuedCount n = 0 ∧ s.inFlightCount n = 0) := fun ⟨hq, hi⟩ => hheld.elim (· hq) (· hi)
      rw [State.drainTest_enterDraining_of_held (s := s.commandRead) hheld, State.enterDraining_eq]
      refine ⟨?_, ?_, fun m hm => bankGet_bankPut_other _ _ hm.symm, fun _ => s.routes.linkDropped_dropLink n,
        fun _ => rfl, fun hq hi => absurd ⟨hq, hi⟩ hkeep, hparent, hother⟩
      · conv_lhs => rw [State.timingLinkLost_reports]
        rfl
      · refine (bankGet_bankPut_same ..).trans ?_
        rw [LinkRec.climbEnded_eq, if_neg hkeep, if_neg hkeep]
        rfl
    · have hempty : s.queuedCount n = 0 ∧ s.inFlightCount n = 0 := by simpa using hheld
      have ⟨hq, hi⟩ := hempty
      rw [State.drainTest_enterDraining_of_empty (s := s.commandRead) hr hq hi, State.enterDrained_enterDraining]
      refine ⟨?_, ?_, fun m hm => bankGet_bankPut_other _ _ hm.symm, ?_, fun h => absurd h hheld, fun _ _ => rfl,
        hparent, hother⟩
      · conv_lhs => rw [State.timingLinkLost_reports]
        rfl
      · refine (bankGet_bankPut_same ..).trans ?_
        rw [LinkRec.drained_eq, if_pos hempty, if_pos hempty]
        rfl
      · rintro (h | h | hok)
        · exact absurd hq h
        · exact absurd hi h
        · have hdrop : (s.commandRead.routes.dropLink n).dropLink n = s.routes.dropLink n :=
            RouteTable.dropLink_dropLink n hok
          rw [hdrop]
          exact s.routes.linkDropped_dropLink n

end Sys2Proof.Machine
end

section
/-!
PROOF. Frames that leave the class queues of one link (R20, R29, R30, R36): each tag, one after another, is taken from
its queue and put where its new entry says. What such a round comes to is proved once, for any choice of the new
entries.
-/

namespace Sys2Proof.Machine

/-! ### Class queues -/

theorem ClassQueues.ext_get {q r : ClassQueues} (h : ∀ c, q.get c = r.get c) : q = r := by
  obtain ⟨_, _, _, _⟩ := q
  obtain ⟨_, _, _, _⟩ := r
  have hx := h .expedited
  have hi := h .interactive
  have hb := h .bulk
  have hk := h .background
  simp only [ClassQueues.get] at hx hi hb hk
  subst hx hi hb hk
  rfl

theorem State.queuedCount_eq_zero {s : State} {n : LinkIx} : s.queuedCount n = 0 ↔ (s.queuesOf n).all = [] :=
  List.length_eq_zero_iff

/-! ### One frame -/

/-- The tag `g` joins the tail of the list its entry names. -/
def State.joinTail (s : State) (g : Tag) (o : Option Frame) : State :=
  match o with
  | none => s
  | some f =>
    match f.place with
    | .queued m => s.pushTail m f.cls g
    | .held => s.pushHeld g
    | .releasing _ => s.pushBacklog (.entry g)
    | .inRing _ _ => s
    | .fetched _ _ => s

section Join
variable (s : State) (g : Tag) (o : Option Frame)

theorem State.joinTail_get (m : LinkIx) (c : TrafficClass) : ((s.joinTail g o).queuesOf m).get c =
    (s.queuesOf m).get c ++ if queuedAt o m c then [g] else [] := by
  unfold State.joinTail
  split
  · simp
  · rename_i f
    split
    · rename_i k hp
      rw [State.pushTail_get, queuedAt_some, hp]
      by_cases hk : k = m <;> by_cases hc : f.cls = c <;> simp [hk, hc]
    all_goals rename_i hp; simp [hp, State.pushHeld, State.pushBacklog, State.queuesOf]

theorem State.joinTail_heldList : (s.joinTail g o).pool.heldList =
    s.pool.heldList ++ if heldEntry o then [g] else [] := by
  unfold State.joinTail
  split
  · simp
  · split <;> rename_i hp <;> simp [hp, State.pushHeld, State.pushBacklog, State.pushTail]

theorem State.joinTail_backlog : (s.joinTail g o).pool.backlog =
    s.pool.backlog ++ if releasingEntry o then [.entry g] else [] := by
  unfold State.joinTail
  split
  · simp
  · split <;> rename_i hp <;> simp [releasingEntry, hp, State.pushHeld, State.pushBacklog, State.pushTail]

/-- Joining a list changes the lists of the pool alone. -/
theorem State.joinTail_eq : s.joinTail g o = { s with pool := { s.pool with
    queues := (s.joinTail g o).pool.queues
    heldList := (s.joinTail g o).pool.heldList
    backlog := (s.joinTail g o).pool.backlog } } := by
  unfold State.joinTail
  split
  · rfl
  · split <;> rfl

end Join

/-- R20: the tag `g` leaves the class queues of link `n`, its entry becomes `o`, it joins the list that names, and the
Local Intake has its signal. -/
def State.moveOut (s : State) (n : LinkIx) (g : Tag) (o : Option Frame) : State :=
  (((s.unqueue n g).setFrame g o).joinTail g o).signalIntake n

section MoveOut
variable (s : State) (n : LinkIx) (g : Tag) (o : Option Frame)

theorem State.moveOut_eq : s.moveOut n g o = { s with
    pool := { s.pool with
      entries := bankPut s.pool.entries g o
      queues := (s.moveOut n g o).pool.queues
      heldList := s.pool.heldList ++ if heldEntry o then [g] else []
      backlog := s.pool.backlog ++ if releasingEntry o then [.entry g] else [] }
    intake := { s.intake with stage := s.intake.stage.afterFall n } } := by
  have hheld := ((s.unqueue n g).setFrame g o).joinTail_heldList g o
  have hback := ((s.unqueue n g).setFrame g o).joinTail_backlog g o
  unfold State.moveOut
  rw [State.signalIntake_eq, State.joinTail_eq, hheld, hback]
  rfl

theorem State.moveOut_get (m : LinkIx) (c : TrafficClass) : ((s.moveOut n g o).queuesOf m).get c =
    (if n = m then ((s.queuesOf m).get c).filter fun x => x != g else (s.queuesOf m).get c) ++
      if queuedAt o m c then [g] else [] := by
  unfold State.moveOut
  rw [State.signalIntake_eq]
  exact (State.joinTail_get _ g o m c).trans (congrArg (· ++ _) (State.unqueue_get s n m c g))

theorem State.moveOut_frame (u : Tag) : (s.moveOut n g o).frame u = if g = u then o else s.frame u := by
  rw [State.moveOut_eq]
  exact bankGet_bankPut ..

end MoveOut

/-- A fall of the queued count of a link that is not DRAINING is a signal to the Local Intake alone. -/
theorem State.countFell_of_not_draining {s : State} {n : LinkIx} (h : (s.link n).state ≠ .draining) :
    s.countFell n = s.signalIntake n := by
  rw [State.countFell, State.signalIntake_eq]
  exact State.drainTest_of_not _ n (.inr (.inl h))

/-! ### A round of moves -/

/-- `t` is `s` after the tags `ts` have left the class queues of link `n`, one after another, each with the entry `dest`
gives it. -/
structure State.MovedOut (s t : State) (n : LinkIx) (ts : List Tag) (dest : Tag → Option Frame) : Prop where
  moved : ∀ g ∈ ts, t.frame g = dest g
  stayed : ∀ g, g ∉ ts → t.frame g = s.frame g
  left : ∀ c, (t.queuesOf n).get c = ((s.queuesOf n).get c).filter fun x => !ts.contains x
  joined : ∀ m c, m ≠ n → (t.queuesOf m).get c = (s.queuesOf m).get c ++ ts.filter fun g => queuedAt (dest g) m c
  held : t.pool.heldList = s.pool.heldList ++ ts.filter fun g => heldEntry (dest g)
  backlog : t.pool.backlog = s.pool.backlog ++ (ts.filter fun g => releasingEntry (dest g)).map ReleaseItem.entry
  rest : t = { s with
    pool := { s.pool with entries := t.pool.entries, queues := t.pool.queues, heldList := t.pool.heldList,
                          backlog := t.pool.backlog }
    intake := { s.intake with stage := if ts = [] then s.intake.stage else s.intake.stage.afterFall n } }

section Round
variable {s t u : State} {n : LinkIx} {dest : Tag → Option Frame} {g : Tag} {ts : List Tag}

theorem State.movedOut_nil : s.MovedOut s n [] dest := by constructor <;> simp

/-- A round begins with the move of its first tag. -/
theorem State.MovedOut.cons (hu : s.moveOut n g (dest g) = u) (hn : ∀ c, queuedAt (dest g) n c = false)
    (k : u.MovedOut t n ts dest) : s.MovedOut t n (g :: ts) dest := by
  have hframe (x : Tag) : u.frame x = if g = x then dest g else s.frame x := hu ▸ State.moveOut_frame ..
  have hget (m : LinkIx) (c : TrafficClass) := hu ▸ s.moveOut_get n g (dest g) m c
  have heq := s.moveOut_eq n g (dest g)
  rw [hu] at heq
  refine ⟨fun x hx => ?moved, fun x hx => ?stayed, fun c => ?left, fun m c hm => ?joined, ?held, ?backlog, ?rest⟩
  case moved =>
    by_cases hxt : x ∈ ts
    · exact k.moved x hxt
    · obtain rfl : x = g := (List.mem_cons.mp hx).resolve_right hxt
      rw [k.stayed x hxt, hframe, if_pos rfl]
  case stayed =>
    obtain ⟨hxg, hxt⟩ := not_or.mp (mt List.mem_cons.mpr hx)
    rw [k.stayed x hxt, hframe, if_neg (Ne.symm hxg)]
  case left =>
    rw [k.left, hget, hn c, if_pos rfl, if_neg Bool.false_ne_true, List.append_nil, List.filter_filter]
    refine List.filter_congr fun x _ => ?_
    rw [List.contains_cons, Bool.not_or, Bool.and_comm]
    rfl
  case joined =>
    rw [k.joined m c hm, hget, if_neg (Ne.symm hm), List.append_assoc, List.filter_cons]
    split <;> rfl
  case held =>
    rw [k.held, heq, List.append_assoc, List.filter_cons]
    split <;> rfl
  case backlog =>
    rw [k.backlog, heq, List.append_assoc, List.filter_cons]
    split <;> rfl
  case rest =>
    conv_lhs => rw [k.rest, heq]
    simp

/-- A round of moves in which no tag comes back to the link it leaves. -/
theorem State.movedOut_foldl (hd : ts.Nodup) (hn : ∀ g ∈ ts, ∀ c, queuedAt (dest g) n c = false) :
    s.MovedOut (ts.foldl (fun s g => s.moveOut n g (dest g)) s) n ts dest := by
  induction ts generalizing s with
  | nil => exact State.movedOut_nil
  | cons g ts ih =>
    exact (ih (List.nodup_cons.mp hd).2 fun u hu => hn u (List.mem_cons_of_mem _ hu)).cons rfl
      (hn g List.mem_cons_self)

theorem State.MovedOut.pool_eq (k : s.MovedOut t n ts dest) : t.pool = { s.pool with
    entries := t.pool.entries
    queues := t.pool.queues
    heldList := t.pool.heldList
    backlog := t.pool.backlog } := congrArg State.pool k.rest

theorem State.MovedOut.intake_eq (k : s.MovedOut t n ts dest) : t.intake = { s.intake with
    stage := if ts = [] then s.intake.stage else s.intake.stage.afterFall n } := congrArg State.intake k.rest

/-- After a round of all its tags the queues of the link are empty. -/
theorem State.MovedOut.queuesOf_self (k : s.MovedOut t n (s.queuesOf n).all dest) :
    t.queuesOf n = ⟨[], [], [], []⟩ := by
  refine ClassQueues.ext_get fun c => (k.left c).trans ?_
  have hnone : ((s.queuesOf n).get c).filter (fun x => !(s.queuesOf n).all.contains x) = [] :=
    List.filter_eq_nil_iff.mpr fun x hx => by simpa using ClassQueues.mem_all.mpr ⟨c, hx⟩
  rw [hnone]
  cases c <;> rfl

end Round

/-! ### The CUT release (R36) -/

/-- The entry of a frame that is released. -/
def asReleased (st : ReleaseStatus) (o : Option Frame) : Option Frame :=
  o.map fun f => { f with place := .releasing st }

theorem State.release_eq_moveOut {s : State} {g : Tag} {n : LinkIx} (st : ReleaseStatus)
    (hl : (s.link n).state ≠ .draining) (hq : queuedOn n (s.frame g)) :
    s.release g st = s.moveOut n g (asReleased st (s.frame g)) := by
  obtain ⟨f, hf, hp⟩ := hq
  rw [State.release_of_queued st hf hp, hf]
  exact State.countFell_of_not_draining hl

theorem State.releaseAll_eq_foldl {n : LinkIx} (st : ReleaseStatus) {dest : Tag → Option Frame} (ts : List Tag) :
    ∀ s : State, (s.link n).state ≠ .draining → ts.Nodup → (∀ g ∈ ts, queuedOn n (s.frame g)) →
      (∀ g ∈ ts, dest g = asReleased st (s.frame g)) →
      s.releaseAll st ts = ts.foldl (fun s g => s.moveOut n g (dest g)) s := by
  induction ts with
  | nil => intro s _ _ _ _; rfl
  | cons g ts ih =>
    intro s hl hd hq hdest
    obtain ⟨hg, hd⟩ := List.nodup_cons.mp hd
    have hframe : ∀ u ∈ ts, (s.moveOut n g (dest g)).frame u = s.frame u := fun u hu => by
      rw [State.moveOut_frame, if_neg (ne_of_mem_of_not_mem hu hg).symm]
    rw [State.releaseAll, List.foldl_cons, State.release_eq_moveOut st hl (hq g List.mem_cons_self),
      ← hdest g List.mem_cons_self]
    refine ih _ (by rw [State.moveOut_eq]; exact hl) hd (fun u hu => ?_) fun u hu => ?_
    · rw [hframe u hu]; exact hq u (List.mem_cons_of_mem _ hu)
    · rw [hframe u hu]; exact hdest u (List.mem_cons_of_mem _ hu)

@[simp] theorem queuedAt_asReleased (st : ReleaseStatus) (o : Option Frame) (n : LinkIx) (c : TrafficClass) :
    queuedAt (asReleased st o) n c = false := by cases o <;> simp [asReleased]

@[simp] theorem heldEntry_asReleased (st : ReleaseStatus) (o : Option Frame) : heldEntry (asReleased st o) = false := by
  cases o <;> simp [asReleased]

theorem releasingEntry_asReleased {st : ReleaseStatus} {o : Option Frame} (h : o ≠ none) :
    releasingEntry (asReleased st o) = true := by cases o <;> simp_all [asReleased, releasingEntry]

/-- R36: every frame in the queues of a link that is not DRAINING is released CUT. -/
theorem State.PoolOk.movedOut_cutRelease {s : State} {n : LinkIx} (h : s.PoolOk) (hl : (s.link n).state ≠ .draining) :
    s.MovedOut (s.cutRelease n) n (s.queuesOf n).all fun g => asReleased .cut (s.frame g) := by
  rw [State.cutRelease, State.releaseAll_eq_foldl .cut _ s hl (h.nodup_all n) (fun g hg => h.queuedOn_of_mem_all hg)
    fun g _ => rfl]
  exact State.movedOut_foldl (h.nodup_all n) fun g _ c => queuedAt_asReleased ..

end Sys2Proof.Machine
end

section
/-!
PROOF. LINK_CUT (R62): the link enters SILENT, its queued frames are released CUT (R36), and its unfetched descriptors
are recalled (R144).
-/

namespace Sys2Proof.Machine

section Cut
variable {s : State} {n : LinkIx} {seq : BitVec 16} {link : Byte}

theorem State.PoolOk.leaving (st : LinkState) (h : s.PoolOk) : (s.leaving n st).PoolOk := h.congr rfl

/-- The state once link `n` has entered SILENT and its queued frames have been released. -/
def State.silenced (s : State) (n : LinkIx) : State := (s.leaving n .silent).cutRelease n

/-- R36: what the CUT release comes to when the link is SILENT. -/
theorem State.PoolOk.movedOut_silenced (h : s.PoolOk) : (s.leaving n .silent).MovedOut (s.silenced n) n
    (s.queuesOf n).all fun g => asReleased .cut (s.frame g) :=
  (h.leaving .silent).movedOut_cutRelease (by rw [State.leaving_link]; exact nofun)

/-- R36: the pool after the CUT release, but for the entries. -/
theorem State.PoolOk.silenced_pool (h : s.PoolOk) : (s.silenced n).pool = { s.pool with
    entries := (s.silenced n).pool.entries
    queues := bankPut s.pool.queues n ⟨[], [], [], []⟩
    backlog := s.pool.backlog ++ (s.queuesOf n).all.map ReleaseItem.entry } := by
  have k := h.movedOut_silenced (n := n)
  have hqueues : (s.silenced n).pool.queues = bankPut s.pool.queues n ⟨[], [], [], []⟩ := bank_ext fun m => by
    rw [bankGet_bankPut]
    split
    · subst m; exact k.queuesOf_self
    · rename_i hm
      exact ClassQueues.ext_get fun c => (k.joined m c (Ne.symm hm)).trans (by simp [State.queuesOf])
  have hheld : (s.silenced n).pool.heldList = s.pool.heldList := k.held.trans (by simp)
  have hall : ((s.queuesOf n).all.filter fun g => releasingEntry (asReleased .cut (s.frame g))) = (s.queuesOf n).all :=
    List.filter_eq_self.mpr fun g hg => by
      obtain ⟨f, hf, -⟩ := h.queuedOn_of_mem_all hg
      exact releasingEntry_asReleased (by rw [hf]; exact nofun)
  have hback : (s.silenced n).pool.backlog = s.pool.backlog ++ (s.queuesOf n).all.map ReleaseItem.entry :=
    k.backlog.trans (by rw [hall]; rfl)
  rw [← hqueues, ← hback]
  conv_lhs => rw [k.pool_eq, hheld]
  rfl

theorem State.PoolOk.silenced_intake (h : s.PoolOk) : (s.silenced n).intake = { s.intake with
    stage := if s.queuedCount n = 0 then s.intake.stage else s.intake.stage.afterFall n } := by
  simp only [h.movedOut_silenced.intake_eq, State.queuedCount_eq_zero, State.leaving_intake]

/-- R62, R45: what the entry to SILENT changes. -/
theorem State.PoolOk.enterSilent_eq (h : s.PoolOk) : s.enterSilent n = { s with
    linkTable := { s.linkTable with
      links := bankPut s.linkTable.links n (LinkRec.climbEnded { s.link n with state := .silent })
      pendingReplies := s.linkTable.pendingReplies.filter fun x => some x != (s.link n).neighbour }
    routes := s.routes.dropLink n
    pool := (s.silenced n).pool
    intake := (s.silenced n).intake
    timing := (s.timingLinkLost n).timing
    reports := (s.timingLinkLost n).reports } :=
  s.leaveUsable_eq n (request := fun s => s.cutRelease n) (p := (s.silenced n).pool) (i := (s.silenced n).intake)
    .silent true (by conv_lhs => rw [← State.silenced, h.movedOut_silenced.rest]
                     rw [h.movedOut_silenced.rest])

theorem State.commandLinkCut_of_none (h : linkArg link = none) :
    s.commandLinkCut seq link = s.respond 0x13 seq .badArgument := by
  simp [State.commandLinkCut, h]

theorem State.commandLinkCut_of_empty (h : linkArg link = some n) (hs : (s.link n).state = .empty) :
    s.commandLinkCut seq link = s.respond 0x13 seq .refusedState := by
  simp [State.commandLinkCut, h, hs]

theorem State.commandLinkCut_of_silent (h : linkArg link = some n) (hs : (s.link n).state = .silent) :
    s.commandLinkCut seq link = s.respond 0x13 seq .done := by
  simp [State.commandLinkCut, h, hs]

theorem State.commandLinkCut_of_open (h : linkArg link = some n) (he : (s.link n).state ≠ .empty)
    (hs : (s.link n).state ≠ .silent) : s.commandLinkCut seq link =
      ((s.enterSilent n).recall fun r => r.names n).respond 0x13 seq .done := by
  cases hst : (s.link n).state <;> simp_all [State.commandLinkCut]

/-- R144: the recall changes the in-flight table, and issues a SKIP write for each record it flags. -/
theorem State.recall_eq (s : State) (which : InFlight → Bool) : s.recall which = { s with
    sched := { s.sched with
      inFlight := s.sched.inFlight.map fun r =>
        if which r ∧ r.fetched = false ∧ r.recalled = false then { r with recalled := true } else r }
    path := s.path.fill (s.path.queue ++ s.path.tails ++
      (s.sched.inFlight.filter fun r => which r && !r.fetched && !r.recalled).map fun r =>
        .write (.skip r.pos) (s.txAddress r.pos) (skipBytes r.lap)) } := by
  have htable : (s.sched.inFlight.map fun r => if r.recallable which then { r with recalled := true } else r) =
      s.sched.inFlight.map fun r =>
        if which r ∧ r.fetched = false ∧ r.recalled = false then { r with recalled := true } else r :=
    List.map_congr_left fun r _ => by simp [InFlight.recallable, and_assoc]
  rw [← htable]
  rfl

end Cut

/-- Settles O52: the entry to SILENT is `State.PoolOk.enterSilent_eq`, with the queued frames released by
`State.PoolOk.movedOut_silenced`, and the recall follows. -/
theorem linkCutSilencesAndRecalls : Obligations.LinkCutSilencesAndRecalls := by
  intro s seq link hq hpool hc
  rw [exec_linkCut_read hq hc]
  refine ⟨fun h => ?bad, fun n h hs => ?empty, fun n h hs => ?silent, fun n h he hs => ?cut⟩
  case bad => rw [State.commandLinkCut_of_none (linkArg_none.mpr h)]
  case empty => rw [State.commandLinkCut_of_empty (s := s.commandRead) (linkArg_some.mpr h) hs]
  case silent => rw [State.commandLinkCut_of_silent (s := s.commandRead) (linkArg_some.mpr h) hs]
  case cut =>
    have hread : s.commandRead.PoolOk := hpool.congr rfl
    have k := hread.movedOut_silenced (n := n)
    rw [State.commandLinkCut_of_open (s := s.commandRead) (linkArg_some.mpr h) he hs]
    refine ⟨_, rfl, ?_⟩
    rw [State.recall_eq, hread.enterSilent_eq]
    refine ⟨?frame, s.routes.linkDropped_dropLink n, fun g f hg hf => ?released, fun g hg => k.stayed g hg,
      s.commandRead.timingLinkLost_of_parent n, s.commandRead.timingLinkLost_of_not n, MemoryPath.fill_all ..⟩
    case frame =>
      conv_lhs => rw [hread.silenced_pool, hread.silenced_intake, State.timingLinkLost_reports, LinkRec.climbEnded_eq]
      rfl
    case released => exact (k.moved g hg).trans (congrArg (asReleased .cut) hf)

end Sys2Proof.Machine
end

section
/-!
PROOF. A link that enters FAILED (R48, R56, R58, R59): the lookup while its queued frames are re-dispatched (R104), the
re-dispatch (R30), and the rows that fail a link.
-/

namespace Sys2Proof.Machine

/-- R20: a tag in a class queue has that class. -/
theorem State.PoolOk.queuedAt_of_mem {s : State} {g : Tag} {n : LinkIx} {c : TrafficClass} (h : s.PoolOk)
    (hg : g ∈ (s.queuesOf n).get c) : ∃ f, s.frame g = some f ∧ f.place = .queued n ∧ f.cls = c := by
  have hpos : 0 < bit (queuedAt (s.frame g) n c) := h.queued g n c ▸ List.count_pos_iff.mpr hg
  cases hf : s.frame g with
  | none => simp [hf] at hpos
  | some f =>
    refine ⟨f, rfl, ?_⟩
    by_contra hp
    rw [hf, queuedAt_some, decide_eq_false hp] at hpos
    exact absurd hpos (Nat.lt_irrefl 0)

/-! ### Lookup (R104) -/

section Lookup
variable {s t : State} {n : LinkIx}

theorem bankFind_congr {α : Type} {k : Nat} {p : Fin k → α → Bool} {a b : Bank α k}
    (h : ∀ i, p i (bankGet a i) = p i (bankGet b i)) : bankFind p a = bankFind p b :=
  List.find?_congr fun i _ => h i

/-- R42: a node id names a link by the states and the neighbours of the records alone. -/
theorem State.linkOf_congr
    (hl : ∀ m, (t.link m).state = (s.link m).state ∧ (t.link m).neighbour = (s.link m).neighbour)
    (node : NodeId) : t.linkOf node = s.linkOf node :=
  bankFind_congr fun m => by
    obtain ⟨hs, hn⟩ := hl m
    exact congrArg₂ (fun st nb => st != .empty && nb == some node) hs hn

theorem LinkRec.usable_congr {l k : LinkRec} (h : l.state = k.state) : l.usable = k.usable := by
  simp only [LinkRec.usable, h]

/-- R104: the lookup depends on the own id, the Route Table, and the states and neighbours of the links. -/
theorem State.lookup_congr (hid : t.path.ownId = s.path.ownId) (hr : t.routes = s.routes)
    (hl : ∀ m, (t.link m).state = (s.link m).state ∧ (t.link m).neighbour = (s.link m).neighbour) (dest : NodeId) :
    t.lookup dest = s.lookup dest := by
  have hlink := State.linkOf_congr hl dest
  have hid' : t.identifies dest = s.identifies dest := by simp only [State.identifies, hid]
  have husable (m : LinkIx) : (t.link m).usable = (s.link m).usable := LinkRec.usable_congr (hl m).1
  have hactive (m : LinkIx) : (t.link m).isActive = (s.link m).isActive := congrArg (· == LinkState.active) (hl m).1
  have hof : t.usableLinkOf dest = s.usableLinkOf dest := by simp only [State.usableLinkOf, hlink, husable]
  simp only [State.lookup, hid', hr, husable, hactive, hof]

theorem RouteTable.entry_of_find {rt : RouteTable} {dest : NodeId} {e : RouteEntry} (h : rt.find dest = some e) :
    ∃ p, rt.entry p = some e := by
  obtain ⟨p, -, hp⟩ := Option.bind_eq_some_iff.mp h
  exact ⟨p, hp⟩

theorem State.usableLinkOf_ne (hn : (s.link n).usable = false) (node : NodeId) : s.usableLinkOf node ≠ some n := by
  unfold State.usableLinkOf
  split
  · split
    · rintro ⟨⟩
      simp_all
    · exact nofun
  · exact nofun

/-- R91, R103, R104: no lookup names a link that has become unusable. -/
theorem State.lookup_leaving_ne (st : LinkState) (hst : LinkRec.usable { s.link n with state := st } = false)
    (hok : ∀ p e, s.routes.entry p = some e → e.body.ok = true) (dest : NodeId) :
    (s.leaving n st).lookup dest ≠ some n := by
  have hn : ((s.leaving n st).link n).usable = false := by rwa [State.leaving_link]
  unfold State.lookup
  split
  · exact nofun
  · split
    · rename_i d stale p q sq age hf
      obtain ⟨x, hx⟩ := RouteTable.entry_of_find hf
      rw [State.leaving_routes, RouteTable.entry_dropLink] at hx
      obtain ⟨e, he, hbody⟩ := Option.map_eq_some_iff.mp hx
      obtain ⟨hp, hq⟩ := RouteBody.live_of_dropLink (hok x e he) (congrArg RouteEntry.body hbody)
      split
      · simpa using hp
      · split
        · rename_i q
          split
          · simpa using hq q rfl
          · simpa using hp
        · simpa using hp
    · split
      · rintro ⟨⟩
        simp_all
      · exact nofun
    · exact State.usableLinkOf_ne hn dest
    · exact State.usableLinkOf_ne hn dest

theorem State.tableRoute_eq_lookup {f : Frame} (h : f.mode = .table) : s.tableRoute (some f) = s.lookup f.dest := by
  simp [State.tableRoute, h]

theorem State.tableRoute_of_via {f : Frame} (h : f.mode = .via) : s.tableRoute (some f) = none := by
  simp [State.tableRoute, h]

theorem State.tableRoute_congr (h : ∀ dest, t.lookup dest = s.lookup dest) (o : Option Frame) :
    t.tableRoute o = s.tableRoute o := by
  simp only [State.tableRoute, h]

end Lookup

/-! ### The re-dispatch (R30) -/

/-- The TABLE frames of a list of tags whose lookup names no link. -/
def State.homeless (s : State) (ts : List Tag) : List Tag :=
  ts.filter fun g => tableFrame (s.frame g) && s.tableRoute (s.frame g) == none

/-- Those of them that find room on the held list. -/
def State.sheltered (s : State) (ts : List Tag) : List Tag :=
  (s.homeless ts).take (s.pool.heldLimit - s.pool.heldList.length)

/-- The entry of a frame after the re-dispatch, given the tags that the held list has room for. -/
def State.dispatched (s : State) (held : List Tag) (g : Tag) (f : Frame) : Frame :=
  match s.tableRoute (some f) with
  | some m => { f with place := .queued m }
  | none => if g ∈ held then { f with place := .held, age := 0 } else { f with place := .releasing .noRoute }

section Dispatch
variable {s : State} {n : LinkIx} {g : Tag} {f : Frame} {ts held : List Tag}

theorem State.dispatched_of_route {m : LinkIx} (h : s.tableRoute (some f) = some m) :
    s.dispatched held g f = { f with place := .queued m } := by simp [State.dispatched, h]

theorem State.dispatched_of_held (h : s.tableRoute (some f) = none) (hg : g ∈ held) :
    s.dispatched held g f = { f with place := .held, age := 0 } := by simp [State.dispatched, h, hg]

theorem State.dispatched_of_not (h : s.tableRoute (some f) = none) (hg : g ∉ held) :
    s.dispatched held g f = { f with place := .releasing .noRoute } := by simp [State.dispatched, h, hg]

/-- R30: one frame in the queues of a link that is not DRAINING, where `held` says whether it finds room. -/
theorem State.redispatchOne_eq_moveOut (hl : (s.link n).state ≠ .draining) (hf : s.frame g = some f)
    (hp : f.place = .queued n)
    (hg : s.tableRoute (some f) = none → (g ∈ held ↔ f.mode = .table ∧ s.heldRoom = true)) :
    s.redispatchOne n g = s.moveOut n g ((s.frame g).map (s.dispatched held g)) := by
  have hrelease : s.release g .noRoute = s.moveOut n g (asReleased .noRoute (s.frame g)) :=
    State.release_eq_moveOut .noRoute hl ⟨f, hf, hp⟩
  rw [hf] at hrelease ⊢
  simp only [State.redispatchOne, hf, Option.map_some]
  cases hm : f.mode with
  | via =>
    have hr := s.tableRoute_of_via hm
    have hgh : g ∉ held := fun h => by simpa [hm] using ((hg hr).mp h).1
    rw [State.dispatched_of_not hr hgh]
    exact hrelease
  | table =>
    have hr := s.tableRoute_eq_lookup hm
    cases hlook : s.lookup f.dest with
    | some m =>
      rw [State.dispatched_of_route (hr.trans hlook)]
      exact State.countFell_of_not_draining hl
    | none =>
      have hnone := hr.trans hlook
      cases hroom : s.heldRoom with
      | true =>
        rw [State.dispatched_of_held hnone ((hg hnone).mpr ⟨hm, hroom⟩)]
        refine (if_pos rfl).trans ?_
        rw [← hm]
        exact State.countFell_of_not_draining hl
      | false =>
        have hgh : g ∉ held := fun h => by simpa [hroom] using ((hg hnone).mp h).2
        rw [State.dispatched_of_not hnone hgh]
        exact hrelease

theorem State.heldRoom_iff : s.heldRoom = true ↔ 0 < s.pool.heldLimit - s.pool.heldList.length := by
  rw [State.heldRoom, decide_eq_true_iff]; omega

/-- The first of the tags finds room when it is homeless and the held list has room. -/
theorem State.mem_sheltered_head (hd : g ∉ ts) (hf : s.frame g = some f) (hr : s.tableRoute (some f) = none) :
    g ∈ s.sheltered (g :: ts) ↔ f.mode = .table ∧ s.heldRoom = true := by
  have htail : g ∉ s.homeless ts := fun h => hd (List.mem_of_mem_filter h)
  rw [State.heldRoom_iff, State.sheltered]
  by_cases hm : f.mode = .table
  · have hcons : s.homeless (g :: ts) = g :: s.homeless ts := by simp [State.homeless, hf, hr, tableFrame, hm]
    rw [hcons]
    cases s.pool.heldLimit - s.pool.heldList.length <;> simp [hm]
  · have hcons : s.homeless (g :: ts) = s.homeless ts := by simp [State.homeless, hf, tableFrame, hm]
    rw [hcons]
    simp only [hm, false_and, iff_false]
    exact fun h => htail (List.mem_of_mem_take h)

/-- Once the first of the tags has moved, the others find the room it has left. -/
theorem State.mem_sheltered_tail {u : State} {x : Tag} (hd : g ∉ ts) (hf : s.frame g = some f) (hx : x ∈ ts)
    (hhome : u.homeless ts = s.homeless ts) (hlimit : u.pool.heldLimit = s.pool.heldLimit)
    (hheld : u.pool.heldList = s.pool.heldList ++
      if heldEntry (some (s.dispatched (s.sheltered (g :: ts)) g f)) then [g] else []) :
    x ∈ u.sheltered ts ↔ x ∈ s.sheltered (g :: ts) := by
  have hxg : x ≠ g := ne_of_mem_of_not_mem hx hd
  cases hr : s.tableRoute (some f) with
  | some m =>
    have hcons : s.homeless (g :: ts) = s.homeless ts := by simp [State.homeless, hf, hr]
    rw [State.dispatched_of_route hr] at hheld
    simp [State.sheltered, hhome, hcons, hlimit, hheld]
  | none =>
    have hhead := State.mem_sheltered_head hd hf hr
    by_cases hg : g ∈ s.sheltered (g :: ts)
    · obtain ⟨hm, hroom⟩ := hhead.mp hg
      have hcons : s.homeless (g :: ts) = g :: s.homeless ts := by simp [State.homeless, hf, hr, tableFrame, hm]
      obtain ⟨k, hk⟩ := Nat.exists_eq_add_one.mpr (State.heldRoom_iff.mp hroom)
      have hleft : s.pool.heldLimit - (s.pool.heldList.length + 1) = k := by omega
      rw [State.dispatched_of_held hr hg] at hheld
      simp [State.sheltered, hhome, hcons, hlimit, hheld, hk, hleft, hxg]
    · rw [State.dispatched_of_not hr hg] at hheld
      have hsame : u.pool.heldLimit - u.pool.heldList.length = s.pool.heldLimit - s.pool.heldList.length := by
        simp [hheld, hlimit]
      rw [State.sheltered, State.sheltered, hhome, hsame]
      by_cases hm : f.mode = .table
      · have hfull : s.pool.heldLimit - s.pool.heldList.length = 0 :=
          Nat.eq_zero_of_not_pos fun h => hg (hhead.mpr ⟨hm, State.heldRoom_iff.mpr h⟩)
        simp [hfull]
      · have hcons : s.homeless (g :: ts) = s.homeless ts := by simp [State.homeless, hf, tableFrame, hm]
        rw [hcons]

/-- A move leaves the lookups as they are. -/
theorem State.moveOut_tableRoute (o p : Option Frame) : (s.moveOut n g o).tableRoute p = s.tableRoute p := by
  refine State.tableRoute_congr (fun dest => State.lookup_congr ?_ ?_ (fun m => ?_) dest) p <;>
    rw [State.moveOut_eq]
  exact ⟨rfl, rfl⟩

/-- R30: a re-dispatch is a round of moves. -/
theorem State.redispatch_eq_foldl {dest : Tag → Option Frame} (hl : (s.link n).state ≠ .draining) (hd : ts.Nodup)
    (hq : ∀ g ∈ ts, queuedOn n (s.frame g))
    (hdest : ∀ g ∈ ts, dest g = (s.frame g).map (s.dispatched (s.sheltered ts) g)) :
    ts.foldl (fun s g => s.redispatchOne n g) s = ts.foldl (fun s g => s.moveOut n g (dest g)) s := by
  induction ts generalizing s with
  | nil => rfl
  | cons g ts ih =>
    obtain ⟨hg, hd⟩ := List.nodup_cons.mp hd
    obtain ⟨f, hf, hp⟩ := hq g List.mem_cons_self
    have hmove : s.redispatchOne n g = s.moveOut n g (dest g) := by
      rw [hdest g List.mem_cons_self]
      exact State.redispatchOne_eq_moveOut hl hf hp (State.mem_sheltered_head hg hf)
    have hdestg : dest g = some (s.dispatched (s.sheltered (g :: ts)) g f) := by
      rw [hdest g List.mem_cons_self, hf]; rfl
    have hframe : ∀ u ∈ ts, (s.moveOut n g (dest g)).frame u = s.frame u := fun u hu => by
      rw [State.moveOut_frame, if_neg (ne_of_mem_of_not_mem hu hg).symm]
    have hhome : (s.moveOut n g (dest g)).homeless ts = s.homeless ts :=
      List.filter_congr fun u hu => by rw [hframe u hu, State.moveOut_tableRoute]
    rw [List.foldl_cons, List.foldl_cons, hmove]
    refine ih (by rw [State.moveOut_eq]; exact hl) hd (fun u hu => ?_) fun u hu => ?_
    · rw [hframe u hu]; exact hq u (List.mem_cons_of_mem _ hu)
    · have hmem := State.mem_sheltered_tail hg hf hu hhome (by rw [State.moveOut_eq])
        (by rw [State.moveOut_eq, hdestg])
      rw [hdest u (List.mem_cons_of_mem _ hu), hframe u hu]
      exact Option.map_congr fun f _ => by simp only [State.dispatched, State.moveOut_tableRoute, hmem]

theorem State.sheltered_subset (h : g ∈ s.sheltered ts) : g ∈ s.homeless ts := List.mem_of_mem_take h

theorem State.mem_homeless (hf : s.frame g = some f) :
    g ∈ s.homeless ts ↔ g ∈ ts ∧ f.mode = .table ∧ s.lookup f.dest = none := by
  rw [State.homeless, List.mem_filter, hf]
  by_cases hm : f.mode = .table <;> simp [tableFrame, hm, State.tableRoute]

end Dispatch

/-! ### What the re-dispatch makes of a list of tags -/

section Sorted
variable {s : State} {g : Tag} {f : Frame} {ts held : List Tag}

theorem State.dispatched_queued_iff {m : LinkIx} :
    (s.dispatched held g f).place = .queued m ↔ s.tableRoute (some f) = some m := by
  cases hr : s.tableRoute (some f) with
  | some k => simp [State.dispatched_of_route hr]
  | none =>
    by_cases hg : g ∈ held
    · simp [State.dispatched_of_held hr hg]
    · simp [State.dispatched_of_not hr hg]

theorem State.dispatched_cls : (s.dispatched held g f).cls = f.cls := by
  unfold State.dispatched
  split
  · rfl
  · split <;> rfl

theorem State.route_of_sheltered (hf : s.frame g = some f) (hg : g ∈ s.sheltered ts) :
    s.tableRoute (some f) = none := by
  obtain ⟨-, hm, hl⟩ := (State.mem_homeless hf).mp (State.sheltered_subset hg)
  exact (s.tableRoute_eq_lookup hm).trans hl

theorem State.heldEntry_dispatched (hf : s.frame g = some f) :
    heldEntry (some (s.dispatched (s.sheltered ts) g f)) = (s.sheltered ts).contains g := by
  by_cases hg : g ∈ s.sheltered ts
  · rw [State.dispatched_of_held (State.route_of_sheltered hf hg) hg]
    simp [hg]
  · cases hr : s.tableRoute (some f) with
    | some m => simp [State.dispatched_of_route hr, hg]
    | none => simp [State.dispatched_of_not hr hg, hg]

/-- A frame is released when it is a VIA frame, or homeless and left over. -/
theorem State.releasingEntry_dispatched (hf : s.frame g = some f) (hg : g ∈ ts) :
    releasingEntry (some (s.dispatched (s.sheltered ts) g f)) =
      (!tableFrame (s.frame g) || ((s.homeless ts).contains g && !(s.sheltered ts).contains g)) := by
  have hhome := State.mem_homeless (ts := ts) hf
  cases hm : f.mode with
  | via =>
    have hnot : g ∉ s.sheltered ts := fun h => by simpa [hm] using (hhome.mp (State.sheltered_subset h)).2.1
    rw [State.dispatched_of_not (s.tableRoute_of_via hm) hnot]
    simp [releasingEntry, hf, tableFrame, hm]
  | table =>
    have hroute := s.tableRoute_eq_lookup hm
    cases hl : s.lookup f.dest with
    | some m =>
      have hnot : g ∉ s.homeless ts := fun h => by simpa [hl] using (hhome.mp h).2.2
      rw [State.dispatched_of_route (hroute.trans hl)]
      simp [releasingEntry, hf, tableFrame, hm, hnot]
    | none =>
      have hin : g ∈ s.homeless ts := hhome.mpr ⟨hg, hm, hl⟩
      by_cases hs : g ∈ s.sheltered ts
      · rw [State.dispatched_of_held (hroute.trans hl) hs]
        simp [releasingEntry, hf, tableFrame, hm, hs]
      · rw [State.dispatched_of_not (hroute.trans hl) hs]
        simp [releasingEntry, hf, tableFrame, hm, hin, hs]

/-- The tags that find room, met in the order of the round. -/
theorem State.filter_sheltered (hd : ts.Nodup) : (ts.filter fun g => (s.sheltered ts).contains g) = s.sheltered ts := by
  have htake : s.sheltered ts = (s.homeless ts).filter fun g => (s.sheltered ts).contains g :=
    (hd.filter _).take_eq_filter_mem
  refine Eq.trans ?_ htake.symm
  rw [State.homeless, List.filter_filter]
  refine List.filter_congr fun g _ => ?_
  by_cases hg : g ∈ s.sheltered ts
  · have hhome := List.mem_filter.mp (State.sheltered_subset hg)
    simp only [hhome.2, Bool.and_true]
  · simp [hg]

end Sorted

/-! ### The round of a link that fails -/

section Failed
variable {s : State} {n : LinkIx} {g : Tag} {f : Frame}

/-- The state once link `n` has entered FAILED and its queued frames have been re-dispatched. -/
def State.redispatched (s : State) (n : LinkIx) (r : FailureReason) : State := (s.leaving n (.failed r)).redispatch n

/-- R30: what the re-dispatch comes to. -/
theorem State.PoolOk.movedOut_redispatched {v : State} (r : FailureReason) (h : s.PoolOk)
    (hok : ∀ p e, s.routes.entry p = some e → e.body.ok = true) (hv : v = s.leaving n (.failed r)) :
    v.MovedOut (s.redispatched n r) n (s.queuesOf n).all
      fun g => (s.frame g).map (v.dispatched (v.sheltered (s.queuesOf n).all) g) := by
  subst hv
  rw [State.redispatched, State.redispatch]
  have hfold := State.redispatch_eq_foldl (s := s.leaving n (.failed r)) (n := n) (ts := (s.queuesOf n).all)
    (by rw [State.leaving_link]; exact nofun) (h.nodup_all n) (fun g hg => h.queuedOn_of_mem_all hg) fun g _ => rfl
  refine hfold ▸ State.movedOut_foldl (h.nodup_all n) fun g _ c => ?_
  have hlook := s.lookup_leaving_ne (n := n) (.failed r) rfl hok
  cases hf : (s.leaving n (.failed r)).frame g with
  | none => simp
  | some f =>
    rw [Option.map_some, queuedAt_some, decide_eq_false_iff_not, State.dispatched]
    split
    · rename_i m hm
      rintro ⟨⟨⟩, -⟩
      unfold State.tableRoute at hm
      split at hm
      · split at hm
        · simp_all
        · cases hm
      · cases hm
    · split <;> simp

/-- R59, R45: what the entry to FAILED changes. -/
theorem State.enterFailed_eq (r : FailureReason) (h : s.PoolOk)
    (hok : ∀ p e, s.routes.entry p = some e → e.body.ok = true) : s.enterFailed n r = { s with
      linkTable := { s.linkTable with
        links := bankPut s.linkTable.links n
          ((LinkRec.climbEnded { s.link n with state := .failed r }).attend .failed)
        pendingReplies := s.linkTable.pendingReplies.filter fun x => some x != (s.link n).neighbour }
      routes := s.routes.dropLink n
      pool := (s.redispatched n r).pool
      intake := (s.redispatched n r).intake
      timing := (s.timingLinkLost n).timing
      reports := (s.timingLinkLost n).reports } := by
  have k := h.movedOut_redispatched (n := n) r hok rfl
  have hleave := s.leaveUsable_eq n (request := fun s => s.redispatch n) (p := (s.redispatched n r).pool)
    (i := (s.redispatched n r).intake) (.failed r) true (by
      conv_lhs => rw [← State.redispatched, k.rest]
      rw [k.rest])
  refine (congrArg (fun v : State => v.setLink n ((v.link n).attend .failed)) hleave).trans ?_
  simp [State.setLink, State.link, bankPut_bankPut]

theorem State.MovedOut.lookup {t : State} {ts : List Tag} {dest : Tag → Option Frame} (k : s.MovedOut t n ts dest)
    (d : NodeId) : t.lookup d = s.lookup d := by
  rw [k.rest]
  exact State.lookup_congr rfl rfl (fun m => ⟨rfl, rfl⟩) d

/-- The requests that follow the re-dispatch leave the states and neighbours of the links as it found them. -/
theorem State.enterFailed_link (r : FailureReason) (h : s.PoolOk)
    (hok : ∀ p e, s.routes.entry p = some e → e.body.ok = true) (m : LinkIx) :
    ((s.enterFailed n r).link m).state = ((s.leaving n (.failed r)).link m).state ∧
      ((s.enterFailed n r).link m).neighbour = ((s.leaving n (.failed r)).link m).neighbour := by
  have hlink : (s.enterFailed n r).link m =
      if n = m then (LinkRec.climbEnded { s.link n with state := .failed r }).attend .failed else s.link m := by
    rw [State.enterFailed_eq r h hok]
    exact bankGet_bankPut ..
  by_cases hm : n = m
  · subst hm
    rw [hlink, State.leaving_link, if_pos rfl, LinkRec.climbEnded_eq]
    exact ⟨rfl, rfl⟩
  · rw [hlink, State.leaving_link_other _ _ _ hm, if_neg hm]
    exact ⟨rfl, rfl⟩

theorem State.enterFailed_lookup (r : FailureReason) (h : s.PoolOk)
    (hok : ∀ p e, s.routes.entry p = some e → e.body.ok = true) (d : NodeId) :
    (s.enterFailed n r).lookup d = (s.leaving n (.failed r)).lookup d :=
  State.lookup_congr (by rw [State.enterFailed_eq r h hok]; rfl) (by rw [State.enterFailed_eq r h hok]; rfl)
    (State.enterFailed_link r h hok) d

/-- Every tag of a class queue has its class, so a round of a whole link's tags meets those of one class in the order of
their queue. -/
theorem State.PoolOk.filter_all {k : TrafficClass} {P Q : Tag → Bool} (h : s.PoolOk)
    (hQ : ∀ g f, s.frame g = some f → (Q g = true ↔ f.cls = k ∧ P g = true)) :
    (s.queuesOf n).all.filter Q = ((s.queuesOf n).get k).filter P := by
  have hsame : ((s.queuesOf n).get k).filter Q = ((s.queuesOf n).get k).filter P :=
    List.filter_congr fun g hg => by
      obtain ⟨f, hf, -, hc⟩ := h.queuedAt_of_mem hg
      rw [Bool.eq_iff_iff, hQ g f hf, hc]
      simp
  have hother (c : TrafficClass) (hck : c ≠ k) : ((s.queuesOf n).get c).filter Q = [] :=
    List.filter_eq_nil_iff.mpr fun g hg => by
      obtain ⟨f, hf, -, hc⟩ := h.queuedAt_of_mem hg
      rw [hQ g f hf, hc]
      exact fun hk => hck hk.1
  rw [ClassQueues.all, List.filter_append, List.filter_append, List.filter_append, ← hsame]
  have hx := hother .expedited
  have hi := hother .interactive
  have hb := hother .bulk
  have hg := hother .background
  simp only [ClassQueues.get] at hx hi hb hg
  cases k <;> simp [ClassQueues.get, hx, hi, hb, hg]

end Failed

/-! ### The rows that fail a link -/

section Rows
variable {s : State} {n : LinkIx} {ws : List Work}

theorem exec_openTimeout_of_due (hw : s.work = .due (.openTimeout n) :: ws) (hws : ∀ w ∈ ws, ∃ x, w = .due x)
    (hs : (s.link n).state = .probing 0) :
    exec .openTimeout s = .next { s.enterFailed n .openTimeout with work := ws } := by
  have hperform : s.perform (.openTimeout n) = s.enterFailed n .openTimeout := by
    simp [State.perform, State.expireOpen, hs]
  rw [← State.advance_dues _ hws, ← hperform]
  exact congrArg Host.Outcome.next (State.resolve_head hw rfl)

theorem exec_blockHoldExpiry_of_due (hw : s.work = .due (.blockHoldExpiry n) :: ws)
    (hws : ∀ w ∈ ws, ∃ x, w = .due x) (hs : (s.link n).state = .blocked 0) :
    exec .blockHoldExpiry s = .next { s.enterFailed n .blockage with work := ws } := by
  have hperform : s.perform (.blockHoldExpiry n) = s.enterFailed n .blockage := by
    simp [State.perform, State.expireBlock, hs]
  rw [← State.advance_dues _ hws, ← hperform]
  exact congrArg Host.Outcome.next (State.resolve_head hw rfl)

theorem exec_beaconLoss_of_due (hw : s.work = .due (.beaconLoss n) :: ws) (hws : ∀ w ∈ ws, ∃ x, w = .due x)
    (hs : (s.link n).carrying = true) (hm : s.linkTable.missLimit ≤ (s.link n).missCount) :
    exec .beaconLoss s = .next { s.enterFailed n .beaconLoss with work := ws } := by
  have hperform : s.perform (.beaconLoss n) = s.enterFailed n .beaconLoss := by
    simp [State.perform, State.loseBeacons, hs, hm]
  rw [← State.advance_dues _ hws, ← hperform]
  exact congrArg Host.Outcome.next (State.resolve_head hw rfl)

end Rows

/-- Settles O43: the row fails the link, and the round of moves of `State.PoolOk.movedOut_redispatched` says where each
of its queued frames goes. -/
theorem failingLinksEnterFailed : Obligations.FailingLinksEnterFailed := by
  intro s n ws c reason hpool hok hws hdue
  have hexec : exec c s = .next { s.enterFailed n reason with work := ws } := by
    obtain ⟨rfl, rfl, hw, hs⟩ | ⟨rfl, rfl, hw, hs⟩ | ⟨rfl, rfl, hw, hs, hm⟩ := hdue
    · exact exec_openTimeout_of_due hw hws hs
    · exact exec_blockHoldExpiry_of_due hw hws hs
    · exact exec_beaconLoss_of_due hw hws hs hm
  have k := hpool.movedOut_redispatched (n := n) reason hok rfl
  have hlook := State.enterFailed_lookup (n := n) reason hpool hok
  have hroute (o : Option Frame) : State.tableRoute { s.enterFailed n reason with work := ws } o =
      (s.leaving n (.failed reason)).tableRoute o := State.tableRoute_congr hlook o
  have hlookt (d : NodeId) : State.lookup { s.enterFailed n reason with work := ws } d =
      (s.leaving n (.failed reason)).lookup d := hlook d
  have hdest {g : Tag} {f : Frame} (hg : g ∈ (s.queuesOf n).all) (hf : s.frame g = some f) :
      (s.redispatched n reason).frame g = some ((s.leaving n (.failed reason)).dispatched
        ((s.leaving n (.failed reason)).sheltered (s.queuesOf n).all) g f) :=
    (k.moved g hg).trans (congrArg (Option.map _) hf)
  have hleft {g : Tag} {f : Frame} (hf : s.frame g = some f) :
      (s.leaving n (.failed reason)).frame g = some f := hf
  refine ⟨_, hexec, ?_⟩
  simp only [hroute, hlookt]
  rw [State.enterFailed_eq reason hpool hok]
  refine ⟨?frame, s.routes.linkDropped_dropLink n, ?count, fun g f hg hf => ⟨fun hm => ?via, fun m hm hl => ?table⟩,
    fun m c hm => ?queues, fun homeless held hh hheld => ?lists, fun g hg => k.stayed g hg,
    s.timingLinkLost_of_parent n, s.timingLinkLost_of_not n⟩
  case frame =>
    conv_lhs => rw [k.pool_eq, k.intake_eq, State.timingLinkLost_reports, LinkRec.climbEnded_eq]
    simp only [← State.queuedCount_eq_zero]
    rfl
  case count => exact State.queuedCount_eq_zero.mpr (congrArg ClassQueues.all k.queuesOf_self)
  case via =>
    refine (hdest hg hf).trans (congrArg some (State.dispatched_of_not (State.tableRoute_of_via hm) fun h => ?_))
    have hmode := ((State.mem_homeless (hleft hf)).mp (State.sheltered_subset h)).2.1
    cases hm.symm.trans hmode
  case table =>
    exact (hdest hg hf).trans (congrArg some (State.dispatched_of_route ((State.tableRoute_eq_lookup hm).trans hl)))
  case queues =>
    refine (k.joined m c hm).trans (congrArg (_ ++ ·) (hpool.filter_all fun g f hf => ?_))
    rw [hf, Option.map_some, queuedAt_some, decide_eq_true_iff, State.dispatched_queued_iff, State.dispatched_cls,
      beq_iff_eq, and_comm]
  case lists =>
    obtain rfl : homeless = (s.leaving n (.failed reason)).homeless (s.queuesOf n).all := hh
    obtain rfl : held = (s.leaving n (.failed reason)).sheltered (s.queuesOf n).all := hheld
    refine ⟨?held, fun g f hg hf => ?sheltered, fun g f hg hnot hf => ?turned, ?backlog⟩
    case held =>
      refine k.held.trans (congrArg (_ ++ ·) (Eq.trans ?_ (State.filter_sheltered (hpool.nodup_all n))))
      refine List.filter_congr fun g hg => ?_
      obtain ⟨f, hf, -⟩ := hpool.queuedOn_of_mem_all hg
      rw [hf]
      exact State.heldEntry_dispatched hf
    case sheltered =>
      have hall := (List.mem_filter.mp (State.sheltered_subset hg)).1
      exact (hdest hall hf).trans (congrArg some (State.dispatched_of_held (State.route_of_sheltered hf hg) hg))
    case turned =>
      obtain ⟨hall, hm, hl⟩ := (State.mem_homeless (hleft hf)).mp hg
      exact (hdest hall hf).trans
        (congrArg some (State.dispatched_of_not ((State.tableRoute_eq_lookup hm).trans hl) hnot))
    case backlog =>
      refine k.backlog.trans (congrArg (fun gs => _ ++ List.map _ gs) (List.filter_congr fun g hg => ?_))
      obtain ⟨f, hf, -⟩ := hpool.queuedOn_of_mem_all hg
      rw [hf]
      refine (State.releasingEntry_dispatched (hleft hf) hg).trans ?_
      rw [hleft hf]

end Sys2Proof.Machine
end

section
/-!
PROOF. The re-evaluation of the held list (R31): each held tag, one after another, goes to the queue its lookup names or
stays on the list.
-/

namespace Sys2Proof.Machine

/-! ### One held frame -/

/-- The entry of a held frame after a re-evaluation. -/
def State.rehoused (s : State) (o : Option Frame) : Option Frame :=
  o.map fun f => match s.lookup f.dest with
    | some m => { f with place := .queued m, budget := some (f.budget.getD (s.link m).defaultBudget) }
    | none => f

section One
variable (s : State) (g : Tag)

theorem State.reevaluateOne_of_free (hf : s.frame g = none) : s.reevaluateOne g = s := by
  simp [State.reevaluateOne, hf]

theorem State.reevaluateOne_of_stays {f : Frame} (hf : s.frame g = some f) (hl : s.lookup f.dest = none) :
    s.reevaluateOne g = s := by
  simp [State.reevaluateOne, hf, hl]

theorem State.reevaluateOne_of_moves {f : Frame} {m : LinkIx} (hf : s.frame g = some f)
    (hl : s.lookup f.dest = some m) :
    s.reevaluateOne g = ((s.unhold g).setFrame g (s.rehoused (s.frame g))).pushTail m f.cls g := by
  simp [State.reevaluateOne, State.rehoused, hf, hl]

theorem State.reevaluateOne_frame (x : Tag) : (s.reevaluateOne g).frame x =
    if g = x then s.rehoused (s.frame g) else s.frame x := by
  cases hf : s.frame g with
  | none =>
    rw [State.reevaluateOne_of_free s g hf]
    split
    · subst x; exact hf
    · rfl
  | some f =>
    cases hl : s.lookup f.dest with
    | none =>
      rw [State.reevaluateOne_of_stays s g hf hl]
      split
      · subst x; simp [State.rehoused, hl, hf]
      · rfl
    | some m =>
      rw [State.reevaluateOne_of_moves s g hf hl, hf]
      exact bankGet_bankPut ..

theorem State.reevaluateOne_heldList : (s.reevaluateOne g).pool.heldList =
    s.pool.heldList.filter fun x => x != g || staysHeld s (s.frame g) := by
  cases hf : s.frame g with
  | none => simp [State.reevaluateOne_of_free s g hf, staysHeld]
  | some f =>
    cases hl : s.lookup f.dest with
    | none => simp [State.reevaluateOne_of_stays s g hf hl, staysHeld, hl]
    | some m =>
      rw [State.reevaluateOne_of_moves s g hf hl]
      simp [staysHeld, hl, State.unhold, State.pushTail, State.setFrame]

theorem State.reevaluateOne_get (m : LinkIx) (c : TrafficClass) : ((s.reevaluateOne g).queuesOf m).get c =
    (s.queuesOf m).get c ++ if goesTo s (s.frame g) m c then [g] else [] := by
  cases hf : s.frame g with
  | none => simp [State.reevaluateOne_of_free s g hf, goesTo]
  | some f =>
    cases hl : s.lookup f.dest with
    | none => simp [State.reevaluateOne_of_stays s g hf hl, goesTo, hl]
    | some k =>
      rw [State.reevaluateOne_of_moves s g hf hl, State.pushTail_get]
      by_cases hk : k = m <;> by_cases hc : f.cls = c <;> simp [goesTo, hl, hk, hc] <;> rfl

theorem State.reevaluateOne_lookup (d : NodeId) : (s.reevaluateOne g).lookup d = s.lookup d := by
  obtain ⟨_, _, _, he⟩ := s.reevaluateOne_pool g
  rw [he]
  exact State.lookup_congr rfl rfl (fun _ => ⟨rfl, rfl⟩) d

theorem State.reevaluateOne_link (m : LinkIx) : (s.reevaluateOne g).link m = s.link m := by
  obtain ⟨_, _, _, he⟩ := s.reevaluateOne_pool g
  rw [he]
  rfl

end One

/-! ### The whole list -/

/-- `t` is `s` after the held tags `ts` have been re-evaluated, one after another. -/
structure State.Rehoused (s t : State) (ts : List Tag) : Prop where
  met : ∀ g ∈ ts, t.frame g = s.rehoused (s.frame g)
  others : ∀ g, g ∉ ts → t.frame g = s.frame g
  list : t.pool.heldList = s.pool.heldList.filter fun g => !ts.contains g || staysHeld s (s.frame g)
  queues : ∀ m c, (t.queuesOf m).get c = (s.queuesOf m).get c ++ ts.filter fun g => goesTo s (s.frame g) m c

section Whole
variable {s t u : State} {g : Tag} {ts : List Tag}

theorem State.rehoused_nil : s.Rehoused s [] := by constructor <;> simp

/-- A re-evaluation begins with its first tag. -/
theorem State.Rehoused.cons (hu : s.reevaluateOne g = u) (hg : g ∉ ts) (k : u.Rehoused t ts) :
    s.Rehoused t (g :: ts) := by
  have hframe (x : Tag) : u.frame x = if g = x then s.rehoused (s.frame g) else s.frame x :=
    hu ▸ s.reevaluateOne_frame g x
  have hlook (d : NodeId) : u.lookup d = s.lookup d := hu ▸ s.reevaluateOne_lookup g d
  have hlink (m : LinkIx) : u.link m = s.link m := hu ▸ s.reevaluateOne_link g m
  have hnew (o : Option Frame) : u.rehoused o = s.rehoused o := by simp only [State.rehoused, hlook, hlink]
  have hstays (o : Option Frame) : staysHeld u o = staysHeld s o := by simp only [staysHeld, hlook]
  have hgoes (o : Option Frame) (m : LinkIx) (c : TrafficClass) : goesTo u o m c = goesTo s o m c := by
    simp only [goesTo, hlook]
  have hrest {x : Tag} (hx : x ≠ g) : u.frame x = s.frame x := (hframe x).trans (if_neg hx.symm)
  refine ⟨fun x hx => ?met, fun x hx => ?others, ?list, fun m c => ?queues⟩
  case met =>
    by_cases hxt : x ∈ ts
    · rw [k.met x hxt, hnew, hrest (ne_of_mem_of_not_mem hxt hg)]
    · obtain rfl : x = g := (List.mem_cons.mp hx).resolve_right hxt
      rw [k.others x hxt, hframe, if_pos rfl]
  case others =>
    obtain ⟨hxg, hxt⟩ := not_or.mp (mt List.mem_cons.mpr hx)
    rw [k.others x hxt, hrest hxg]
  case list =>
    rw [k.list, ← hu, s.reevaluateOne_heldList g, List.filter_filter, hu]
    refine List.filter_congr fun x _ => ?_
    rw [hstays]
    by_cases hx : x = g
    · subst hx
      simp [hg]
    · simp [hx, hrest hx]
  case queues =>
    have hsame : (ts.filter fun x => goesTo u (u.frame x) m c) = ts.filter fun x => goesTo s (s.frame x) m c :=
      List.filter_congr fun x hx => by rw [hgoes, hrest (ne_of_mem_of_not_mem hx hg)]
    rw [k.queues, hsame, ← hu, s.reevaluateOne_get g, List.append_assoc, List.filter_cons]
    split <;> rfl

theorem State.rehoused_foldl (hd : ts.Nodup) : s.Rehoused (ts.foldl (fun s g => s.reevaluateOne g) s) ts := by
  induction ts generalizing s with
  | nil => exact State.rehoused_nil
  | cons g ts ih => exact (ih (List.nodup_cons.mp hd).2).cons rfl (List.nodup_cons.mp hd).1

theorem State.reevaluate_eq (s : State) : s.reevaluate = { s with pool := { s.pool with
    entries := s.reevaluate.pool.entries
    queues := s.reevaluate.pool.queues
    heldList := s.reevaluate.pool.heldList } } := by
  obtain ⟨e, q, h, he⟩ := s.reevaluate_pool
  rw [he]

theorem State.reevaluate_of_nil (h : s.pool.heldList = []) : s.reevaluate = s := by simp [State.reevaluate, h]

/-- R31: what a re-evaluation made in `u` comes to, seen from `s` with the same pool and the same default budgets, and
from any later state with the pool and the lookups it leaves. -/
theorem State.PoolOk.reevaluated (h : s.PoolOk) (hu : u.pool = s.pool)
    (hb : ∀ m, (u.link m).defaultBudget = (s.link m).defaultBudget) (ht : t.pool = u.reevaluate.pool)
    (hl : ∀ d, t.lookup d = u.lookup d) :
    s.Reevaluated t ∧ ∀ g, g ∉ s.pool.heldList → t.frame g = s.frame g := by
  have k : u.Rehoused u.reevaluate u.pool.heldList := State.rehoused_foldl (hu ▸ h.nodup_held)
  have hframe (g : Tag) : u.frame g = s.frame g := State.frame_congr hu g
  have hlast (g : Tag) : t.frame g = u.reevaluate.frame g := State.frame_congr ht g
  have hqueues (m : LinkIx) : t.queuesOf m = u.reevaluate.queuesOf m := by rw [State.queuesOf, ht, State.queuesOf]
  have hfirst (m : LinkIx) : u.queuesOf m = s.queuesOf m := by rw [State.queuesOf, hu, State.queuesOf]
  have hmet {g : Tag} {f : Frame} (hg : g ∈ s.pool.heldList) (hf : s.frame g = some f) :
      t.frame g = u.rehoused (some f) := by
    rw [hlast, k.met g (hu ▸ hg), hframe, hf]
  refine ⟨⟨fun g f m hg hf hm => ?moved, fun g f hg hf hn => ?stayed, ?list, fun m c => ?queues⟩, fun g hg => ?others⟩
  case moved =>
    rw [hmet hg hf]
    simp [State.rehoused, ← hl, hm, hb]
  case stayed =>
    rw [hmet hg hf]
    simp [State.rehoused, ← hl, hn]
  case list =>
    rw [ht, k.list, hu]
    refine List.filter_congr fun g hg => ?_
    simp [hg, hframe, staysHeld, hl]
  case queues =>
    rw [hqueues, k.queues, hfirst, hu]
    simp only [hframe, goesTo, hl]
  case others => rw [hlast, k.others g (hu ▸ hg), hframe]

end Whole

end Sys2Proof.Machine
end

section
/-!
PROOF. A beacon at the Timing Unit (R155 to R158, R160): its sighting, the step out of SEEKING, the correction or the
outlier in LOCKED, and the return from HOLDOVER.
-/

namespace Sys2Proof.Machine

/-! ### The offset and the best sighting -/

/-- R156: the offset is the one number of the range that agrees with the difference of the times. -/
theorem offsetOf_eq {receive transmit propagation nominal : Nat} {o : Int}
    (hmod : (o - ((receive : Int) - (transmit + propagation : Nat))) % (nominal : Int) = 0)
    (hlo : -((nominal : Int) / 2) ≤ o) (hhi : o < (nominal : Int) / 2) :
    offsetOf receive transmit propagation nominal = o := by
  have hdvd : (nominal : Int) ∣
      (o + nominal / 2) - ((receive : Int) - ((transmit : Int) + propagation) + nominal / 2) := by
    have h := Int.dvd_of_emod_eq_zero hmod
    rwa [Nat.cast_add, ← add_sub_add_right_eq_sub _ _ ((nominal : Int) / 2)] at h
  have hsame : ((receive : Int) - ((transmit : Int) + propagation) + nominal / 2) % nominal =
      (o + nominal / 2) % nominal := Int.modEq_iff_dvd.mpr hdvd
  have hrange : (o + nominal / 2) % nominal = o + nominal / 2 := Int.emod_eq_of_lt (by omega) (by omega)
  simp only [offsetOf, hsame, hrange]
  omega

/-- R155: a sighting may be followed, where its link is usable. -/
theorem State.eligible_iff {s : State} {n : LinkIx} {g : Sighting} :
    s.eligible n g = true ↔ g.depth ≤ 13 ∧ g.holdover = false ∧ (s.link n).usable = true := by
  rw [State.eligible, Bool.and_eq_true, Bool.and_eq_true, decide_eq_true_iff, Bool.not_eq_true', and_assoc]
  rfl

/-- One place of the search for the best sighting. -/
def State.better (s : State) (best : Option (LinkIx × Sighting)) (n : LinkIx) : Option (LinkIx × Sighting) :=
  match bankGet s.timing.sightings n, best with
  | some g, none => if s.eligible n g then some (n, g) else none
  | some g, some (m, b) => if s.eligible n g ∧ g.depth < b.depth then some (n, g) else some (m, b)
  | none, best => best

section Best
variable {s : State} {m : LinkIx} {y : Sighting}

theorem State.bestSighting_eq (s : State) : s.bestSighting = (List.finRange 16).foldl s.better none := rfl

/-- Up to link `m` only deeper sightings were met. -/
theorem State.better_before (hmin : ∀ i z, bankGet s.timing.sightings i = some z → s.eligible i z = true →
    y.depth < z.depth ∨ y.depth = z.depth ∧ m ≤ i) (ts : List LinkIx) :
    ∀ best : Option (LinkIx × Sighting), (∀ i ∈ ts, i < m) → (∀ b, best = some b → y.depth < b.2.depth) →
      ∀ b, ts.foldl s.better best = some b → y.depth < b.2.depth := by
  induction ts with
  | nil => intro best _ hb; exact hb
  | cons i ts ih =>
    intro best hlt hbest
    refine ih (s.better best i) (fun j hj => hlt j (List.mem_cons_of_mem _ hj)) fun b hb => ?_
    have hi : i < m := hlt i List.mem_cons_self
    have hdeep {z : Sighting} (hz : bankGet s.timing.sightings i = some z) (he : s.eligible i z = true) :
        y.depth < z.depth := (hmin i z hz he).resolve_right fun h => absurd hi (Fin.not_lt.mpr h.2)
    unfold State.better at hb
    split at hb
    · rename_i z hz
      split at hb
      · cases hb; exact hdeep hz ‹_›
      · cases hb
    · rename_i z k b' hz
      split at hb
      · rename_i he
        cases hb; exact hdeep hz he.1
      · cases hb; exact hbest _ rfl
    · exact hbest b hb

/-- After link `m` no lower sighting is met. -/
theorem State.better_after (hmin : ∀ i z, bankGet s.timing.sightings i = some z → s.eligible i z = true →
    y.depth < z.depth ∨ y.depth = z.depth ∧ m ≤ i) (ts : List LinkIx) :
    ts.foldl s.better (some (m, y)) = some (m, y) := by
  induction ts with
  | nil => rfl
  | cons i ts ih =>
    have hkeep : s.better (some (m, y)) i = some (m, y) := by
      unfold State.better
      cases hz : bankGet s.timing.sightings i with
      | none => rfl
      | some z =>
        refine if_neg fun h => ?_
        have := hmin i z hz h.1
        omega
    rw [List.foldl_cons, hkeep, ih]

/-- R157: the eligible sighting of the lowest depth, the lowest link among equals, is the one chosen. -/
theorem State.bestSighting_of_least (hy : bankGet s.timing.sightings m = some y) (he : s.eligible m y = true)
    (hmin : ∀ i z, bankGet s.timing.sightings i = some z → s.eligible i z = true →
      y.depth < z.depth ∨ y.depth = z.depth ∧ m ≤ i) : s.bestSighting = some (m, y) := by
  obtain ⟨before, after, hsplit⟩ := List.append_of_mem (List.mem_finRange m)
  have hlt : ∀ i ∈ before, i < m := fun i hi => by
    have hp : (before ++ m :: after).Pairwise (· < ·) := hsplit ▸ List.pairwise_lt_finRange 16
    exact (List.pairwise_append.mp hp).2.2 i hi m List.mem_cons_self
  have hbefore := State.better_before hmin before none hlt nofun
  have hm : s.better (before.foldl s.better none) m = some (m, y) := by
    cases hb : before.foldl s.better none with
    | none => simp [State.better, hy, he]
    | some b => simp [State.better, hy, he, hbefore b hb]
  rw [State.bestSighting_eq, hsplit, List.foldl_append, List.foldl_cons, hm, State.better_after hmin]

end Best

/-! ### A beacon of a usable link -/

/-- R155: the sighting is kept. -/
def State.sighted (s : State) (n : LinkIx) (x : Sighting) : State :=
  { s with timing := { s.timing with sightings := bankPut s.timing.sightings n (some x) } }

section Beacon
variable {s : State} {n p : LinkIx} {source node : NodeId} {x : Sighting} {depth : Nat}

/-- R153, R155: the root takes no beacon. -/
theorem State.timingBeacon_of_root (h : s.timing.role = .root ∨ s.timing.state = .root) :
    s.timingBeacon source x = s := by
  unfold State.timingBeacon
  split
  · rfl
  · rw [if_pos h.symm]

variable (hn : s.usableLinkOf source = some n) (hr : s.timing.role = .follower)
include hn hr

theorem State.timingBeacon_of_seeking (hs : s.timing.state = .seeking) : s.timingBeacon source x =
    if s.eligible n x then (s.sighted n x).seekingBeacon else s.sighted n x := by
  simp [State.timingBeacon, hn, hr, hs, State.sighted, State.eligible, State.link]

theorem State.timingBeacon_of_locked (hs : s.timing.state = .locked p node depth) : s.timingBeacon source x =
    if p = n ∧ node = source then (s.sighted n x).lockedBeacon p node depth x else s.sighted n x := by
  simp [State.timingBeacon, hn, hr, hs, State.sighted]

theorem State.timingBeacon_of_holdover (hs : s.timing.state = .holdover p node depth) : s.timingBeacon source x =
    if p = n ∧ node = source then (s.sighted n x).holdoverBeacon p node x else s.sighted n x := by
  simp [State.timingBeacon, hn, hr, hs, State.sighted]

end Beacon

/-! ### The parent's beacon (R158, R160) -/

section Parent
variable {s : State} {p : LinkIx} {node : NodeId} {x : Sighting} {depth : Nat} {o : Int}

theorem State.lockedBeacon_of_unfit (h : 13 < x.depth ∨ x.holdover = true) : s.lockedBeacon p node depth x = s :=
  if_pos h

theorem State.holdoverBeacon_of_unfit (h : 13 < x.depth ∨ x.holdover = true) : s.holdoverBeacon p node x = s :=
  if_pos h

/-- R158: the parent's beacon was heard in LOCKED, and its depth gives the own one. -/
def State.deepened (s : State) (p : LinkIx) (node : NodeId) (depth : Nat) (x : Sighting) : State :=
  { s with
    timing := { s.timing with heard := true, state := .locked p node (x.depth + 1) }
    reports := { s.reports with
      timingLatch := if x.depth + 1 = depth then s.reports.timingLatch else some ⟨.locked p node (x.depth + 1)⟩ } }

theorem State.deepened_eq (hs : s.timing.state = .locked p node depth) :
    (if x.depth + 1 ≠ depth then
      ({ s with timing := { s.timing with heard := true } }).setTiming (.locked p node (x.depth + 1))
    else { s with timing := { s.timing with heard := true } }) = s.deepened p node depth x := by
  by_cases hd : x.depth + 1 = depth <;> simp [State.deepened, State.setTiming, hd, hs]

theorem State.lockedBeacon_eq (hs : s.timing.state = .locked p node depth)
    (h : ¬ (13 < x.depth ∨ x.holdover = true))
    (ho : offsetOf x.receiveOffset x.offset s.timing.propagation s.nominal = o) :
    s.lockedBeacon p node depth x = { s.deepened p node depth x with
      timing := if 500 < o.natAbs then { (s.deepened p node depth x).timing with outliers := s.timing.outliers + 1 }
        else { (s.deepened p node depth x).timing with
          outliers := 0, adjust := clampInt (-8) 8 (s.timing.adjust + correction o) } } := by
  have hbound : Config.outlierBound < (o.natAbs : Int) ↔ 500 < o.natAbs := by
    simp only [Config.outlierBound]; omega
  have hoff : offsetOf x.receiveOffset x.offset (s.deepened p node depth x).timing.propagation
      (s.deepened p node depth x).nominal = o := ho
  refine (if_neg h).trans ?_
  simp only [State.deepened_eq hs, hoff, hbound]
  split <;> rfl

/-- R160: in HOLDOVER the parent's beacon returns the node to LOCKED. -/
theorem State.holdoverBeacon_of_fit (h : ¬ (13 < x.depth ∨ x.holdover = true))
    (ho : offsetOf x.receiveOffset x.offset s.timing.propagation s.nominal = o) :
    s.holdoverBeacon p node x = { s with
      timing := { s.timing with
        heard := true, state := .locked p node (x.depth + 1), outliers := 0, silence := 0, holdover := 0
        adjust := correction o }
      reports := { s.reports with timingLatch := some ⟨.locked p node (x.depth + 1)⟩ } } := by
  subst ho
  exact if_neg h

end Parent

/-! ### The step out of SEEKING (R157) -/

section Step
variable {s : State} {m : LinkIx} {y : Sighting} {E : Nat}

/-- R157: the elapsed time, from a receive time in the current superframe. -/
theorem State.elapsedSince_of_current (h : y.receiveSuperframe = s.timing.number.extractLsb' 0 8)
    (ht : y.receiveOffset + E = s.timing.timebase) : s.elapsedSince y = some E := by
  have hstart : s.receiveStart y.receiveSuperframe = some s.timing.epoch := if_pos h.symm
  have hle : s.timing.epoch + y.receiveOffset ≤ s.timing.epoch + s.timing.timebase := by omega
  rw [State.elapsedSince, hstart]
  refine (if_pos hle).trans (congrArg some ?_)
  omega

/-- R157: the step to the best sighting, with E as stated or, where it is not, the free value (log entry 5). -/
theorem State.seekingBeacon_of_best (hb : s.bestSighting = some (m, y))
    (hE : s.elapsedSince y = some E ∨ s.elapsedSince y = none ∧ E = Config.unstatedElapsed s.freeIndex) :
    s.seekingBeacon =
      ({ s with freeIndex := if s.elapsedSince y = none then s.freeIndex + 1 else s.freeIndex }).stepTo m y E := by
  obtain h | ⟨h, rfl⟩ := hE <;> simp [State.seekingBeacon, hb, h]

end Step

end Sys2Proof.Machine
end

section
/-!
PROOF. O28: the claims of the three control kinds, at the Link Table, the Route Table and the Timing Unit.
-/

namespace Sys2Proof.Machine

/-! ### The claim of a consumed frame -/

/-- What a claim leaves that consumes its frame, `v` being the state its judging leaves (R120, R167). -/
def State.consumed (v : State) (a : Nat) (d : List Byte) : State :=
  State.issue { v with
    classifier := .idle
    path := { v.path with slot := .claimed a d true }
    work := v.outlierDue.map Work.due } [.write .rewrite a (overlay d 6 [0x11, 0, 0xFF, 0xFF])]

theorem State.consumed_all (v : State) (a : Nat) (d : List Byte) :
    (v.consumed a d).path.queue ++ (v.consumed a d).path.tails =
      v.path.queue ++ v.path.tails ++ [.write .rewrite a (overlay d 6 [0x11, 0, 0xFF, 0xFF])] :=
  MemoryPath.fill_all ..

theorem State.exec_claim_of_consumed {s v : State} {a b l k : Nat} {d h body : List Byte} (hq : s.quiet = true)
    (hroom : s.claimRoom b = true) (hslot : s.path.slot = .deciding a d (k + 1))
    (hc : s.classifier = .deciding b l (.ready h body)) (hj : s.judge d b l h body = (v, .consumed)) :
    exec .claim s = .next (v.consumed a d) := by
  have hclaim : s.claim = v.consumed a d := by
    simp only [State.claim, hslot, hc, hroom, hj, if_true]
    rfl
  exact (congrArg (fun x : State => Host.Outcome.next x.claim) (State.settle_of_quiet hq)).trans
    (congrArg Host.Outcome.next hclaim)

/-! ### Whom a frame concerns -/

section Kinds
variable {s : State} {d h body : List Byte} {b l : Nat}

theorem State.judge_of_beacon (hk : hdrKind h = 2) : s.judge d b l h body = (s.takeBeacon d h body, .consumed) :=
  if_pos hk

theorem State.judge_of_probe (hk : hdrKind h = 3) :
    s.judge d b l h body = (if s.addressed h then s.probeReceived (hdrSource h) else s, .consumed) := by
  simp [State.judge, hk, kindBeacon, kindProbe]

theorem State.judge_of_reply (hk : hdrKind h = 4) :
    s.judge d b l h body = (if s.addressed h then s.replyReceived (hdrSource h) else s, .consumed) := by
  simp [State.judge, hk, kindBeacon, kindProbe, kindReply]

theorem State.addressed_iff : s.addressed h = true ↔
    s.identifies (hdrSource h) = true ∧ (hdrDest h = s.path.ownId ∨ hdrDest h = 0xFFFF) := by
  simp [State.addressed, nodeAll]

end Kinds

/-- The first place whose value meets a test. -/
theorem bankFind_of_first {α : Type} {k : Nat} {p : Fin k → α → Bool} {b : Bank α k} {i : Fin k}
    (hi : p i (bankGet b i) = true) (hfirst : ∀ j, j < i → p j (bankGet b j) = false) : bankFind p b = some i := by
  refine List.find?_eq_some_iff_append.mpr ⟨hi, ?_⟩
  obtain ⟨before, after, hsplit⟩ := List.append_of_mem (List.mem_finRange i)
  refine ⟨before, after, hsplit, fun j hj => ?_⟩
  have hp : (before ++ i :: after).Pairwise (· < ·) := hsplit ▸ List.pairwise_lt_finRange k
  have hji : j < i := (List.pairwise_append.mp hp).2.2 j hj i List.mem_cons_self
  exact Bool.not_eq_true' _ ▸ hfirst j hji

theorem State.neighbour_of_linkOf {s : State} {node : NodeId} {n : LinkIx} (h : s.linkOf node = some n) :
    (s.link n).neighbour = some node := by
  have hholds : (s.link n).holds node = true := bankFind_some h
  obtain ⟨_, hn⟩ := Bool.and_eq_true_iff.mp hholds
  exact eq_of_beq hn

/-! ### Entry to ACTIVE (R46, R49 to R51) -/

/-- R51: the pending replies with a node id added. -/
def repliesWith (rs : List NodeId) (node : NodeId) : List NodeId :=
  if node ∈ rs then rs else if rs.length < 4 then rs ++ [node] else rs.tail ++ [node]

/-- The state with the pending replies set. -/
def State.setReplies (s : State) (rs : List NodeId) : State :=
  { s with linkTable := { s.linkTable with pendingReplies := rs } }

theorem State.addReply_eq (s : State) (node : NodeId) :
    s.addReply node = s.setReplies (repliesWith s.linkTable.pendingReplies node) := by
  by_cases hmem : node ∈ s.linkTable.pendingReplies
  · simp [State.addReply, State.setReplies, repliesWith, hmem]
  · by_cases hroom : s.linkTable.pendingReplies.length < 4 <;>
      simp [State.addReply, State.setReplies, repliesWith, hmem, hroom, Config.pendingReplyLimit]

/-- R46, R65: the record on entry to ACTIVE toward `node`, with an attention bit. -/
def LinkRec.openedTo (l : LinkRec) (node : NodeId) (kind : Byte) : LinkRec :=
  { l with
    neighbour := some node
    state := .active, estimate := 16384, rate := l.floor, pace := 0, undelivered := 0,
    missCount := 0, heard := false, climb := none, climbing := false, planPair := none,
    timingPair := none, lastDelivered := false, lastRetried := false,
    cost := costOf l.floor 16384,
    sticky := { l.sticky with costSaturated := l.sticky.costSaturated || costOf l.floor 16384 == 65535 },
    attention := l.attention ||| kind }

/-- R46, R31: link `n` enters ACTIVE toward `node`. -/
def State.openedTo (s : State) (n : LinkIx) (node : NodeId) (kind : Byte) : State :=
  s.setLink n ((s.link n).openedTo node kind)

section Opening
variable {s : State} {node : NodeId} {n : LinkIx}

theorem State.enterActive_eq (hn : (s.link n).neighbour = some node) (k : Attention) :
    s.enterActive n k = (s.openedTo n node k.bit).reevaluate := by
  refine congrArg State.reevaluate (congrArg (s.setLink n) ?_)
  rw [LinkRec.openedTo, ← hn]
  rfl

theorem State.probeReceived_of_probing (hl : s.linkOf node = some n) (hp : ∃ timer, (s.link n).state = .probing timer) :
    s.probeReceived node = (s.openedTo n node 1).reevaluate.addReply node := by
  obtain ⟨timer, hp⟩ := hp
  simp only [State.probeReceived, hl, hp, State.enterActive_eq (State.neighbour_of_linkOf hl), Attention.bit]

theorem State.replyReceived_of_probing (hl : s.linkOf node = some n) (hp : ∃ timer, (s.link n).state = .probing timer) :
    s.replyReceived node = (s.openedTo n node 1).reevaluate := by
  obtain ⟨timer, hp⟩ := hp
  simp only [State.replyReceived, hl, hp, State.enterActive_eq (State.neighbour_of_linkOf hl), Attention.bit]

/-- R49: a PROBE of an unknown neighbour is adopted on the lowest EMPTY record. -/
theorem State.probeReceived_of_adopted (hl : s.linkOf node = none) (ha : s.linkTable.acceptUnsolicited = true)
    (he : (s.link n).state = .empty) (hfirst : ∀ m, m < n → (s.link m).state ≠ .empty) :
    s.probeReceived node = (s.openedTo n node 2).reevaluate.addReply node := by
  have hempty : s.emptyLink = some n :=
    bankFind_of_first (beq_iff_eq.mpr he) fun m hm => beq_eq_false_iff_ne.mpr (hfirst m hm)
  have hopen : ((s.setLink n { s.link n with neighbour := some node }).enterActive n .adopted) =
      (s.openedTo n node 2).reevaluate := by
    refine (State.enterActive_eq (node := node) (by simp) _).trans (congrArg State.reevaluate ?_)
    simp [State.openedTo, LinkRec.openedTo, Attention.bit, State.setLink, State.link, bankPut_bankPut]
  simp only [State.probeReceived, hl, ha, hempty, hopen, if_true]

theorem LinkRec.carrying_iff {l : LinkRec} :
    l.carrying = true ↔ l.state = .active ∨ (∃ hold, l.state = .blocked hold) ∨ l.state = .draining := by
  cases hs : l.state <;> simp [LinkRec.carrying, LinkRec.usable, hs]

/-- R51: a PROBE of a link that carries traffic asks for a reply alone. -/
theorem State.probeReceived_of_carrying (hl : s.linkOf node = some n) (hc : (s.link n).carrying = true) :
    s.probeReceived node = s.addReply node := by
  obtain hs | ⟨hold, hs⟩ | hs := LinkRec.carrying_iff.mp hc <;> simp only [State.probeReceived, hl, hs]

theorem State.probeReceived_of_closed (hl : s.linkOf node = some n)
    (hs : (s.link n).state = .silent ∨ ∃ r, (s.link n).state = .failed r) : s.probeReceived node = s := by
  obtain hs | ⟨r, hs⟩ := hs <;> simp only [State.probeReceived, hl, hs]

/-- R49: no link is adopted where the parameter forbids it or no record is EMPTY. -/
theorem State.probeReceived_of_unknown (hl : s.linkOf node = none)
    (hno : s.linkTable.acceptUnsolicited = false ∨ ∀ m, (s.link m).state ≠ .empty) : s.probeReceived node = s := by
  obtain hacc | hfull := hno
  · simp [State.probeReceived, hl, hacc]
  · have hempty : s.emptyLink = none := bankFind_none.mpr fun m => beq_eq_false_iff_ne.mpr (hfull m)
    simp [State.probeReceived, hl, hempty]

/-- R50: a PROBE_REPLY counts for a PROBING link alone. -/
theorem State.replyReceived_of_not_probing
    (h : ∀ m, s.linkOf node = some m → ∀ timer, (s.link m).state ≠ .probing timer) : s.replyReceived node = s := by
  unfold State.replyReceived
  split
  · split
    · exact absurd ‹_› (h _ ‹_› _)
    · rfl
  · rfl

/-- R31: held frames find their lookups in the state that the opening leaves. -/
theorem State.openedTo_reevaluated {t : State} (h : s.PoolOk) (kind : Byte)
    (ht : t.pool = (s.openedTo n node kind).reevaluate.pool) (hid : t.path.ownId = s.path.ownId)
    (hr : t.routes = s.routes) (hl : t.linkTable.links = (s.openedTo n node kind).linkTable.links) :
    s.Reevaluated t ∧ ∀ g, g ∉ s.pool.heldList → t.frame g = s.frame g := by
  have hlink (m : LinkIx) : t.link m = (s.openedTo n node kind).link m := congrArg (bankGet · m) hl
  refine h.reevaluated (u := s.openedTo n node kind) rfl (fun m => ?budget) ht
    (State.lookup_congr hid hr fun m => by simp [hlink])
  by_cases hm : n = m
  · subst hm
    simp [State.openedTo, LinkRec.openedTo]
  · simp [State.openedTo, State.link_setLink_other _ _ hm]

end Opening

/-! ### The claims of PROBE and PROBE_REPLY, and of a frame that concerns no link -/

section Claims
variable {s : State} {a b l k : Nat} {d h body : List Byte} {n : LinkIx} {kind : Byte}

/-- A PROBE or PROBE_REPLY that opens a link, as the Link Table takes it. -/
theorem State.judge_of_opening (hid : s.identifies (hdrSource h) = true)
    (hdest : hdrDest h = s.path.ownId ∨ hdrDest h = 0xFFFF)
    (hcase : (hdrKind h = 3 ∨ hdrKind h = 4) ∧ s.linkOf (hdrSource h) = some n ∧
          (∃ timer, (s.link n).state = .probing timer) ∧ kind = 1 ∨
        hdrKind h = 3 ∧ s.linkOf (hdrSource h) = none ∧ s.linkTable.acceptUnsolicited = true ∧
          (s.link n).state = .empty ∧ (∀ m, m < n → (s.link m).state ≠ .empty) ∧ kind = 2) :
    s.judge d b l h body = (((s.openedTo n (hdrSource h) kind).reevaluate).setReplies
      (if hdrKind h = 4 then s.linkTable.pendingReplies
        else repliesWith s.linkTable.pendingReplies (hdrSource h)), .consumed) := by
  have haddr : s.addressed h = true := State.addressed_iff.mpr ⟨hid, hdest⟩
  have hreplies : (s.openedTo n (hdrSource h) kind).reevaluate.linkTable.pendingReplies =
      s.linkTable.pendingReplies := by
    rw [State.reevaluate_eq]
    rfl
  obtain ⟨hk | hk, hl, hp, rfl⟩ | ⟨hk, hl, hacc, hempty, hfirst, rfl⟩ := hcase
  · rw [State.judge_of_probe hk, if_pos haddr, State.probeReceived_of_probing hl hp, State.addReply_eq, hreplies, hk]
    rfl
  · rw [State.judge_of_reply hk, if_pos haddr, State.replyReceived_of_probing hl hp, if_pos hk, State.setReplies,
      ← hreplies]
  · rw [State.judge_of_probe hk, if_pos haddr, State.probeReceived_of_adopted hl hacc hempty hfirst,
      State.addReply_eq, hreplies, hk]
    rfl

/-- R57, R93, R155: a beacon that names no carrying link is taken by no block. -/
theorem State.takeBeacon_of_unconcerned (h' : s.identifies (hdrSource h) = false ∨ s.linkOf (hdrSource h) = none ∨
    s.linkOf (hdrSource h) = some n ∧ (s.link n).carrying = false) : s.takeBeacon d h body = s := by
  obtain hid | hnone | ⟨hl, hcarry⟩ := h'
  · simp [State.takeBeacon, hid]
  · simp [State.takeBeacon, State.linkBeacon, State.learnBeacon, State.timingBeacon, State.usableLinkOf, hnone]
  · have husable : (s.link n).usable = false := (Bool.or_eq_false_iff.mp hcarry).1
    simp [State.takeBeacon, State.linkBeacon, State.learnBeacon, State.timingBeacon, State.usableLinkOf, hl, hcarry,
      husable]

/-- R2, R49, R50, R57: a control frame that concerns no link is consumed and changes nothing. -/
theorem State.judge_of_unconcerned (hk : hdrKind h = 2 ∨ hdrKind h = 3 ∨ hdrKind h = 4)
    (h' : s.identifies (hdrSource h) = false ∨
        hdrKind h = 2 ∧ s.linkOf (hdrSource h) = some n ∧ (s.link n).carrying = false ∨
        hdrKind h ≠ 2 ∧ hdrDest h ≠ s.path.ownId ∧ hdrDest h ≠ 0xFFFF ∨
        hdrKind h ≠ 2 ∧ s.linkOf (hdrSource h) = some n ∧
          ((s.link n).state = .silent ∨ (∃ r, (s.link n).state = .failed r) ∨
            hdrKind h = 4 ∧ (s.link n).carrying = true) ∨
        s.linkOf (hdrSource h) = none ∧
          (hdrKind h = 4 ∨ hdrKind h = 2 ∨ s.linkTable.acceptUnsolicited = false ∨
            ∀ m, (s.link m).state ≠ .empty)) :
    s.judge d b l h body = (s, .consumed) := by
  have haddr (hid : s.addressed h = true) := State.addressed_iff.mp hid
  obtain hk | hk | hk := hk
  · rw [State.judge_of_beacon hk, State.takeBeacon_of_unconcerned (n := n)]
    simp only [hk, ne_eq, not_true, false_and, false_or] at h'
    tauto
  · rw [State.judge_of_probe hk]
    split
    · obtain ⟨hid, hdest⟩ := haddr ‹_›
      simp [hk, hid] at h'
      obtain h' | ⟨hl, h'⟩ | ⟨hl, h'⟩ := h'
      · tauto
      · rw [State.probeReceived_of_closed hl h']
      · rw [State.probeReceived_of_unknown hl h']
    · rfl
  · rw [State.judge_of_reply hk]
    split
    · obtain ⟨hid, hdest⟩ := haddr ‹_›
      rw [State.replyReceived_of_not_probing]
      rintro m hm timer hs
      simp [hk, hid, hm] at h'
      obtain h' | ⟨rfl, h'⟩ := h'
      · tauto
      · simp [hs, LinkRec.carrying, LinkRec.usable] at h'
    · rfl

variable (hq : s.quiet = true) (hroom : s.claimRoom b = true) (hslot : s.path.slot = .deciding a d (k + 1))
  (hc : s.classifier = .deciding b l (.ready h body))
include hq hroom hslot hc

theorem State.claim_of_opening (hid : s.identifies (hdrSource h) = true)
    (hdest : hdrDest h = s.path.ownId ∨ hdrDest h = 0xFFFF)
    (hcase : (hdrKind h = 3 ∨ hdrKind h = 4) ∧ s.linkOf (hdrSource h) = some n ∧
          (∃ timer, (s.link n).state = .probing timer) ∧ kind = 1 ∨
        hdrKind h = 3 ∧ s.linkOf (hdrSource h) = none ∧ s.linkTable.acceptUnsolicited = true ∧
          (s.link n).state = .empty ∧ (∀ m, m < n → (s.link m).state ≠ .empty) ∧ kind = 2) :
      ∃ t, exec .claim s = .next t ∧
        t = { s with
          linkTable := { s.linkTable with
            links := t.linkTable.links
            pendingReplies :=
              if hdrKind h = 4 ∨ hdrSource h ∈ s.linkTable.pendingReplies then s.linkTable.pendingReplies
              else if s.linkTable.pendingReplies.length < 4 then s.linkTable.pendingReplies ++ [hdrSource h]
              else s.linkTable.pendingReplies.tail ++ [hdrSource h] }
          pool := { s.pool with entries := t.pool.entries, queues := t.pool.queues,
                                heldList := t.pool.heldList }
          classifier := .idle
          path := { s.path with slot := .claimed a d true, queue := t.path.queue, tails := t.path.tails }
          work := s.outlierDue.map Work.due } ∧
        t.path.queue ++ t.path.tails =
          s.path.queue ++ s.path.tails ++ [.write .rewrite a (overlay d 6 [0x11, 0, 0xFF, 0xFF])] ∧
        t.link n = (s.link n).openedTo (hdrSource h) kind ∧
        (∀ m, m ≠ n → t.link m = s.link m) ∧ (s.pool.heldList = [] → t.pool = s.pool) ∧
        (s.PoolOk → s.Reevaluated t ∧ ∀ g, g ∉ s.pool.heldList → t.frame g = s.frame g) := by
  have hreplies : (if hdrKind h = 4 ∨ hdrSource h ∈ s.linkTable.pendingReplies then s.linkTable.pendingReplies
      else if s.linkTable.pendingReplies.length < 4 then s.linkTable.pendingReplies ++ [hdrSource h]
      else s.linkTable.pendingReplies.tail ++ [hdrSource h]) =
      if hdrKind h = 4 then s.linkTable.pendingReplies
      else repliesWith s.linkTable.pendingReplies (hdrSource h) := by
    by_cases hk : hdrKind h = 4 <;> simp [hk, repliesWith]
  have hexec := State.exec_claim_of_consumed hq hroom hslot hc (State.judge_of_opening hid hdest hcase)
  obtain ⟨e, q, held, he⟩ := (s.openedTo n (hdrSource h) kind).reevaluate_pool
  refine ⟨_, hexec, ?state, ?queue, ?link, fun m hm => ?others, fun hnil => ?pool, fun hok => ?held⟩
  case state => rw [hreplies, he]; rfl
  case queue => rw [State.consumed_all, he]; rfl
  case link => rw [he]; exact State.link_setLink_same ..
  case others => rw [he]; exact State.link_setLink_other _ _ hm.symm
  case pool => rw [State.reevaluate_of_nil (s := s.openedTo n (hdrSource h) kind) hnil]; rfl
  case held =>
    refine State.openedTo_reevaluated hok kind rfl ?_ ?_ ?_ <;> rw [he] <;> rfl

theorem State.claim_of_carried (hk : hdrKind h = 3) (hid : s.identifies (hdrSource h) = true)
    (hl : s.linkOf (hdrSource h) = some n) (hdest : hdrDest h = s.path.ownId ∨ hdrDest h = 0xFFFF)
    (hcarry : (s.link n).carrying = true) :
    exec .claim s = .next
      ((s.setReplies (repliesWith s.linkTable.pendingReplies (hdrSource h))).consumed a d) := by
  refine State.exec_claim_of_consumed hq hroom hslot hc ?_
  rw [State.judge_of_probe hk, if_pos (State.addressed_iff.mpr ⟨hid, hdest⟩), ← State.addReply_eq,
    State.probeReceived_of_carrying hl hcarry]

/-- A control frame that concerns no link leaves everything but its own record (R2, R49, R50, R57). -/
theorem State.claim_of_unconcerned (hj : s.judge d b l h body = (s, .consumed)) (hout : s.outlierDue = []) :
    exec .claim s = .next (State.issue { s with
      classifier := .idle
      path := { s.path with slot := .claimed a d true } }
      [.write .rewrite a (overlay d 6 [0x11, 0, 0xFF, 0xFF])]) := by
  have hwork : s.outlierDue.map Work.due = s.work := by rw [hout, (State.quiet_iff.mp hq).1]; rfl
  rw [State.exec_claim_of_consumed hq hroom hslot hc hj, State.consumed, hwork]

end Claims

end Sys2Proof.Machine
end

section
/-!
PROOF. O28: the claim of a BEACON. The Link Table and the Route Table take it first; the Timing Unit sees the state that
they leave.
-/

namespace Sys2Proof.Machine

/-! ### The Timing Unit, whole -/

section Timing
variable {s : State} {n m p : LinkIx} {source node : NodeId} {x y : Sighting} {depth E : Nat}

theorem State.lockedBeacon_frame (x : Sighting) (hs : s.timing.state = .locked p node depth) :
    ∃ T L, s.lockedBeacon p node depth x =
      { s with timing := T, reports := { s.reports with timingLatch := L } } := by
  by_cases h : 13 < x.depth ∨ x.holdover = true
  · exact ⟨_, _, State.lockedBeacon_of_unfit h⟩
  · exact ⟨_, _, State.lockedBeacon_eq hs h rfl⟩

theorem State.holdoverBeacon_frame (s : State) (p : LinkIx) (node : NodeId) (x : Sighting) :
    ∃ T L, s.holdoverBeacon p node x =
      { s with timing := T, reports := { s.reports with timingLatch := L } } := by
  by_cases h : 13 < x.depth ∨ x.holdover = true
  · exact ⟨_, _, State.holdoverBeacon_of_unfit h⟩
  · exact ⟨_, _, State.holdoverBeacon_of_fit h rfl⟩

theorem State.seekingBeacon_frame (s : State) :
    ∃ T L F, s.seekingBeacon =
      { s with timing := T, reports := { s.reports with timingLatch := L }, freeIndex := F } := by
  unfold State.seekingBeacon
  split
  · exact ⟨_, _, _, rfl⟩
  · split <;> exact ⟨_, _, _, rfl⟩

theorem State.eligible_of_unfit (h : 13 < x.depth ∨ x.holdover = true) : s.eligible n x = false := by
  refine Bool.eq_false_iff.mpr fun he => ?_
  obtain ⟨hd, hh, _⟩ := State.eligible_iff.mp he
  simp [hh, hd.not_gt] at h

variable (hn : s.usableLinkOf source = some n)
include hn

/-- A beacon changes the timing fields and the notice alone; a free value is used only for a step out of SEEKING. -/
theorem State.timingBeacon_frame : ∃ T L F, s.timingBeacon source x =
      { s with timing := T, reports := { s.reports with timingLatch := L }, freeIndex := F } ∧
    (s.timing.state ≠ .seeking ∨ s.timing.role = .root ∨ 13 < x.depth ∨ x.holdover = true → F = s.freeIndex) := by
  cases hr : s.timing.role with
  | root => exact ⟨_, _, _, State.timingBeacon_of_root (.inl hr), fun _ => rfl⟩
  | follower =>
    cases hs : s.timing.state with
    | root => exact ⟨_, _, _, State.timingBeacon_of_root (.inr hs), fun _ => rfl⟩
    | seeking =>
      rw [State.timingBeacon_of_seeking hn hr hs]
      split
      · obtain ⟨T, L, F, hF⟩ := (s.sighted n x).seekingBeacon_frame
        refine ⟨T, L, F, hF, fun h => ?_⟩
        have := State.eligible_of_unfit (s := s) (n := n) (x := x) (by simpa using h)
        simp_all
      · exact ⟨_, _, _, rfl, fun _ => rfl⟩
    | locked p node depth =>
      rw [State.timingBeacon_of_locked hn hr hs]
      split
      · obtain ⟨T, L, hL⟩ := State.lockedBeacon_frame (s := s.sighted n x) x hs
        exact ⟨T, L, _, hL, fun _ => rfl⟩
      · exact ⟨_, _, _, rfl, fun _ => rfl⟩
    | holdover p node depth =>
      rw [State.timingBeacon_of_holdover hn hr hs]
      split
      · obtain ⟨T, L, hL⟩ := (s.sighted n x).holdoverBeacon_frame p node x
        exact ⟨T, L, _, hL, fun _ => rfl⟩
      · exact ⟨_, _, _, rfl, fun _ => rfl⟩

variable (hr : s.timing.role = .follower)
include hr

theorem State.timingBeacon_of_seeking_unfit (hs : s.timing.state = .seeking) (h : 13 < x.depth ∨ x.holdover = true) :
    s.timingBeacon source x = s.sighted n x := by
  rw [State.timingBeacon_of_seeking hn hr hs, State.eligible_of_unfit h]
  rfl

theorem State.timingBeacon_of_locked_unfit (hs : s.timing.state = .locked p node depth)
    (h : p ≠ n ∨ node ≠ source ∨ 13 < x.depth ∨ x.holdover = true) : s.timingBeacon source x = s.sighted n x := by
  rw [State.timingBeacon_of_locked hn hr hs]
  split
  · exact State.lockedBeacon_of_unfit (by tauto)
  · rfl

theorem State.timingBeacon_of_holdover_unfit (hs : s.timing.state = .holdover p node depth)
    (h : p ≠ n ∨ node ≠ source ∨ 13 < x.depth ∨ x.holdover = true) : s.timingBeacon source x = s.sighted n x := by
  rw [State.timingBeacon_of_holdover hn hr hs]
  split
  · exact State.holdoverBeacon_of_unfit (by tauto)
  · rfl

/-- R157: in SEEKING the node steps to the best of the sightings, the new one among them. -/
theorem State.timingBeacon_of_step (hs : s.timing.state = .seeking) (hx : x.depth ≤ 13) (hxh : x.holdover = false)
    (hu : (s.link n).usable = true) (hy : bankGet (bankPut s.timing.sightings n (some x)) m = some y)
    (hyd : y.depth ≤ 13) (hyh : y.holdover = false) (hm : (s.link m).usable = true)
    (hmin : ∀ i z, bankGet (bankPut s.timing.sightings n (some x)) i = some z → z.depth ≤ 13 → z.holdover = false →
      (s.link i).usable = true → y.depth < z.depth ∨ y.depth = z.depth ∧ m ≤ i)
    (hE : y.receiveSuperframe = s.timing.number.extractLsb' 0 8 ∧ y.receiveOffset + E = s.timing.timebase ∨
      s.elapsedSince y = some E ∨ s.elapsedSince y = none ∧ E = Config.unstatedElapsed s.freeIndex) :
    s.timingBeacon source x = ({ s.sighted n x with
      freeIndex := if s.elapsedSince y = none then s.freeIndex + 1 else s.freeIndex }).stepTo m y E := by
  have hE' : s.elapsedSince y = some E ∨ s.elapsedSince y = none ∧ E = Config.unstatedElapsed s.freeIndex :=
    hE.elim (fun h => .inl (State.elapsedSince_of_current h.1 h.2)) id
  have hbest : (s.sighted n x).bestSighting = some (m, y) :=
    State.bestSighting_of_least hy (State.eligible_iff.mpr ⟨hyd, hyh, hm⟩) fun i z hz he => by
      obtain ⟨hzd, hzh, hzu⟩ := State.eligible_iff.mp he
      exact hmin i z hz hzd hzh hzu
  rw [State.timingBeacon_of_seeking hn hr hs, if_pos (State.eligible_iff.mpr ⟨hx, hxh, hu⟩)]
  exact State.seekingBeacon_of_best hbest hE'

end Timing

/-! ### The Link Table and the Route Table -/

/-- R57, R134: the record of a link that carries traffic, once its neighbour's beacon is taken. -/
def LinkRec.beaconHeard (l : LinkRec) (t : TimingPair) (q : PlanPair) : LinkRec :=
  { l with
    heard := true
    missCount := 0
    timingPair := some t
    planPair := some q
    attention := if l.planPair = none ∨ l.planPair = some q then l.attention else l.attention ||| 128 }

theorem LinkRec.comparePlan_eq (l : LinkRec) (t : TimingPair) (q : PlanPair) :
    LinkRec.comparePlan { l with heard := true, missCount := 0, timingPair := some t } q = l.beaconHeard t q := by
  cases hp : l.planPair with
  | none => simp [LinkRec.comparePlan, LinkRec.beaconHeard, hp]
  | some r =>
    by_cases hr : r = q <;> simp [LinkRec.comparePlan, LinkRec.beaconHeard, LinkRec.attend, Attention.bit, hp, hr]

/-- The state after the Link Table has taken a beacon of link `n` with a body. -/
def State.beaconHeard (s : State) (n : LinkIx) (body : List Byte) : State :=
  s.setLink n ((s.link n).beaconHeard ⟨bodyDepth body, bodyHoldover body⟩ ⟨bodyGeneration body, bodyAnnounce body⟩)

/-- R93, R101: what the Route Table learns from it, and whether the held frames are re-evaluated. -/
def State.lesson (s : State) (n : LinkIx) (body : List Byte) : RouteTable × Bool :=
  RouteTable.learnAll s.path.ownId n (s.link n).cost (bodyEntries body) (s.routes, false)

/-- The state after the Route Table has taken it too, the pool being given. -/
def State.learnedWith (s : State) (n : LinkIx) (body : List Byte) (pool : Pool) : State :=
  { s.beaconHeard n body with routes := (s.lesson n body).1, pool := pool }

/-- R101: the same with the held frames re-evaluated where the Route Table asks for it. -/
def State.beaconLearned (s : State) (n : LinkIx) (body : List Byte) : State :=
  if (s.lesson n body).2 then (s.learnedWith n body s.pool).reevaluate else s.learnedWith n body s.pool

section Tables
variable {s : State} {n : LinkIx} {source : NodeId} {d h body : List Byte}

theorem State.linkBeacon_of_carrying (hl : s.linkOf source = some n) (hc : (s.link n).carrying = true) :
    s.linkBeacon source ⟨bodyDepth body, bodyHoldover body⟩ ⟨bodyGeneration body, bodyAnnounce body⟩ =
      s.beaconHeard n body := by
  simp only [State.linkBeacon, hl, hc, if_true, LinkRec.comparePlan_eq, State.beaconHeard]

theorem State.beaconHeard_link (s : State) (n : LinkIx) (body : List Byte) (m : LinkIx) :
    ((s.beaconHeard n body).link m).state = (s.link m).state ∧
      ((s.beaconHeard n body).link m).neighbour = (s.link m).neighbour ∧
      ((s.beaconHeard n body).link m).cost = (s.link m).cost ∧
      ((s.beaconHeard n body).link m).defaultBudget = (s.link m).defaultBudget := by
  by_cases hm : n = m
  · subst hm
    simp [State.beaconHeard, LinkRec.beaconHeard]
  · simp [State.beaconHeard, State.link_setLink_other _ _ hm]

theorem State.usableLinkOf_congr {t : State}
    (hl : ∀ m, (t.link m).state = (s.link m).state ∧ (t.link m).neighbour = (s.link m).neighbour) (node : NodeId) :
    t.usableLinkOf node = s.usableLinkOf node := by
  simp only [State.usableLinkOf, State.linkOf_congr hl, LinkRec.usable_congr (hl _).1]

theorem State.usableLinkOf_of_usable (hl : s.linkOf source = some n) (hu : (s.link n).usable = true) :
    s.usableLinkOf source = some n := by
  simp [State.usableLinkOf, hl, hu]

/-- R116: a beacon of a usable link, handed to the three blocks. -/
theorem State.takeBeacon_of_usable (hid : s.identifies (hdrSource h) = true) (hl : s.linkOf (hdrSource h) = some n)
    (hu : (s.link n).usable = true) : s.takeBeacon d h body =
      (s.beaconLearned n body).timingBeacon (hdrSource h) (sightingOf d body) := by
  have hcarry : (s.link n).carrying = true := by rw [LinkRec.carrying, hu]; rfl
  have husable : (s.beaconHeard n body).usableLinkOf (hdrSource h) = some n := by
    rw [State.usableLinkOf_congr fun m => ⟨(s.beaconHeard_link n body m).1, (s.beaconHeard_link n body m).2.1⟩]
    exact State.usableLinkOf_of_usable hl hu
  have hcost : ((s.beaconHeard n body).link n).cost = (s.link n).cost := (s.beaconHeard_link n body n).2.2.1
  rw [State.takeBeacon, if_pos hid, State.linkBeacon_of_carrying hl hcarry]
  simp only [State.learnBeacon, husable, hcost]
  rfl

/-- R57: a beacon of a DRAINING link, which only the Link Table takes. -/
theorem State.takeBeacon_of_draining (hid : s.identifies (hdrSource h) = true) (hl : s.linkOf (hdrSource h) = some n)
    (hd : (s.link n).state = .draining) : s.takeBeacon d h body = s.beaconHeard n body := by
  have hcarry : (s.link n).carrying = true := LinkRec.carrying_iff.mpr (.inr (.inr hd))
  have hunusable : (s.beaconHeard n body).usableLinkOf (hdrSource h) = none := by
    rw [State.usableLinkOf_congr fun m => ⟨(s.beaconHeard_link n body m).1, (s.beaconHeard_link n body m).2.1⟩]
    simp [State.usableLinkOf, hl, LinkRec.usable, hd]
  rw [State.takeBeacon, if_pos hid, State.linkBeacon_of_carrying hl hcarry]
  simp only [State.learnBeacon, hunusable, State.timingBeacon]

theorem State.beaconLearned_eq (s : State) (n : LinkIx) (body : List Byte) :
    ∃ e q g, s.beaconLearned n body =
      s.learnedWith n body { s.pool with entries := e, queues := q, heldList := g } := by
  unfold State.beaconLearned
  split
  · exact State.reevaluate_pool _
  · exact ⟨_, _, _, rfl⟩

theorem State.beaconLearned_pool (hno : (s.lesson n body).2 = false) : (s.beaconLearned n body).pool = s.pool := by
  rw [State.beaconLearned, hno]
  rfl

/-- R31, R101: the held frames find their lookups in the table that was learned. -/
theorem State.beaconLearned_reevaluated {t : State} (hok : s.PoolOk) (hyes : (s.lesson n body).2 = true)
    (ht : t.pool = (s.beaconLearned n body).pool) (hown : t.path.ownId = s.path.ownId)
    (hr : t.routes = (s.lesson n body).1) (hl : t.linkTable.links = (s.beaconHeard n body).linkTable.links) :
    s.Reevaluated t ∧ ∀ g, g ∉ s.pool.heldList → t.frame g = s.frame g := by
  have hlink (m : LinkIx) : t.link m = (s.beaconHeard n body).link m := congrArg (bankGet · m) hl
  refine hok.reevaluated (u := s.learnedWith n body s.pool) rfl
    (fun m => (s.beaconHeard_link n body m).2.2.2) ?_ (State.lookup_congr hown hr fun m => ?_)
  · rw [ht, State.beaconLearned, if_pos hyes]
  · rw [hlink]
    exact ⟨rfl, rfl⟩

end Tables

end Sys2Proof.Machine
end

section
/-!
PROOF. O28: its clauses, put together.
-/

namespace Sys2Proof.Machine

/-! ### The parent's beacon, with its offset -/

section Parent
variable {s : State} {n : LinkIx} {source : NodeId} {x : Sighting} {depth : Nat} {o : Int}
  (hn : s.usableLinkOf source = some n) (hr : s.timing.role = .follower)
  (hd : x.depth ≤ 13) (hh : x.holdover = false)
  (ho : offsetOf x.receiveOffset x.offset s.timing.propagation s.nominal = o)
include hn hr hd hh ho

/-- R158: the parent's beacon in LOCKED. -/
theorem State.timingBeacon_of_parent_locked (hs : s.timing.state = .locked n source depth) :
    s.timingBeacon source x = { (s.sighted n x).deepened n source depth x with
      timing :=
        if 500 < o.natAbs then
          { ((s.sighted n x).deepened n source depth x).timing with outliers := s.timing.outliers + 1 }
        else { ((s.sighted n x).deepened n source depth x).timing with
          outliers := 0, adjust := clampInt (-8) 8 (s.timing.adjust + correction o) } } := by
  rw [State.timingBeacon_of_locked hn hr hs, if_pos ⟨rfl, rfl⟩]
  exact State.lockedBeacon_eq hs (by simp [hd, hh]) ho

/-- R160: the parent's beacon in HOLDOVER. -/
theorem State.timingBeacon_of_parent_holdover (hs : s.timing.state = .holdover n source depth) :
    s.timingBeacon source x = { s.sighted n x with
      timing := { (s.sighted n x).timing with
        heard := true, state := .locked n source (x.depth + 1), outliers := 0, silence := 0, holdover := 0
        adjust := correction o }
      reports := { s.reports with timingLatch := some ⟨.locked n source (x.depth + 1)⟩ } } := by
  rw [State.timingBeacon_of_holdover hn hr hs, if_pos ⟨rfl, rfl⟩]
  exact State.holdoverBeacon_of_fit (s := s.sighted n x) (by simp [hd, hh]) ho

end Parent

/-! ### The claim of a beacon -/

section Claims
variable {s : State} {a b l k : Nat} {d h body : List Byte} {n : LinkIx} (hq : s.quiet = true)
  (hroom : s.claimRoom b = true) (hslot : s.path.slot = .deciding a d (k + 1))
  (hc : s.classifier = .deciding b l (.ready h body)) (hk : hdrKind h = 2)
  (hid : s.identifies (hdrSource h) = true) (hl : s.linkOf (hdrSource h) = some n)

theorem State.beaconLearned_usable (hl : s.linkOf (hdrSource h) = some n) (hu : (s.link n).usable = true) :
    (s.beaconLearned n body).usableLinkOf (hdrSource h) = some n := by
  obtain ⟨e, q, g, he⟩ := s.beaconLearned_eq n body
  rw [he]
  refine (State.usableLinkOf_congr (s := s) (fun m => ?_) _).trans (State.usableLinkOf_of_usable hl hu)
  exact ⟨(s.beaconHeard_link n body m).1, (s.beaconHeard_link n body m).2.1⟩

include hq hroom hslot hc hk hid hl

theorem State.claim_of_beacon (hu : (s.link n).usable = true) : exec .claim s = .next
    (((s.beaconLearned n body).timingBeacon (hdrSource h) (sightingOf d body)).consumed a d) :=
  State.exec_claim_of_consumed hq hroom hslot hc
    ((State.judge_of_beacon hk).trans (by rw [State.takeBeacon_of_usable hid hl hu]))

theorem State.claim_of_draining (hd : (s.link n).state = .draining) :
    exec .claim s = .next ((s.beaconHeard n body).consumed a d) :=
  State.exec_claim_of_consumed hq hroom hslot hc
    ((State.judge_of_beacon hk).trans (by rw [State.takeBeacon_of_draining hid hl hd]))

end Claims

/-- Settles O28: the judging of each kind is named, and the claim consumes what it leaves. -/
theorem claimsOfControlFrames : Obligations.ClaimsOfControlFrames := by
  intro s a b l k d h body n hq hroom hslot hc
  refine ⟨fun kind hid hdest hcase => ?opening, fun hk hid hl hdest hcarry => ?carried,
    fun x seen hk hid hl husable hx hseen => ?beacon, fun hk hid hl hd => ?draining, fun hk hno hout => ?unconcerned⟩
  case opening => exact State.claim_of_opening hq hroom hslot hc hid hdest hcase
  case carried =>
    exact ⟨_, State.claim_of_carried hq hroom hslot hc hk hid hl hdest hcarry, rfl, State.consumed_all ..⟩
  case draining => exact State.claim_of_draining hq hroom hslot hc hk hid hl hd
  case unconcerned => exact State.claim_of_unconcerned hq hroom hslot hc (State.judge_of_unconcerned hk hno) hout
  case beacon =>
    have hexec := State.claim_of_beacon hq hroom hslot hc hk hid hl husable
    rw [show sightingOf d body = x from hx.symm] at hexec
    have hn := State.beaconLearned_usable (body := body) hl husable
    have hpool := fun hno => State.beaconLearned_pool (s := s) (n := n) (body := body) hno
    obtain ⟨T, L, F, hv, hF⟩ := State.timingBeacon_frame (x := x) hn
    have hheld := fun t hok hyes => State.beaconLearned_reevaluated (s := s) (n := n) (body := body) (t := t) hok hyes
    obtain ⟨e, q, g, hu⟩ := s.beaconLearned_eq n body
    rw [hu] at hexec hn hv hF hpool hheld
    have hus (m : LinkIx) : ((s.beaconHeard n body).link m).usable = (s.link m).usable :=
      LinkRec.usable_congr (s.beaconHeard_link n body m).1
    subst hseen
    refine ⟨_, hexec, ?state, ?queue, ?link, fun m hm => ?others, fun hno => ?pool, fun hyes hok => ?held,
      fun hno => ?free, fun hroot => ?root, fun hr => ⟨
      fun p node depth hs => ⟨fun hun => ?lockedUnfit, fun o hp hnode hd hh hmod hlo hhi => ?locked⟩,
      fun p node depth hs => ⟨fun hun => ?holdoverUnfit, fun o hp hnode hd hh hmod hlo hhi => ?holdover⟩,
      fun hs hun => ?seekingUnfit, fun m y E P hs hd hh hy hyd hyh hm hmin hE hP => ?seeking⟩⟩
    case state => rw [hv]; rfl
    case queue => rw [State.consumed_all, hv]; rfl
    case link => rw [hv]; exact State.link_setLink_same ..
    case others => rw [hv]; exact State.link_setLink_other _ _ hm.symm
    case pool => rw [hv]; exact hpool hno
    case held => refine hheld _ hok hyes ?_ ?_ ?_ ?_ <;> rw [hv] <;> rfl
    case free => rw [hv]; exact hF hno
    case root => rw [State.timingBeacon_of_root (s := s.learnedWith n body _) hroot]; exact ⟨rfl, rfl⟩
    case lockedUnfit => rw [State.timingBeacon_of_locked_unfit hn hr hs hun]; exact ⟨rfl, rfl⟩
    case holdoverUnfit => rw [State.timingBeacon_of_holdover_unfit hn hr hs hun]; exact ⟨rfl, rfl⟩
    case seekingUnfit => rw [State.timingBeacon_of_seeking_unfit hn hr hs hun]; exact ⟨rfl, rfl⟩
    case locked =>
      subst hp hnode
      rw [State.timingBeacon_of_parent_locked hn hr hd hh (offsetOf_eq hmod hlo hhi) hs]
      exact ⟨rfl, fun hfar => if_pos hfar, fun hnear => if_neg (Nat.not_lt.mpr hnear)⟩
    case holdover =>
      subst hp hnode
      rw [State.timingBeacon_of_parent_holdover hn hr hd hh (offsetOf_eq hmod hlo hhi) hs]
      exact ⟨rfl, rfl⟩
    case seeking =>
      subst hP
      rw [State.timingBeacon_of_step hn hr hs hd hh ((hus n).trans husable) hy hyd hyh ((hus m).trans hm)
        (fun i z hz hzd hzh hzu => hmin i z hz hzd hzh ((hus i).symm.trans hzu)) hE]
      refine ⟨rfl, rfl, ?_⟩
      rw [← (s.beaconHeard_link n body m).2.1]
      rfl

end Sys2Proof.Machine
end

section
/-!
PROOF. The Metric Unit's moving average (R76), and LINK_CLIMB (R83), which starts a climb.
-/

namespace Sys2Proof.Machine

/-! ### The moving average (R76) -/

/-- For 1 ≤ W ≤ 15 the distance to the sample times W lies between that distance and 15 times it, so a sixteenth of it,
rounded, neither moves away from the sample nor passes it. -/
theorem average_between {d x w : Nat} (hd : d ≤ 32768) (hx : x ≤ 32768) (h1 : 1 ≤ w) (h15 : w ≤ 15) :
    (average d x w : Int) = (d : Int) + (((x : Int) - (d : Int)) * (w : Int) + 8) / 16 ∧
      min d x ≤ average d x w ∧ average d x w ≤ max d x := by
  have hup (e : Int) (he : 0 ≤ e) : e ≤ e * w ∧ e * w ≤ e * 15 := by constructor <;> nlinarith
  have hdown (e : Int) (he : e ≤ 0) : e * 15 ≤ e * w ∧ e * w ≤ e := by constructor <;> nlinarith
  unfold average clampInt
  obtain h | h := Nat.le_total d x
  · have := hup (x - d) (by omega)
    omega
  · have := hdown (x - d) (by omega)
    omega

/-- Settles O36: `average_between`, at the sample given and at the sample D. -/
theorem movingAverageLiesBetween : Obligations.MovingAverageLiesBetween := by
  intro d x w hd hx h1 h15
  obtain ⟨heq, hlow, hhigh⟩ := average_between hd hx h1 h15
  obtain ⟨-, hsame⟩ := average_between hd hd h1 h15
  exact ⟨heq, hlow, hhigh, by omega⟩

/-! ### LINK_CLIMB (R83) -/

section Climb
variable {s : State} {n : LinkIx} {seq : BitVec 16} {link act : Byte}

theorem exec_linkClimb_read (hq : s.quiet = true) (hc : s.fetchedCommand = some (.linkClimb seq link act)) :
    exec (.linkClimb seq link act) s = .next (s.commandRead.commandLinkClimb seq link act) :=
  congrArg Host.Outcome.next (State.settle_onCommand hq hc _)

theorem actArg_of_known (h : act = 1 ∨ act = 2) : actArg act = some (if act = 1 then .keep else .returnRate) := by
  obtain rfl | rfl := h <;> rfl

theorem actArg_of_unknown (h : act ≠ 1 ∧ act ≠ 2) : actArg act = none := by
  obtain ⟨h1, h2⟩ := h
  unfold actArg
  split
  · exact absurd (BitVec.eq_of_toNat_eq ‹_›) h1
  · exact absurd (BitVec.eq_of_toNat_eq ‹_›) h2
  · rfl

theorem State.commandLinkClimb_of_bad (h : linkArg link = none ∨ actArg act = none) :
    s.commandLinkClimb seq link act = s.respond 0x16 seq .badArgument := by
  unfold State.commandLinkClimb
  split
  · rfl
  · rfl
  · simp_all

theorem State.commandLinkClimb_of_some {a : ClimbAct} (hl : linkArg link = some n) (ha : actArg act = some a) :
    s.commandLinkClimb seq link act =
      if !(s.link n).isActive then s.respond 0x16 seq .refusedState
      else if (s.link n).climbing then s.respond 0x16 seq .refusedBusy
      else (s.setLink n { s.link n with
        climb := some ⟨a, (s.link n).rate, (s.link n).rate, 0⟩, climbing := true }).respond 0x16 seq .done := by
  simp only [State.commandLinkClimb, hl, ha]

end Climb

/-- Settles O55: the tests of R83 in their order, and the climb record. -/
theorem linkClimbStartsAClimb : Obligations.LinkClimbStartsAClimb := by
  intro s seq link act hq hc
  rw [exec_linkClimb_read hq hc]
  refine ⟨fun h => ?bad, fun n h ha hs => ?state, fun n h ha hs hb => ?busy, fun n h ha hs hb => ?done⟩
  case bad => rw [State.commandLinkClimb_of_bad (h.imp linkArg_none.mpr actArg_of_unknown)]
  all_goals rw [State.commandLinkClimb_of_some (linkArg_some.mpr h) (actArg_of_known ha), State.commandRead_link]
  case state => simp [LinkRec.isActive, hs]
  case busy => simp [LinkRec.isActive, hs, hb]
  case done => simp [LinkRec.isActive, hs, hb]

end Sys2Proof.Machine
end

section
/-!
PROOF. The bounds of one link record (R72) under each operation on it: costs and delivery estimates, r and the climb
after an outcome, and what the Link Table and the link commands write.
-/

namespace Sys2Proof.Machine

/-! ### Costs and estimates (R76, R78) -/

theorem one_le_airtime (r length : Nat) : 1 ≤ airtime r length := by unfold airtime; omega

theorem one_le_ceilDiv {a b : Nat} (ha : 1 ≤ a) (hb : 1 ≤ b) : 1 ≤ ceilDiv a b :=
  (Nat.one_le_div_iff hb).mpr (by omega)

theorem costOf_bounds (r estimate : Nat) : 1 ≤ costOf r estimate ∧ costOf r estimate ≤ 65535 := by
  unfold costOf Config.saturated
  split
  · omega
  · have hair := one_le_airtime r 1500
    have := one_le_ceilDiv (a := airtime r 1500 * 32768) (b := estimate) (by omega) (by omega)
    omega

theorem average_le (d x w : Nat) : average d x w ≤ 32768 := by unfold average clampInt; omega

/-! ### The two parts of the bounds -/

section Record
variable {l : LinkRec}

theorem LinkRec.metricOk_iff : l.metricOk = true ↔ l.estimate ≤ 32768 ∧ (1 ≤ l.cost ∧ l.cost ≤ 65535) ∧
    l.floor ≤ l.rate ∧ l.rate ≤ l.ceiling ∧ l.ceiling ≤ 7 := by
  simp only [LinkRec.metricOk, Bool.and_eq_true, decide_eq_true_iff, and_assoc]

/-- The start rate and the mark of a climb lie between the floor and the ceiling. -/
def Climb.Within (c : Climb) (floor ceiling : Nat) : Prop :=
  floor ≤ c.start ∧ c.start ≤ ceiling ∧ floor ≤ c.mark ∧ c.mark ≤ ceiling

theorem LinkRec.boundsOk_iff : l.boundsOk = true ↔ l.metricOk = true ∧
    (l.climbing = true → l.state = .active ∧ ∃ c, l.climb = some c ∧ c.Within l.floor l.ceiling) := by
  unfold LinkRec.boundsOk LinkRec.isActive Climb.Within
  cases l.climbing <;> cases l.climb <;> simp [and_assoc]

theorem LinkRec.metricOk_of_boundsOk (h : l.boundsOk = true) : l.metricOk = true := (LinkRec.boundsOk_iff.mp h).1

theorem LinkRec.boundsOk_of_idle (hm : l.metricOk = true) (hc : l.climbing = false) : l.boundsOk = true :=
  LinkRec.boundsOk_iff.mpr ⟨hm, fun h => absurd h (by simp [hc])⟩

/-- R86: outside ACTIVE no climb runs. -/
theorem LinkRec.climbing_of_not_active (h : l.boundsOk = true) (hs : l.state ≠ .active) : l.climbing = false := by
  by_contra hc
  exact hs ((LinkRec.boundsOk_iff.mp h).2 (by simpa using hc)).1

/-! ### The Metric Unit (R76, R81, R84, R85, R86) -/

theorem LinkRec.metricOk_writeRate {r : Nat} (h : l.metricOk = true) (hlow : l.floor ≤ r) (hhigh : r ≤ l.ceiling) :
    (l.writeRate r).metricOk = true := by
  obtain ⟨hest, -, -, -, hceil⟩ := LinkRec.metricOk_iff.mp h
  exact LinkRec.metricOk_iff.mpr ⟨hest, costOf_bounds .., hlow, hhigh, hceil⟩

theorem LinkRec.boundsOk_applySample (x : Nat) (h : l.boundsOk = true) : (l.applySample x).boundsOk = true := by
  obtain ⟨hm, hc⟩ := LinkRec.boundsOk_iff.mp h
  obtain ⟨-, -, hrates⟩ := LinkRec.metricOk_iff.mp hm
  exact LinkRec.boundsOk_iff.mpr ⟨LinkRec.metricOk_iff.mpr ⟨average_le .., costOf_bounds .., hrates⟩, hc⟩

theorem LinkRec.boundsOk_markFloor (h : l.boundsOk = true) : l.markFloor.boundsOk = true := by
  unfold LinkRec.markFloor
  split <;> exact h

theorem LinkRec.boundsOk_climbEnded (h : l.metricOk = true) : l.climbEnded.boundsOk = true := by
  rw [LinkRec.climbEnded_eq]
  exact LinkRec.boundsOk_of_idle h rfl

theorem LinkRec.boundsOk_drained (h : l.metricOk = true) : l.drained.boundsOk = true := by
  rw [LinkRec.drained_eq]
  exact LinkRec.boundsOk_of_idle h rfl

theorem LinkRec.boundsOk_paceDelivered (a : Nat) (h : l.boundsOk = true) (hc : l.climbing = false) :
    (l.paceDelivered a).boundsOk = true := by
  have hm := LinkRec.metricOk_of_boundsOk h
  obtain ⟨-, -, hlow, -⟩ := LinkRec.metricOk_iff.mp hm
  unfold LinkRec.paceDelivered
  split
  · split
    · split
      · exact LinkRec.boundsOk_of_idle
          (LinkRec.metricOk_writeRate (l := { l with pace := 0 }) hm (Nat.le_succ_of_le hlow) ‹_›) hc
      · exact h
    · exact h
  · exact h

theorem LinkRec.boundsOk_paceUndelivered (h : l.boundsOk = true) (hc : l.climbing = false) :
    l.paceUndelivered.boundsOk = true := by
  have hm := LinkRec.metricOk_of_boundsOk h
  obtain ⟨-, -, hlow, hhigh, -⟩ := LinkRec.metricOk_iff.mp hm
  refine LinkRec.boundsOk_markFloor (LinkRec.boundsOk_of_idle
    (LinkRec.metricOk_writeRate (l := { l with pace := 0 }) hm (Nat.le_max_left ..) ?_) hc)
  change max l.floor (l.rate - l.downStep) ≤ l.ceiling
  omega

/-- R84: the climb goes on, its mark at the rate that has just held, or ends at the ceiling. -/
theorem LinkRec.boundsOk_climbDelivered (a : Nat) (h : l.boundsOk = true) (hc : l.climbing = true) :
    (l.climbDelivered a).boundsOk = true := by
  obtain ⟨hm, hclimb⟩ := LinkRec.boundsOk_iff.mp h
  obtain ⟨hs, c, hcl, hsl, hsh, hml, hmh⟩ := hclimb hc
  obtain ⟨-, -, hlow, hhigh, -⟩ := LinkRec.metricOk_iff.mp hm
  simp only [LinkRec.climbDelivered, hcl]
  split
  · split
    · exact LinkRec.boundsOk_iff.mpr ⟨hm, fun _ => ⟨hs, _, rfl, hsl, hsh, hml, hmh⟩⟩
    · split
      · exact LinkRec.boundsOk_iff.mpr ⟨LinkRec.metricOk_writeRate
          (l := { l with climb := some { c with mark := l.rate, run := 0 } }) hm (Nat.le_succ_of_le hlow) ‹_›,
          fun _ => ⟨hs, _, rfl, hsl, hsh, hlow, hhigh⟩⟩
      · exact LinkRec.boundsOk_of_idle hm rfl
  · exact LinkRec.boundsOk_iff.mpr ⟨hm, fun _ => ⟨hs, _, rfl, hsl, hsh, hml, hmh⟩⟩

/-- R85: r returns to the start rate, or r and the ceiling to the mark. -/
theorem LinkRec.boundsOk_climbLost (h : l.boundsOk = true) (hc : l.climbing = true) : l.climbLost.boundsOk = true := by
  obtain ⟨hm, hclimb⟩ := LinkRec.boundsOk_iff.mp h
  obtain ⟨hs, c, hcl, hsl, hsh, hml, hmh⟩ := hclimb hc
  obtain ⟨hest, hcost, hlow, hhigh, hceil⟩ := LinkRec.metricOk_iff.mp hm
  simp only [LinkRec.climbLost, hcl]
  refine LinkRec.boundsOk_markFloor ?_
  split
  · exact LinkRec.boundsOk_of_idle
      (LinkRec.metricOk_iff.mpr ⟨hest, costOf_bounds .., hml, Nat.le_refl _, Nat.le_trans hmh hceil⟩) rfl
  · exact LinkRec.boundsOk_of_idle
      (LinkRec.metricOk_iff.mpr ⟨hest, costOf_bounds .., hsl, hsh, hceil⟩) rfl

theorem LinkRec.boundsOk_measureData (o : TxOutcome) (a : Nat) (h : l.boundsOk = true) :
    (l.measureData o a).boundsOk = true := by
  cases o with
  | delivered =>
    have hx := LinkRec.boundsOk_applySample (deliverySample a) h
    dsimp only [LinkRec.measureData]
    split
    · exact LinkRec.boundsOk_climbDelivered a hx ‹_›
    · exact LinkRec.boundsOk_paceDelivered a hx (by simp_all)
  | undelivered =>
    have hx := LinkRec.boundsOk_applySample 0 h
    dsimp only [LinkRec.measureData]
    split
    · exact LinkRec.boundsOk_climbLost hx ‹_›
    · exact LinkRec.boundsOk_paceUndelivered hx (by simp_all)
  | expired => exact h
  | aborted => exact h

theorem LinkRec.boundsOk_measureOwn (o : TxOutcome) (a : Nat) (h : l.boundsOk = true) :
    (l.measureOwn o a).boundsOk = true := by
  cases o with
  | delivered => exact LinkRec.boundsOk_applySample _ h
  | undelivered => exact LinkRec.boundsOk_applySample 0 h
  | expired => exact h
  | aborted => exact h

/-! ### The Link Table and the link commands (R46, R47, R56, R64, R134) -/

theorem LinkRec.boundsOk_reset : LinkRec.reset.boundsOk = true := by decide

/-- The Attention flags are no part of the bounds. -/
theorem LinkRec.boundsOk_attend (k : Attention) (h : l.boundsOk = true) : (l.attend k).boundsOk = true := h

theorem LinkRec.boundsOk_opened (h : l.metricOk = true) : l.opened.boundsOk = true := by
  obtain ⟨-, -, hlow, hhigh, hceil⟩ := LinkRec.metricOk_iff.mp h
  exact LinkRec.boundsOk_of_idle
    (LinkRec.metricOk_iff.mpr ⟨show (16384 : Nat) ≤ 32768 by decide, costOf_bounds l.floor 16384, Nat.le_refl _,
      Nat.le_trans hlow hhigh, hceil⟩) rfl

theorem LinkRec.boundsOk_comparePlan (p : PlanPair) (h : l.boundsOk = true) : (l.comparePlan p).boundsOk = true := by
  unfold LinkRec.comparePlan
  split
  · exact h
  · split <;> exact h

/-- R56: a boundary lowers a timer and takes no link out of ACTIVE. -/
theorem LinkRec.boundsOk_atBoundary (h : l.boundsOk = true) : l.atBoundary.boundsOk = true := by
  obtain ⟨hm, hclimb⟩ := LinkRec.boundsOk_iff.mp h
  refine LinkRec.boundsOk_iff.mpr ⟨hm, fun hc => ?_⟩
  obtain ⟨hs, hwithin⟩ := hclimb hc
  exact ⟨by simp [LinkRec.atBoundary, hs], hwithin⟩

theorem LinkRec.boundsOk_openTo (node : NodeId) (floor ceiling attempts timeout : Nat) (h : l.boundsOk = true)
    (hc : l.climbing = false) : (l.openTo node floor ceiling attempts timeout).boundsOk = true := by
  obtain ⟨hest, -⟩ := LinkRec.metricOk_iff.mp (LinkRec.metricOk_of_boundsOk h)
  refine LinkRec.boundsOk_of_idle (LinkRec.metricOk_iff.mpr
    ⟨hest, costOf_bounds .., Nat.le_refl _, Nat.le_max_left .., ?_⟩) hc
  exact Nat.max_le.mpr ⟨clamp_le (by decide), clamp_le (by decide)⟩

theorem tuned_le {sel : BitVec 16} {bit lo hi stored : Nat} {v : Byte} (hlh : lo ≤ hi) (h : stored ≤ hi) :
    tuned sel bit lo hi v stored ≤ hi := by
  unfold tuned
  split
  · exact clamp_le hlh
  · exact h

/-- R64: the rates are tuned on a closed link alone, where no climb runs. -/
theorem LinkRec.boundsOk_tune {sel : BitVec 16} (v : TuneValues) (h : l.boundsOk = true)
    (hc : selectsHard sel = true → l.climbing = false) : (l.tune sel v).boundsOk = true := by
  have hrates : (l.tuneRates sel v).boundsOk = true := by
    by_cases hsel : sel.getLsbD 0 = true ∨ sel.getLsbD 1 = true
    · have hm := LinkRec.metricOk_of_boundsOk h
      obtain ⟨hest, hcost, hlow, hhigh, hceil⟩ := LinkRec.metricOk_iff.mp hm
      have hf := tuned_le (sel := sel) (bit := 0) (v := v.floor) (Nat.zero_le 7) (by omega : l.floor ≤ 7)
      have hce := tuned_le (sel := sel) (bit := 1) (v := v.ceiling) (Nat.zero_le 7) hceil
      rw [LinkRec.tuneRates_of_selected l hsel rfl rfl rfl rfl]
      refine LinkRec.boundsOk_of_idle (LinkRec.metricOk_iff.mpr ⟨hest, ?_, Nat.le_max_left .., ?_, ?_⟩)
        (hc (selectsHard_iff.mpr (hsel.imp_right .inl)))
      · dsimp only
        split
        · exact hcost
        · exact costOf_bounds ..
      all_goals dsimp only; omega
    · obtain ⟨h0, h1⟩ : sel.getLsbD 0 = false ∧ sel.getLsbD 1 = false := by simpa using hsel
      rwa [LinkRec.tuneRates_of_not l h0 h1]
  exact hrates

end Record

end Sys2Proof.Machine
end

section
/-!
PROOF. What the moves of the Frame Pool do to the link records: a fall of a queued count can drain a DRAINING link
(R61), and nothing else changes a record.
-/

namespace Sys2Proof.Machine

/-- From `s` to `t` some DRAINING links have been drained, and the other link records are as they were. -/
def State.Drains (s t : State) : Prop :=
  ∀ n, t.link n = s.link n ∨ (s.link n).state = .draining ∧ t.link n = (s.link n).drained

theorem LinkRec.drained_state (l : LinkRec) : l.drained.state = .silent := by rw [LinkRec.drained_eq]

section Drains
variable {s t u : State}

theorem State.Drains.of_links (h : t.linkTable.links = s.linkTable.links) : s.Drains t :=
  fun n => .inl (congrArg (bankGet · n) h)

theorem State.Drains.refl (s : State) : s.Drains s := .of_links rfl

/-- A link that has been drained is SILENT, and no later move drains it again. -/
theorem State.Drains.trans (h : s.Drains t) (k : t.Drains u) : s.Drains u := fun n => by
  obtain hn | ⟨hs, hn⟩ := h n
  · have hk := k n
    rwa [hn] at hk
  · obtain hk | ⟨hd, -⟩ := k n
    · exact .inr ⟨hs, hk.trans hn⟩
    · rw [hn, LinkRec.drained_state] at hd
      cases hd

theorem State.Drains.foldl {α : Type} {f : State → α → State} (hf : ∀ (s : State) (a : α), s.Drains (f s a))
    (l : List α) (s : State) : s.Drains (l.foldl f s) := by
  induction l generalizing s with
  | nil => exact .refl s
  | cons a l ih => exact (hf s a).trans (ih (f s a))

end Drains

section Moves
variable (s : State) (n m : LinkIx) (g : Tag) (f : Frame) (st : ReleaseStatus)

/-! ### The drain test and releases (R20, R34, R36) -/

theorem State.Drains.drainTest : s.Drains (s.drainTest n) := by
  obtain h | ⟨-, hd, -, -, h⟩ := s.drainTest_cases n <;> rw [h]
  · exact .refl s
  · intro m
    rw [State.enterDrained_eq]
    by_cases hm : n = m
    · subst hm; exact .inr ⟨hd, bankGet_bankPut_same ..⟩
    · exact .inl (bankGet_bankPut_other _ _ hm)

theorem State.Drains.countFell : s.Drains (s.countFell n) := by
  rw [State.countFell, State.signalIntake_eq]
  exact (State.Drains.of_links rfl).trans (.drainTest _ n)

theorem State.Drains.release : s.Drains (s.release g st) := by
  obtain h | ⟨f, n, -, -, h⟩ | ⟨f, -, -, h⟩ | ⟨f, -, -, h⟩ := s.release_cases g st <;> rw [h]
  · exact .refl s
  · exact (State.Drains.of_links rfl).trans (.countFell _ n)
  · exact .of_links rfl
  · exact .of_links rfl

theorem State.Drains.releaseAll (ts : List Tag) : s.Drains (s.releaseAll st ts) := by
  induction ts generalizing s with
  | nil => exact .refl s
  | cons g ts ih => exact (State.Drains.release s g st).trans (ih _)

theorem State.Drains.releaseInFlight : s.Drains (s.releaseInFlight g st) := by
  unfold State.releaseInFlight
  split
  · split
    · exact .release s g st
    · exact .refl s
  · exact .refl s

theorem State.Drains.releaseAged : s.Drains (s.releaseAged g) := by
  unfold State.releaseAged
  split
  · exact .refl s
  · split
    · split
      · exact .release s g _
      · exact .refl s
    · split
      · exact .release s g _
      · exact .refl s
    · exact .refl s

theorem State.Drains.releaseTimedOut : s.Drains (s.releaseTimedOut g) := by
  unfold State.releaseTimedOut
  split
  · exact .refl s
  · split
    · split
      · exact .release s g _
      · exact .refl s
    · exact .refl s

/-! ### The transmit ring (R25, R27, R28, R145) -/

theorem State.Drains.takeToRing (pos : Nat) : s.Drains (s.takeToRing n g f pos) :=
  (State.Drains.of_links rfl).trans (.countFell _ n)

theorem State.Drains.markFetched : s.Drains (s.markFetched g) := by
  unfold State.markFetched
  split
  · split
    · exact .of_links rfl
    · exact .refl s
  · exact .refl s

theorem State.Drains.placeReturned (target : Option LinkIx) : s.Drains (s.placeReturned g f target) := by
  unfold State.placeReturned
  split
  · exact .of_links rfl
  · split
    · exact .of_links rfl
    · exact (State.Drains.of_links rfl).trans (.release _ g _)

theorem State.Drains.requeue : s.Drains (s.requeue g) := by
  unfold State.requeue
  split
  · exact .refl s
  · split
    · exact .refl s
    · split
      · exact .release s g _
      · exact .placeReturned s g _ _

theorem State.Drains.expiryReturn : s.Drains (s.expiryReturn g) := by
  unfold State.expiryReturn
  split
  · exact .refl s
  · split
    · exact .refl s
    · split
      · exact .placeReturned s g _ _
      · exact .release s g _

theorem State.Drains.setMark (p : Nat) (k : Mark) : s.Drains (s.setMark p k) := .of_links (by simp)

theorem State.Drains.giveUp : s.Drains s.giveUp := by
  have hreleased : s.Drains (s.tagsInFlight.foldl (fun s g => s.releaseInFlight g .abandoned) s) :=
    .foldl (fun u g => .releaseInFlight u g _) _ s
  have hmarks (u : State) : u.Drains (s.sched.inFlight.foldl (fun s (r : InFlight) => s.setMark r.pos .none) u) :=
    .foldl (fun u (r : InFlight) => .setMark u r.pos _) _ u
  exact (hreleased.trans (hmarks _)).trans (.of_links rfl)

/-! ### Moves between queues and to the held list (R29, R30, R31) -/

theorem State.Drains.moveTail : s.Drains (s.moveTail n m g f) :=
  (State.Drains.of_links rfl).trans (.countFell _ n)

theorem State.Drains.divertOne : s.Drains (s.divertOne n g) := by
  unfold State.divertOne
  split
  · exact .refl s
  · split
    · exact .refl s
    · split
      · split
        · exact .refl s
        · exact .moveTail s n _ g _
      · exact .refl s

theorem State.Drains.divert : s.Drains (s.divert n) := .foldl (fun u g => .divertOne u n g) _ s

theorem State.Drains.redispatchOne : s.Drains (s.redispatchOne n g) := by
  unfold State.redispatchOne
  split
  · exact .refl s
  · split
    · exact .release s g _
    · split
      · exact .moveTail s n _ g _
      · split
        · exact (State.Drains.of_links rfl).trans (.countFell _ n)
        · exact .release s g _

theorem State.Drains.redispatch : s.Drains (s.redispatch n) := .foldl (fun u g => .redispatchOne u n g) _ s

end Moves

end Sys2Proof.Machine
end

section
/-!
PROOF. The blocks keep the bounds of the link records (R72): a link's changes of state, outcomes and completions, frames
received, the Local Intake, bursts, boundaries and their consequences.
-/

namespace Sys2Proof.Machine

/-- R72: every link record is in bounds. -/
def State.LinksOk (s : State) : Prop := ∀ n, (s.link n).boundsOk = true

section Blocks
variable {s t : State} {n : LinkIx}

/-- The bounds are a matter of the link records alone. -/
theorem State.LinksOk.congr (h : s.LinksOk) (hl : t.linkTable.links = s.linkTable.links) : t.LinksOk := fun n => by
  rw [State.link, hl]
  exact h n

theorem State.LinksOk.setLink {l : LinkRec} (h : s.LinksOk) (hl : l.boundsOk = true) : (s.setLink n l).LinksOk :=
  fun m => by
    by_cases hm : n = m
    · subst hm; rwa [State.link_setLink_same]
    · rw [State.link_setLink_other _ _ hm]; exact h m

theorem State.LinksOk.metricOk (h : s.LinksOk) (m : LinkIx) : (s.link m).metricOk = true :=
  LinkRec.metricOk_of_boundsOk (h m)

theorem State.LinksOk.drains (h : s.LinksOk) (d : s.Drains t) : t.LinksOk := fun m => by
  obtain hm | ⟨-, hm⟩ := d m <;> rw [hm]
  · exact h m
  · exact LinkRec.boundsOk_drained (h.metricOk m)

theorem State.LinksOk.reevaluate (h : s.LinksOk) : s.reevaluate.LinksOk :=
  h.congr (by rw [State.reevaluate_eq])

theorem State.LinksOk.foldl {α : Type} {f : State → α → State}
    (hf : ∀ (s : State) (a : α), s.LinksOk → (f s a).LinksOk) (l : List α) (h : s.LinksOk) : (l.foldl f s).LinksOk := by
  induction l generalizing s with
  | nil => exact h
  | cons a l ih => exact ih (hf s a h)

/-! ### A link's changes of state (R45, R46, R54, R55, R59 to R62) -/

theorem State.timingLinkLost_linkTable (s : State) (n : LinkIx) : (s.timingLinkLost n).linkTable = s.linkTable := by
  unfold State.timingLinkLost
  split <;> rfl

theorem State.LinksOk.enterActive (k : Attention) (h : s.LinksOk) : (s.enterActive n k).LinksOk :=
  State.LinksOk.reevaluate (s := s.setLink n ((s.link n).opened.attend k))
    (h.setLink (LinkRec.boundsOk_opened (h.metricOk n)))

/-- R55: a BLOCKED link has no climb running, so it may be ACTIVE again. -/
theorem State.LinksOk.unblock (h : s.LinksOk) (hb : (s.link n).isBlocked = true) : (s.unblock n).LinksOk := by
  have hidle : (s.link n).climbing = false :=
    LinkRec.climbing_of_not_active (h n) fun hs => by simp [LinkRec.isBlocked, hs] at hb
  unfold State.unblock
  exact State.LinksOk.reevaluate (h.setLink (LinkRec.boundsOk_of_idle (h.metricOk n) hidle))

theorem State.LinksOk.enterBlocked (h : s.LinksOk) : (s.enterBlocked n).LinksOk := by
  unfold State.enterBlocked
  dsimp only
  refine State.LinksOk.drains ?_ (.divert _ n)
  exact h.setLink (LinkRec.boundsOk_climbEnded (h.metricOk n))

/-- R86: when the climb of the one link that is out of bounds ends, all links are in bounds. -/
theorem State.linksOk_climbEnded (hm : (s.link n).metricOk = true) (hb : ∀ m, m ≠ n → (s.link m).boundsOk = true) :
    (s.setLink n (s.link n).climbEnded).LinksOk := fun m => by
  by_cases hmn : n = m
  · subst hmn
    rw [State.link_setLink_same]
    exact LinkRec.boundsOk_climbEnded hm
  · rw [State.link_setLink_other _ _ hmn]
    exact hb m (Ne.symm hmn)

/-- R45, R86: while the requests are made the link has left ACTIVE with its climb still set; it ends after them. -/
theorem State.LinksOk.leaveUsable {request : State → State} {reply : Bool} (st : LinkState)
    (hr : ∀ u : State, u.Drains (request u)) (h : s.LinksOk) :
    ((s.setLink n { s.link n with state := st }).leaveUsable n request reply).LinksOk := by
  have hlink (m : LinkIx) :
      ((request (s.leaving n st)).timingLinkLost n).link m = (request (s.leaving n st)).link m := by
    rw [State.link, State.timingLinkLost_linkTable, State.link]
  have hend := State.linksOk_climbEnded (s := (request (s.leaving n st)).timingLinkLost n) (n := n)
    (by
      have hleaving : ((s.leaving n st).link n).metricOk = true := by rw [State.leaving_link]; exact h.metricOk n
      rw [hlink]
      obtain hn | ⟨-, hn⟩ := hr (s.leaving n st) n <;> rw [hn]
      · exact hleaving
      · exact LinkRec.metricOk_of_boundsOk (LinkRec.boundsOk_drained hleaving))
    (fun m hm => by
      have hleaving := State.leaving_link_other s n st (Ne.symm hm)
      rw [hlink]
      obtain hm | ⟨-, hm⟩ := hr (s.leaving n st) m <;> rw [hm, hleaving]
      · exact h m
      · exact LinkRec.boundsOk_drained (h.metricOk m))
  unfold State.leaveUsable
  dsimp only
  split
  · exact hend.congr rfl
  · exact hend

theorem State.LinksOk.enterFailed (r : FailureReason) (h : s.LinksOk) : (s.enterFailed n r).LinksOk := by
  have hl := h.leaveUsable (n := n) (reply := true) (.failed r) (fun u => .redispatch u n)
  unfold State.enterFailed
  exact hl.setLink (LinkRec.boundsOk_attend .failed (hl n))

theorem State.LinksOk.enterSilent (h : s.LinksOk) : (s.enterSilent n).LinksOk :=
  h.leaveUsable (request := fun s => s.cutRelease n) .silent fun u => .releaseAll u .cut _

theorem State.LinksOk.enterDraining (h : s.LinksOk) : (s.enterDraining n).LinksOk :=
  h.leaveUsable (request := fun s => s) .draining State.Drains.refl

theorem State.LinksOk.drainBroken (h : s.LinksOk) : (s.drainBroken n).LinksOk := by
  have hl : (s.enterSilent n).LinksOk := h.enterSilent
  exact hl.setLink (LinkRec.boundsOk_attend .drained (hl n))

theorem State.LinksOk.loseBeacons (h : s.LinksOk) : (s.loseBeacons n).LinksOk := by
  unfold State.loseBeacons
  split
  · exact h.enterFailed _
  · exact h

theorem State.LinksOk.expireOpen (h : s.LinksOk) : (s.expireOpen n).LinksOk := by
  unfold State.expireOpen
  split
  · exact h.enterFailed _
  · exact h

theorem State.LinksOk.expireBlock (h : s.LinksOk) : (s.expireBlock n).LinksOk := by
  unfold State.expireBlock
  split
  · exact h.enterFailed _
  · exact h

/-! ### Outcomes and completions (R53, R146 to R148) -/

theorem State.LinksOk.linkOutcome (o : TxOutcome) (a : Nat) (data : Bool) (h : s.LinksOk) :
    (s.linkOutcome n o a data).LinksOk := by
  unfold State.linkOutcome
  dsimp only
  split
  · exact h
  · split
    · have hl : (s.setLink n (LinkRec.flagDelivered { s.link n with undelivered := 0 } a)).LinksOk := h.setLink (h n)
      split
      · exact hl.unblock (by rw [State.link_setLink_same]; assumption)
      · exact hl
    · have hl : (s.setLink n ((s.link n).countUndelivered.flagUndelivered a)).LinksOk := h.setLink (h n)
      split
      · split
        · exact hl.enterBlocked
        · split
          · exact hl.drainBroken
          · exact hl
      · exact hl
    · split
      · exact h.setLink (h n)
      · exact h
    · exact h

theorem State.LinksOk.ownOutcome (node : NodeId) (o : TxOutcome) (a : Nat) (h : s.LinksOk) :
    (s.ownOutcome n node o a).LinksOk := by
  unfold State.ownOutcome
  split
  · exact h
  · exact (h.setLink (LinkRec.boundsOk_measureOwn o a (h n))).linkOutcome o a false

theorem State.LinksOk.carriedOutcome (g : Tag) (o : TxOutcome) (a : Nat) (h : s.LinksOk) :
    (s.carriedOutcome g n o a).LinksOk := by
  have hl := (h.setLink (n := n) (LinkRec.boundsOk_measureData o a (h n))).linkOutcome (n := n) o a true
  cases o with
  | delivered => exact hl.drains (.releaseInFlight _ g _)
  | undelivered => exact hl.drains (.requeue _ g)
  | expired => exact hl.drains (.expiryReturn _ g)
  | aborted => exact hl.drains (.releaseInFlight _ g _)

theorem State.LinksOk.dataOutcome (g : Tag) (o : TxOutcome) (a : Nat) (h : s.LinksOk) :
    (s.dataOutcome g n o a).LinksOk := by
  unfold State.dataOutcome
  split
  · exact h.drains (.releaseInFlight s g _)
  · split
    · exact h.carriedOutcome _ _ _
    · exact h.carriedOutcome _ _ _
    · exact h.carriedOutcome _ _ _
    · exact h.drains (.releaseInFlight s g _)
    · exact h.drains (.releaseInFlight s g _)
    · exact h.drains (.releaseInFlight s g _)
    · exact h.drains (.requeue s g)
    · exact h.drains (.expiryReturn s g)

theorem State.LinksOk.handleOutcome (r : InFlight) (o : TxOutcome) (a : Nat) (h : s.LinksOk) :
    (s.handleOutcome r o a).LinksOk := by
  unfold State.handleOutcome
  split
  · exact h.dataOutcome _ _ _
  · exact h
  · exact h.ownOutcome _ _ _
  · exact h.ownOutcome _ _ _

theorem State.LinksOk.drainAfter (c : Carried) (h : s.LinksOk) : (s.drainAfter c).LinksOk := by
  unfold State.drainAfter
  split
  · exact h.drains (.drainTest s _)
  · exact h

theorem State.LinksOk.retire (r : InFlight) (h : s.LinksOk) : (s.retire r).LinksOk := h.congr (by simp [State.retire])

theorem State.LinksOk.takeCompletion (h : s.LinksOk) : s.takeCompletion.LinksOk := by
  unfold State.takeCompletion
  split
  · exact h
  · rename_i c cs _
    have hs : State.LinksOk { s with completion := { s.completion with queue := cs } } := h.congr rfl
    dsimp only
    split
    · exact hs
    · exact ((hs.handleOutcome _ _ _).retire _).drainAfter _

/-! ### Frames received (R49, R50, R57, R93, R116 to R119) -/

theorem State.LinksOk.probeReceived (source : NodeId) (h : s.LinksOk) : (s.probeReceived source).LinksOk := by
  unfold State.probeReceived
  split
  · split
    · exact (h.enterActive _).congr rfl
    · exact h.congr rfl
    · exact h.congr rfl
    · exact h.congr rfl
    · exact h
  · split
    · split
      · rename_i n _
        have hs : (s.setLink n { s.link n with neighbour := some source }).LinksOk := h.setLink (h n)
        exact (hs.enterActive _).congr rfl
      · exact h
    · exact h

theorem State.LinksOk.replyReceived (source : NodeId) (h : s.LinksOk) : (s.replyReceived source).LinksOk := by
  unfold State.replyReceived
  split
  · split
    · exact h.enterActive _
    · exact h
  · exact h

theorem State.LinksOk.linkBeacon (source : NodeId) (t : TimingPair) (p : PlanPair) (h : s.LinksOk) :
    (s.linkBeacon source t p).LinksOk := by
  unfold State.linkBeacon
  split
  · exact h
  · split
    · exact h.setLink (LinkRec.boundsOk_comparePlan p (h _))
    · exact h

theorem State.LinksOk.learnBeacon (source : NodeId) (es : List Advert) (h : s.LinksOk) :
    (s.learnBeacon source es).LinksOk := by
  unfold State.learnBeacon
  split
  · exact h
  · dsimp only
    split
    · exact State.LinksOk.reevaluate (h.congr rfl)
    · exact h.congr rfl

/-- R155: the Timing Unit writes no link record. -/
theorem State.LinksOk.timingBeacon (source : NodeId) (x : Sighting) (h : s.LinksOk) :
    (s.timingBeacon source x).LinksOk := by
  cases hu : s.usableLinkOf source with
  | none => simpa only [State.timingBeacon, hu] using h
  | some n =>
    obtain ⟨T, L, F, ht, -⟩ := State.timingBeacon_frame (x := x) hu
    rw [ht]
    exact h.congr rfl

theorem State.LinksOk.takeBeacon (r hd b : List Byte) (h : s.LinksOk) : (s.takeBeacon r hd b).LinksOk := by
  unfold State.takeBeacon
  dsimp only
  split
  · exact ((h.linkBeacon _ _ _).learnBeacon _ _).timingBeacon _ _
  · exact h

/-! ### DATA frames and the Local Intake (R119, R122 to R127) -/

theorem State.LinksOk.admitQueue {r : Request} {g : Tag} (h : s.LinksOk) (ha : s.admitQueue r n = some (t, g)) :
    t.LinksOk := by
  unfold State.admitQueue at ha
  split at ha
  · obtain ⟨u, -, e⟩ := Option.map_eq_some_iff.mp ha
    cases e
    exact h.congr rfl
  · cases ha

theorem State.LinksOk.admitHeld {r : Request} {g : Tag} (h : s.LinksOk) (ha : s.admitHeld r = some (t, g)) :
    t.LinksOk := by
  unfold State.admitHeld at ha
  split at ha
  · obtain ⟨u, -, e⟩ := Option.map_eq_some_iff.mp ha
    cases e
    exact h.congr rfl
  · cases ha

theorem State.LinksOk.admitForward (b l : Nat) (hd : List Byte) (h : s.LinksOk) :
    (s.admitForward b l hd).1.LinksOk := by
  unfold State.admitForward
  dsimp only
  split
  · exact h
  · split
    · rename_i ha; exact (h.admitHeld ha).congr rfl
    · exact h
  · split
    · rename_i ha; exact (h.admitQueue ha).congr rfl
    · exact h

theorem State.LinksOk.judgeData (b l : Nat) (hd : List Byte) (h : s.LinksOk) : (s.judgeData b l hd).1.LinksOk := by
  unfold State.judgeData
  split
  · exact h
  · split
    · exact h
    · split
      · exact h
      · split
        · exact h
        · split
          · exact h
          · exact h.admitForward _ _ _

theorem State.LinksOk.judge (r : List Byte) (b l : Nat) (hd bd : List Byte) (h : s.LinksOk) :
    (s.judge r b l hd bd).1.LinksOk := by
  unfold State.judge
  split
  · exact h.takeBeacon _ _ _
  · split
    · dsimp only
      split
      · exact h.probeReceived _
      · exact h
    · split
      · dsimp only
        split
        · exact h.replyReceived _
        · exact h
      · exact h.judgeData _ _ _

theorem State.LinksOk.nameRelease (a : Nat) (r : List Byte) (v : Verdict) (h : s.LinksOk) :
    (s.nameRelease a r v).LinksOk := by
  unfold State.nameRelease
  split <;> exact h.congr rfl

theorem State.LinksOk.claim (h : s.LinksOk) : s.claim.LinksOk := by
  unfold State.claim
  split
  · split
    · split
      · exact h.nameRelease _ _ _
      · exact ((h.judge _ _ _ _ _).nameRelease _ _ _).congr rfl
      · exact h
    · exact h
  · exact h

theorem State.LinksOk.releaseTagless (e : LocalEntry) (hd : List Byte) (st : ReleaseStatus) (h : s.LinksOk) :
    (s.releaseTagless e hd st).LinksOk := by
  unfold State.releaseTagless
  split <;> exact h.congr rfl

theorem State.LinksOk.entryAnswered (bs : List Byte) (h : s.LinksOk) : (s.entryAnswered bs).LinksOk := by
  unfold State.entryAnswered
  dsimp only
  split
  · exact h.releaseTagless _ _ _
  · split
    · exact h.congr rfl
    · exact h.releaseTagless _ _ _

theorem State.LinksOk.localHeaderAnswered (bs : List Byte) (last : Bool) (h : s.LinksOk) :
    (s.localHeaderAnswered bs last).LinksOk := by
  unfold State.localHeaderAnswered
  split
  · split
    · exact h.congr rfl
    · split
      · exact h.releaseTagless _ _ _
      · split
        · exact h.congr rfl
        · exact h.releaseTagless _ _ _
  · exact h

theorem State.LinksOk.admitLocal (e : LocalEntry) (hd : List Byte) (h : s.LinksOk) : (s.admitLocal e hd).LinksOk := by
  unfold State.admitLocal
  dsimp only
  split
  · exact h.releaseTagless _ _ _
  · split
    · rename_i ha; exact (h.admitHeld ha).congr rfl
    · exact h.releaseTagless _ _ _
  · split
    · rename_i ha; exact (h.admitQueue ha).congr rfl
    · exact h.congr rfl

theorem State.LinksOk.intakeQuiesce (h : s.LinksOk) : s.intakeQuiesce.LinksOk := by
  unfold State.intakeQuiesce
  split
  · exact h.releaseTagless _ _ _
  · exact h.releaseTagless _ _ _
  · exact h

theorem State.LinksOk.localAdmission (h : s.LinksOk) : s.localAdmission.LinksOk := by
  unfold State.localAdmission
  split
  · split
    · exact h.admitLocal _ _
    · exact h
  · exact h

theorem State.LinksOk.intakeRetry (h : s.LinksOk) : s.intakeRetry.LinksOk := by
  unfold State.intakeRetry
  split
  · split
    · exact h.admitLocal _ _
    · exact h
  · exact h

theorem State.LinksOk.handOver (h : s.LinksOk) : s.handOver.LinksOk := by
  unfold State.handOver
  split
  · split <;> exact h.congr rfl
  · exact h

theorem State.LinksOk.fetchEntry (h : s.LinksOk) : s.fetchEntry.LinksOk := by
  unfold State.fetchEntry
  split
  · split <;> exact h.congr rfl
  · exact h

/-! ### Slots (R135, R136, R138 to R140) -/

theorem State.LinksOk.beaconSlot (j : Nat) (h : s.LinksOk) : (s.beaconSlot j).1.LinksOk := by
  unfold State.beaconSlot
  dsimp only
  split <;> exact h.congr rfl

theorem State.LinksOk.serveReply (j : Nat) (h : s.LinksOk) : (s.serveReply j).1.LinksOk := by
  unfold State.serveReply
  split
  · exact h
  · split
    · exact h.congr rfl
    · split
      · exact h
      · split <;> exact h.congr rfl

theorem State.LinksOk.sharedSlot (j : Nat) (h : s.LinksOk) : (s.sharedSlot j).LinksOk := by
  have hr := h.serveReply j
  unfold State.sharedSlot
  dsimp only
  split
  · exact hr
  · split
    · exact hr
    · rename_i n _
      have hs : (State.sendProbe (s.serveReply j).1 j n).LinksOk := hr.congr rfl
      exact (hs.setLink (l := { (State.sendProbe (s.serveReply j).1 j n).link n with probeSent := true })
        (hs n)).congr rfl

variable {p : BurstPlan}

theorem State.LinksOk.takeFrame (g : Tag) (f : Frame) (h : s.LinksOk) : (s.takeFrame p g f).LinksOk :=
  State.LinksOk.drains (h.congr rfl) (.takeToRing (s.writeDescriptor ..) p.link g f _)

theorem State.LinksOk.takeClass (ts : List Tag) (left : Nat) (h : s.LinksOk) :
    (State.takeClass p ts (s, left)).1.LinksOk := by
  induction ts generalizing s left with
  | nil => exact h
  | cons g ts ih =>
    unfold State.takeClass
    split
    · exact h
    · split
      · exact ih _ (h.takeFrame _ _)
      · exact h

theorem State.LinksOk.takeShared (fuel left : Nat) (h : s.LinksOk) : (State.takeShared p fuel s left).LinksOk := by
  induction fuel generalizing s left with
  | zero => exact h
  | succ fuel ih =>
    unfold State.takeShared
    dsimp only
    split
    · rename_i g f _
      have hf : (s.takeFrame p g f).LinksOk := h.takeFrame g f
      exact ih _ (hf.setLink (hf p.link))
    · exact h

theorem State.LinksOk.txSlot (j : Nat) (h : s.LinksOk) : (s.txSlot j n).LinksOk := by
  have hburst : (s.burst j n).LinksOk := ((h.takeClass _ _).takeClass _ _).takeShared _ _
  unfold State.txSlot
  split
  · exact hburst
  · exact hburst
  · split <;> exact h.congr rfl
  · exact h

theorem State.LinksOk.slotAction (j : SlotIx) (h : s.LinksOk) : (s.slotAction j).1.LinksOk := by
  unfold State.slotAction
  split
  · split
    · exact h.beaconSlot _
    · exact h.sharedSlot _
    · exact h.txSlot _
    · exact h
  · exact h

theorem State.LinksOk.startSlot (h : s.LinksOk) : s.startSlot.LinksOk := by
  unfold State.startSlot
  split
  · exact h
  · split
    · exact h
    · rename_i j _ _
      have hs : (s.enterSlot j).LinksOk := h.congr rfl
      exact (hs.slotAction j).congr rfl

/-! ### Boundaries and consequences (R56, R58, R132, R151) -/

theorem State.LinksOk.linksAtBoundary (h : s.LinksOk) : s.linksAtBoundary.LinksOk := fun m => by
  have hm : s.linksAtBoundary.link m = (s.link m).atBoundary := by simp [State.link, State.linksAtBoundary]
  rw [hm]
  exact LinkRec.boundsOk_atBoundary (h m)

theorem State.LinksOk.advanceStage (h : s.LinksOk) : s.advanceStage.LinksOk := by
  unfold State.advanceStage
  split <;> exact h.congr rfl

theorem State.LinksOk.takeBoundary (b : Block) (h : s.LinksOk) : (s.takeBoundary b).1.LinksOk := by
  cases b with
  | framePool => exact h.congr rfl
  | linkTable =>
    unfold State.takeBoundary State.linkBoundary
    dsimp only
    split
    · exact h.linksAtBoundary
    · exact h
  | routeTable =>
    unfold State.takeBoundary State.routeBoundary
    dsimp only
    split <;> exact h.congr rfl
  | slotScheduler =>
    unfold State.takeBoundary State.schedulerBoundary
    dsimp only
    split
    · exact h.advanceStage.slotAction 0
    · exact h
  | engine =>
    unfold State.takeBoundary State.engineBoundary
    dsimp only
    split <;> exact h.congr rfl

theorem State.LinksOk.enterHoldover (h : s.LinksOk) : s.enterHoldover.LinksOk := by
  unfold State.enterHoldover
  split <;> exact h.congr rfl

theorem State.LinksOk.endHoldover (h : s.LinksOk) : s.endHoldover.LinksOk := by
  unfold State.endHoldover
  split <;> exact h.congr rfl

theorem State.LinksOk.giveUpParent (h : s.LinksOk) : s.giveUpParent.LinksOk := by
  unfold State.giveUpParent
  split <;> exact h.congr rfl

theorem State.LinksOk.perform (c : Consequence) (h : s.LinksOk) : (s.perform c).LinksOk := by
  cases c with
  | agedRelease g => exact h.drains (.releaseAged s g)
  | holdTimeout g => exact h.drains (.releaseTimedOut s g)
  | beaconLoss n => exact h.loseBeacons
  | openTimeout n => exact h.expireOpen
  | blockHoldExpiry n => exact h.expireBlock
  | quiesceLimit => exact h.drains (.giveUp s)
  | silenceLimit => exact h.enterHoldover
  | holdoverTimeout => exact h.endHoldover
  | outlierLimit => exact h.giveUpParent
  | routeStale p => exact h.congr rfl
  | routeAgePoison p => exact h.congr rfl
  | ownSequenceAdvance => exact h.congr rfl
  | poisonCountExpiry p => exact h.congr rfl

theorem State.LinksOk.advance (ws : List Work) (h : s.LinksOk) : (State.advance ws s).LinksOk := by
  induction ws generalizing s with
  | nil => exact h.congr rfl
  | cons w ws ih =>
    cases w with
    | due c => exact h.congr rfl
    | take b =>
      have hb := h.takeBoundary b
      unfold State.advance
      split
      · rename_i hr; exact ih (by rwa [hr] at hb)
      · rename_i hr; rw [hr] at hb; exact hb.congr rfl

theorem State.LinksOk.finish (ws : List Work) (h : s.LinksOk) : (State.finish ws s).LinksOk := by
  induction ws generalizing s with
  | nil => exact h.congr rfl
  | cons w ws ih =>
    cases w with
    | due c => exact ih (h.perform c)
    | take b => exact ih ((h.takeBoundary b).foldl (fun _ c h => h.perform c) _)

theorem State.LinksOk.resolve (kind : Consequence → Bool) (h : s.LinksOk) : (s.resolve kind).LinksOk := by
  unfold State.resolve
  split
  · split
    · exact (h.perform _).advance _
    · exact h
  · exact h

theorem State.LinksOk.applyPendingRoot (h : s.LinksOk) : s.applyPendingRoot.LinksOk := by
  unfold State.applyPendingRoot
  split <;> exact h.congr rfl

theorem State.LinksOk.countSilence (h : s.LinksOk) : s.countSilence.LinksOk := by
  unfold State.countSilence
  split
  · split
    · exact h.congr rfl
    · split <;> exact h.congr rfl
  · split <;> exact h.congr rfl
  · exact h

theorem State.LinksOk.boundary (order : List Block) (h : s.LinksOk) : (s.boundary order).LinksOk := by
  have hs : (s.newSuperframe (max s.timing.timebase s.superframeEnd)).LinksOk := h.congr rfl
  exact hs.applyPendingRoot.countSilence.advance _

theorem State.LinksOk.expireBudget (h : s.LinksOk) : s.expireBudget.LinksOk := by
  unfold State.expireBudget
  split <;> exact h.congr rfl

end Blocks

end Sys2Proof.Machine
end

section
/-!
PROOF. Every step keeps the bounds of the link records (R72): the software commands, resets and the anchor commit,
reports, the port and the accesses that wait, and then the rows.
-/

namespace Sys2Proof.Machine

/-! ### Software commands -/

section Commands
variable (s : State) (seq : BitVec 16)

@[simp] theorem State.recall_linkTable (which : InFlight → Bool) : (s.recall which).linkTable = s.linkTable := rfl

@[simp] theorem State.commandRouteUnpin_linkTable (dest : NodeId) :
    (s.commandRouteUnpin seq dest).linkTable = s.linkTable := by
  unfold State.commandRouteUnpin
  split
  · rfl
  · split <;> rfl

@[simp] theorem State.commandRouteQuery_linkTable (sel : Byte) (v : BitVec 16) :
    (s.commandRouteQuery seq sel v).linkTable = s.linkTable := by
  unfold State.commandRouteQuery
  split
  · rfl
  · split
    · rfl
    · split <;> rfl
  · rfl

@[simp] theorem State.commandPlanWrite_linkTable (c first count : Byte) (es : List Byte) :
    (s.commandPlanWrite seq c first count es).linkTable = s.linkTable := by
  unfold State.commandPlanWrite
  dsimp only
  split
  · rfl
  · rfl
  · split <;> rfl

@[simp] theorem State.commandPlanSwitch_linkTable (c : Byte) : (s.commandPlanSwitch seq c).linkTable = s.linkTable := by
  unfold State.commandPlanSwitch
  split
  · rfl
  · split
    · rfl
    · split
      · rfl
      · split <;> rfl

@[simp] theorem State.commandPlanCancel_linkTable : (s.commandPlanCancel seq).linkTable = s.linkTable := by
  unfold State.commandPlanCancel
  split <;> rfl

@[simp] theorem State.commandTimingSet_linkTable (role prop : Byte) :
    (s.commandTimingSet seq role prop).linkTable = s.linkTable := by
  unfold State.commandTimingSet State.askRole
  split
  · rfl
  · split <;> rfl

end Commands

section Steps
variable {s : State} {n : LinkIx}

/-- R86: no climb runs on a closed link. -/
theorem State.LinksOk.climbing_of_closed (h : s.LinksOk) (hc : (s.link n).closed = true) :
    (s.link n).climbing = false :=
  LinkRec.climbing_of_not_active (h n) fun hs => by simp [LinkRec.closed, hs] at hc

theorem State.LinksOk.commandLinkOpen (seq : BitVec 16) (link : Byte) (node : NodeId) (fl ce at' : Byte)
    (h : s.LinksOk) : (s.commandLinkOpen seq link node fl ce at').LinksOk := by
  unfold State.commandLinkOpen
  split
  · exact h.congr rfl
  · split
    · exact h.congr rfl
    · split
      · exact h.congr rfl
      · rename_i n _ hclosed _
        exact (h.setLink (LinkRec.boundsOk_openTo node _ _ _ _ (h n)
          (h.climbing_of_closed (by simpa using hclosed)))).congr rfl

theorem State.LinksOk.commandLinkTune (seq : BitVec 16) (link : Byte) (sel : BitVec 16) (v : TuneValues)
    (h : s.LinksOk) : (s.commandLinkTune seq link sel v).LinksOk := by
  unfold State.commandLinkTune
  split
  · exact h.congr rfl
  · split
    · exact h.congr rfl
    · rename_i n _ hclosed
      have hidle (hard : selectsHard sel = true) : (s.link n).climbing = false :=
        h.climbing_of_closed (by simpa [hard] using hclosed)
      exact (h.setLink (LinkRec.boundsOk_tune v (h n) hidle)).congr rfl

theorem State.LinksOk.commandLinkDrain (seq : BitVec 16) (link : Byte) (h : s.LinksOk) :
    (s.commandLinkDrain seq link).LinksOk := by
  unfold State.commandLinkDrain
  split
  · exact h.congr rfl
  · split
    · exact (h.enterDraining.drains (.drainTest _ _)).congr rfl
    · exact h.congr rfl

theorem State.LinksOk.commandLinkCut (seq : BitVec 16) (link : Byte) (h : s.LinksOk) :
    (s.commandLinkCut seq link).LinksOk := by
  unfold State.commandLinkCut
  split
  · exact h.congr rfl
  · split
    · exact h.congr rfl
    · exact h.congr rfl
    · rename_i n _ _ _ _
      exact (h.enterSilent (n := n)).congr (by simp)

theorem State.LinksOk.commandLinkClear (seq : BitVec 16) (link : Byte) (h : s.LinksOk) :
    (s.commandLinkClear seq link).LinksOk := by
  unfold State.commandLinkClear
  split
  · exact h.congr rfl
  · dsimp only
    split
    · exact h.congr rfl
    · split
      · exact h.congr rfl
      · rename_i n _ _ _
        exact (h.setLink (n := n) (l := { LinkRec.reset with
          attention := (s.link n).attention, interleave := (s.link n).interleave }) LinkRec.boundsOk_reset).congr rfl

theorem State.LinksOk.commandLinkQuery (seq : BitVec 16) (link : Byte) (h : s.LinksOk) :
    (s.commandLinkQuery seq link).LinksOk := by
  unfold State.commandLinkQuery
  split
  · exact h.congr rfl
  · rename_i n _
    exact (h.setLink (n := n) (l := { s.link n with sticky := Sticky.reset }) (h n)).congr rfl

/-- R83: a climb starts at r, which lies between the floor and the ceiling. -/
theorem LinkRec.boundsOk_climb {l : LinkRec} (a : ClimbAct) (h : l.boundsOk = true) (hs : l.isActive = true) :
    LinkRec.boundsOk { l with climb := some ⟨a, l.rate, l.rate, 0⟩, climbing := true } = true := by
  have hm := LinkRec.metricOk_of_boundsOk h
  obtain ⟨-, -, hlow, hhigh, -⟩ := LinkRec.metricOk_iff.mp hm
  exact LinkRec.boundsOk_iff.mpr
    ⟨hm, fun _ => ⟨by simpa [LinkRec.isActive] using hs, _, rfl, hlow, hhigh, hlow, hhigh⟩⟩

theorem State.LinksOk.commandLinkClimb (seq : BitVec 16) (link act : Byte) (h : s.LinksOk) :
    (s.commandLinkClimb seq link act).LinksOk := by
  unfold State.commandLinkClimb
  split
  · exact h.congr rfl
  · exact h.congr rfl
  · dsimp only
    split
    · exact h.congr rfl
    · split
      · exact h.congr rfl
      · rename_i n a _ _ hactive _
        exact (h.setLink (LinkRec.boundsOk_climb a (h n) (by simpa using hactive))).congr rfl

theorem State.LinksOk.commandRoutePin (seq : BitVec 16) (dest : NodeId) (link : Byte) (metric : BitVec 16)
    (h : s.LinksOk) : (s.commandRoutePin seq dest link metric).LinksOk := by
  unfold State.commandRoutePin
  split
  · exact h.congr rfl
  · split
    · exact h.congr rfl
    · split
      · exact h.congr rfl
      · rename_i rt _
        have hs : State.LinksOk { s with routes := rt } := h.congr rfl
        exact hs.reevaluate.congr rfl

theorem State.LinksOk.quiesceRelease (h : s.LinksOk) : s.quiesceRelease.LinksOk :=
  h.drains (.releaseAll s .quiesced _)

theorem State.LinksOk.enterQuiescing (m : ResetMode) (h : s.LinksOk) : (s.enterQuiescing m).LinksOk := by
  have hs : (State.releaseHeld { s with path := { s.path with engine := .quiescing m 0 } }).LinksOk := by
    unfold State.releaseHeld
    split <;> exact h.congr rfl
  exact hs.intakeQuiesce.quiesceRelease.congr rfl

theorem State.LinksOk.commandEngineReset (seq : BitVec 16) (mode : Byte) (h : s.LinksOk) :
    (s.commandEngineReset seq mode).LinksOk := by
  unfold State.commandEngineReset
  split
  · exact h.congr rfl
  · rename_i m _
    have hq := h.enterQuiescing m
    dsimp only
    exact hq.congr rfl

theorem State.LinksOk.apply (c : Instr) (h : s.LinksOk) : (s.apply c).LinksOk := by
  unfold State.apply
  split
  case h_3 => exact h.commandLinkOpen _ _ _ _ _ _
  case h_4 => exact h.commandLinkTune _ _ _ _
  case h_5 => exact h.commandLinkDrain _ _
  case h_6 => exact h.commandLinkCut _ _
  case h_7 => exact h.commandLinkClear _ _
  case h_8 => exact h.commandLinkQuery _ _
  case h_9 => exact h.commandLinkClimb _ _ _
  case h_10 => exact h.commandRoutePin _ _ _ _
  case h_17 => exact h.commandEngineReset _ _
  case h_11 => exact h.congr (by simp)
  case h_12 => exact h.congr (by simp)
  case h_13 => exact h.congr (by simp)
  case h_14 => exact h.congr (by simp)
  case h_15 => exact h.congr (by simp)
  case h_16 => exact h.congr (by simp)
  all_goals exact h.congr rfl

/-! ### Resets, the anchor commit and the reports -/

/-- After a reset of the Link Table every record is the reset record. -/
theorem State.linksOk_of_reset (hl : s.linkTable.links = Vector.replicate 16 LinkRec.reset) : s.LinksOk := fun n => by
  rw [State.link, hl, bankGet_replicate]
  exact LinkRec.boundsOk_reset

theorem State.LinksOk.validateAnchor (sel : BitVec 2) (h : s.LinksOk) : (s.validateAnchor sel).LinksOk := by
  unfold State.validateAnchor
  dsimp only
  split
  · exact State.linksOk_of_reset rfl
  · exact h.congr rfl

theorem State.LinksOk.captureAnchor (o : Nat) (d : List Byte) (h : s.LinksOk) : (s.captureAnchor o d).LinksOk := by
  have hs : State.LinksOk { s with path := { s.path with staging := overlay s.path.staging o d } } := h.congr rfl
  unfold State.captureAnchor
  split
  · exact h
  · dsimp only
    split
    · exact hs.validateAnchor _
    · exact hs

theorem State.LinksOk.signalFreed (h : s.LinksOk) : s.signalFreed.LinksOk := by
  unfold State.signalFreed
  split <;> exact h.congr rfl

theorem State.LinksOk.leaveQuiesce (h : s.LinksOk) : s.leaveQuiesce.LinksOk := by
  unfold State.leaveQuiesce
  split <;> exact h.congr rfl

/-- A report of a link clears its attention and nothing else of its record. -/
theorem State.LinksOk.reported (w : Waiting) (h : s.LinksOk) : (s.reported w).LinksOk := by
  cases w with
  | response code seq st p => exact State.LinksOk.leaveQuiesce (h.congr rfl)
  | release i =>
    cases i with
    | tagless a b => exact h.congr rfl
    | entry g => exact State.LinksOk.signalFreed (h.congr rfl)
  | attention n => exact h.setLink (h n)
  | planActive p => exact h.congr rfl
  | timing t => exact h.congr rfl

theorem State.LinksOk.writeReport (h : s.LinksOk) : s.writeReport.LinksOk := by
  unfold State.writeReport
  split
  · split
    · split
      · exact State.LinksOk.reported _ (h.congr rfl)
      · exact h.congr rfl
    · exact h
  · exact h

/-! ### The port (R170 to R172) -/

theorem State.LinksOk.reportFetch (p : Nat) (h : s.LinksOk) : (s.reportFetch p).LinksOk := by
  unfold State.reportFetch
  split
  · exact h
  · split
    · exact h
    · dsimp only
      split
      · exact State.LinksOk.drains (h.congr rfl) (.markFetched _ _)
      · exact h.congr rfl

theorem State.LinksOk.headerAnswered (bs : List Byte) (last : Bool) (h : s.LinksOk) :
    (s.headerAnswered bs last).LinksOk := by
  unfold State.headerAnswered State.headerGathered
  split
  · split
    · split
      · split
        · split <;> exact h.congr rfl
        · exact h.congr rfl
      · exact h.congr rfl
    · exact h.congr rfl
  · exact h

theorem State.LinksOk.bodyAnswered (bs : List Byte) (last : Bool) (h : s.LinksOk) :
    (s.bodyAnswered bs last).LinksOk := by
  unfold State.bodyAnswered
  split
  · split
    · split <;> exact h.congr rfl
    · exact h.congr rfl
  · exact h

theorem State.LinksOk.answered (who : Reader) (bs : List Byte) (last : Bool) (h : s.LinksOk) :
    (s.answered who bs last).LinksOk := by
  cases who with
  | classifierHeader => exact h.headerAnswered bs last
  | classifierBody => exact h.bodyAnswered bs last
  | intakeEntry => exact h.entryAnswered bs
  | intakeHeader => exact h.localHeaderAnswered bs last
  | command => exact State.LinksOk.apply _ (h.congr rfl)

theorem State.LinksOk.writeTaken (what : Writer) (a : Nat) (d : List Byte) (h : s.LinksOk) :
    (s.writeTaken what a d).LinksOk := by
  unfold State.writeTaken State.skipTaken
  split
  · exact h.congr (by simp)
  · split <;> exact h.congr (by simp [State.clearRecalled])
  · exact h.congr rfl
  · exact h.congr rfl

theorem State.LinksOk.takeHead (h : s.LinksOk) : s.takeHead.LinksOk := by
  have hd : s.dropHead.LinksOk := h.congr rfl
  unfold State.takeHead
  split
  · exact h
  · split
    · exact hd.answered _ _ _
    · exact hd
  · exact hd.writeTaken _ _ _

theorem State.LinksOk.yieldFor (fuel : Nat) (h : s.LinksOk) : (State.yieldFor fuel s).LinksOk := by
  induction fuel generalizing s with
  | zero => exact h
  | succ fuel ih =>
    unfold State.yieldFor
    split
    · exact ih h.takeHead
    · exact h

theorem State.LinksOk.yieldPort (h : s.LinksOk) : s.yieldPort.LinksOk := h.yieldFor _

theorem State.LinksOk.takeRun (who : Reader) (fuel : Nat) (h : s.LinksOk) : (State.takeRun who fuel s).LinksOk := by
  induction fuel generalizing s with
  | zero => exact h
  | succ fuel ih =>
    unfold State.takeRun
    split
    · split
      · split
        · exact h.takeHead
        · exact ih h.takeHead
      · exact h
    · exact h

theorem State.LinksOk.answerRun (who : Reader) (h : s.LinksOk) : (s.answerRun who).LinksOk := h.takeRun _ _

/-! ### System-side accesses (R164, R166 to R168) -/

theorem State.LinksOk.copyWrite (a : Nat) (d : List Byte) (p : Nat) (h : s.LinksOk) : (s.copyWrite a d p).LinksOk := by
  unfold State.copyWrite
  split
  · exact h.yieldPort.congr rfl
  · exact h.congr rfl

theorem State.LinksOk.holdRecord (a : Nat) (d : List Byte) (h : s.LinksOk) : (s.holdRecord a d).LinksOk := by
  unfold State.holdRecord State.beginDecision
  split <;> exact h.congr rfl

theorem State.LinksOk.capture (w : PostWord) (v : Nat) (h : s.LinksOk) : (s.capture w v).LinksOk := by
  unfold State.capture
  split
  · exact h
  · split
    all_goals
      split
      · exact h.congr rfl
      · exact h

theorem State.LinksOk.takeWrite (a : Nat) (d : List Byte) (h : s.LinksOk) : (s.takeWrite a d).LinksOk := by
  have hs : (s.yieldPort.store a d).LinksOk := h.yieldPort.congr rfl
  unfold State.takeWrite
  split
  · exact hs
  · exact h
  · exact h.holdRecord _ _
  · exact h.copyWrite _ _ _
  · exact hs.capture _ _
  · exact hs.captureAnchor _ _

theorem State.LinksOk.fetchPosition (p : Nat) (h : s.LinksOk) : (s.fetchPosition p).LinksOk := by
  unfold State.fetchPosition
  split
  · exact State.LinksOk.reportFetch _ (h.congr (by simp))
  · exact h

theorem State.LinksOk.takeAccess (x : Access) (h : s.LinksOk) : (s.takeAccess x).LinksOk := by
  cases x with
  | write a d => exact h.takeWrite _ _
  | read a n => exact h.yieldPort.foldl (fun _ p h => h.fetchPosition p) _

theorem State.LinksOk.proceedFor (fuel : Nat) (h : s.LinksOk) : (State.proceedFor fuel s).LinksOk := by
  induction fuel generalizing s with
  | zero => exact h
  | succ fuel ih =>
    unfold State.proceedFor
    split
    · exact h
    · exact ih (State.LinksOk.takeAccess _ (h.congr rfl))

theorem State.LinksOk.proceed (h : s.LinksOk) : s.proceed.LinksOk := h.proceedFor _

theorem State.LinksOk.access (x : Access) (h : s.LinksOk) : (s.access x).LinksOk := by
  unfold State.access
  split
  · exact h.congr rfl
  · exact (h.takeAccess x).proceed

theorem State.LinksOk.takeHeld (h : s.LinksOk) : s.takeHeld.LinksOk := by
  have hs (a : Nat) (d : List Byte) : ((s.yieldPort.store a d).setSlot .empty).LinksOk := h.yieldPort.congr rfl
  unfold State.takeHeld
  split
  · exact (hs _ _).proceed
  · exact (hs _ _).proceed
  · exact h

theorem State.LinksOk.refillCompletion (h : s.LinksOk) : s.refillCompletion.LinksOk := by
  have he : (s.setSlot .empty).LinksOk := h.congr rfl
  unfold State.refillCompletion
  split
  · split
    · exact State.LinksOk.proceed (he.yieldPort.congr rfl)
    · exact h
  · exact h

theorem State.LinksOk.processCompletion (h : s.LinksOk) : s.processCompletion.LinksOk := by
  unfold State.processCompletion
  split
  · exact h
  · exact h.takeCompletion.refillCompletion

theorem State.LinksOk.fetchCommand (h : s.LinksOk) : s.fetchCommand.LinksOk := by
  unfold State.fetchCommand
  split
  · split
    · exact h.congr rfl
    · exact h
  · exact h

/-! ### The end of a quiesce and the settling of an event -/

theorem State.LinksOk.releaseWaiting (m : ResetMode) (h : s.LinksOk) : (s.releaseWaiting m).LinksOk := by
  have he : (s.setSlot .empty).LinksOk := h.congr rfl
  unfold State.releaseWaiting
  split
  · split <;> exact he.yieldPort.congr rfl
  · exact h

theorem State.LinksOk.readyReset (h : s.LinksOk) : s.readyReset.LinksOk := by
  unfold State.readyReset
  split <;> exact h.congr rfl

theorem State.linksOk_endQuiesce (s : State) : s.endQuiesce.LinksOk :=
  have hs : (s.clearBlocks s.quiesceMode).LinksOk := State.linksOk_of_reset rfl
  (hs.releaseWaiting _).readyReset.proceed

theorem State.LinksOk.letPass (h : s.LinksOk) : s.letPass.LinksOk :=
  State.LinksOk.proceed (State.LinksOk.releaseWaiting
    (s := { s with completion := { s.completion with queue := [] } }) .unanchor (h.congr rfl))

theorem State.LinksOk.reportWrite (h : s.LinksOk) : s.reportWrite.LinksOk := by
  unfold State.reportWrite
  dsimp only
  split
  · exact h.writeReport.letPass
  · exact h.writeReport

theorem State.LinksOk.finishWork (h : s.LinksOk) : s.finishWork.LinksOk := h.finish _

theorem State.LinksOk.settle (h : s.LinksOk) : s.settle.LinksOk := by
  unfold State.settle
  dsimp only
  split
  · exact s.finishWork.linksOk_endQuiesce
  · exact h.finishWork

theorem State.LinksOk.idle (h : s.LinksOk) : s.idle.LinksOk := by
  unfold State.idle
  dsimp only
  split
  · exact h.settle
  · split <;> exact h.settle.congr rfl

/-! ### The rows -/

/-- Every link record is in bounds in the next state, if there is one. -/
def OutcomeLinksOk (o : Host.Outcome State Fault Refusal) : Prop := ∀ t, o = .next t → t.LinksOk

theorem OutcomeLinksOk.next (h : s.LinksOk) : OutcomeLinksOk (.next s) := by
  rintro _ ⟨⟩
  exact h

theorem OutcomeLinksOk.fault (r : Fault) : OutcomeLinksOk (.fault r) := fun _ h => nomatch h

/-- A software command's row has the command's effect, or none. -/
theorem State.LinksOk.onCommand {effect : State → State} (c : Instr) (he : ∀ s : State, s.LinksOk → (effect s).LinksOk)
    (h : s.LinksOk) : OutcomeLinksOk (.next (s.settle.onCommand c effect)) := by
  refine .next ?_
  unfold State.onCommand
  split
  · exact he _ (h.settle.congr rfl)
  · exact h.settle

theorem State.LinksOk.systemSideWrite (a : BitVec 32) (d : List Byte) (h : s.LinksOk) :
    OutcomeLinksOk (systemSideWrite a d s) := by
  unfold Sys2Proof.Machine.systemSideWrite
  split
  · exact .next (h.settle.access _)
  · exact .fault _

/-- A row that takes the head of the injection queue in some cases, and otherwise changes nothing. -/
theorem State.LinksOk.takeHead_or {t : State} (h : s.LinksOk) (ht : t = s ∨ t = s.takeHead ∨ t = s.takeHead.proceed) :
    OutcomeLinksOk (.next t) := by
  obtain rfl | rfl | rfl := ht
  exacts [.next h, .next h.takeHead, .next h.takeHead.proceed]

theorem State.LinksOk.exec (i : Instr) (h : s.LinksOk) : OutcomeLinksOk (exec i s) := by
  have hs := h.settle
  cases i
  case pinReset => exact .next (State.linksOk_of_reset rfl)
  case resetNRelease sel =>
    refine .next ?_
    split
    · exact h.congr rfl
    · exact h
  -- The system-side accesses.
  case anchorWrite a d => exact h.systemSideWrite a d
  case anchorCommit a d => exact h.systemSideWrite a d
  case systemWrite a d => exact h.systemSideWrite a d
  case droppedWrite a d => exact h.systemSideWrite a d
  case receiveCompletionWrite a d => exact h.systemSideWrite a d
  case transmitCompletionWrite a d => exact h.systemSideWrite a d
  case commandPostWord a d => exact h.systemSideWrite a d
  case localPostWord a d => exact h.systemSideWrite a d
  case reportConsumedWord a d => exact h.systemSideWrite a d
  case descriptorFetch a n =>
    unfold Machine.exec execDescriptorFetch
    dsimp only
    split
    · exact .next (hs.access _)
    · exact .fault _
  -- The port.
  case heldWriteTaken => exact .next hs.takeHeld
  case rewriteTaken => exact hs.takeHead_or (by split <;> simp)
  case descriptorWriteTaken => exact hs.takeHead_or (by split <;> simp)
  case skipWriteTaken => exact hs.takeHead_or (by split <;> simp)
  case injectedWriteTaken => exact hs.takeHead_or (by split <;> simp)
  -- Reception and the Local Intake.
  case headerReadDone => exact .next (hs.answerRun _)
  case beaconBodyReadDone => exact .next (hs.answerRun _)
  case claim => exact .next hs.claim
  case holdBudgetExpiry => exact .next hs.expireBudget
  case localEntryFetch => exact .next hs.fetchEntry
  case localEntryReadDone => exact .next (hs.answerRun _)
  case localHeaderReadDone => exact .next (hs.answerRun _)
  case localAdmission => exact .next hs.localAdmission
  case localIntakeRetry => exact .next hs.intakeRetry
  case taglessHandover => exact .next hs.handOver
  -- The software commands.
  case commandFetch => exact .next hs.fetchCommand
  case nop seq => exact h.onCommand _ fun _ h => h.congr rfl
  case unknownCommand code seq => exact h.onCommand _ fun _ h => h.congr rfl
  case linkOpen => exact h.onCommand _ fun _ h => h.commandLinkOpen _ _ _ _ _ _
  case linkTune => exact h.onCommand _ fun _ h => h.commandLinkTune _ _ _ _
  case linkDrain => exact h.onCommand _ fun _ h => h.commandLinkDrain _ _
  case linkCut => exact h.onCommand _ fun _ h => h.commandLinkCut _ _
  case linkClear => exact h.onCommand _ fun _ h => h.commandLinkClear _ _
  case linkQuery => exact h.onCommand _ fun _ h => h.commandLinkQuery _ _
  case linkClimb => exact h.onCommand _ fun _ h => h.commandLinkClimb _ _ _
  case routePin => exact h.onCommand _ fun _ h => h.commandRoutePin _ _ _ _
  case routeUnpin => exact h.onCommand _ fun _ h => h.congr (by simp)
  case routeQuery => exact h.onCommand _ fun _ h => h.congr (by simp)
  case planWrite => exact h.onCommand _ fun _ h => h.congr (by simp)
  case planSwitch => exact h.onCommand _ fun _ h => h.congr (by simp)
  case planCancel => exact h.onCommand _ fun _ h => h.congr (by simp)
  case timingSet => exact h.onCommand _ fun _ h => h.congr (by simp)
  case engineReset => exact h.onCommand _ fun _ h => h.commandEngineReset _ _
  -- The rows that follow the timebase, and the completions and reports.
  case completionProcess => exact .next hs.processCompletion
  case reportWrite => exact .next hs.reportWrite
  case slotStart => exact .next hs.startSlot
  case superframeBoundary order =>
    unfold Machine.exec execSuperframeBoundary
    refine .next ?_
    split
    · exact hs
    · exact hs.boundary order
  case quiesceEnd =>
    unfold Machine.exec execQuiesceEnd
    refine .next ?_
    split
    · exact s.finishWork.linksOk_endQuiesce
    · exact h.finishWork
  -- The consequences.
  all_goals exact .next (h.resolve _)

theorem State.LinksOk.step (h : s.LinksOk) : OutcomeLinksOk (step s) := by
  unfold Machine.step
  split
  · exact .next h.idle
  · exact State.LinksOk.exec _ (h.congr rfl)

end Steps

/-- Settles O7: `State.LinksOk.step`. Every write of a rate keeps it between the floor and the ceiling and sets the cost
of the new rate (R78), and a climb runs on an ACTIVE link alone with both its rates between the two (R83 to R86). -/
theorem stepKeepsLinkBounds : Obligations.StepKeepsLinkBounds := by
  intro s t hs ht n
  have hb : (t.link n).boundsOk = true := State.LinksOk.step hs t ht n
  obtain ⟨hest, ⟨hcost, hsat⟩, hlow, hhigh, -⟩ := LinkRec.metricOk_iff.mp (LinkRec.metricOk_of_boundsOk hb)
  exact ⟨hb, hest, hcost, hsat, hlow, hhigh⟩

end Sys2Proof.Machine
end

section
/-!
PROOF. O35 fails where the Route Table breaks R91: a live entry whose alternate is the link of its primary. When that
link's drain breaks off, R103 promotes the alternate, so the lookup names the SILENT link still and the completed frame
is requeued to it, while the statement has that link's queue empty. The pool invariant, which the statement takes as a
premise, says nothing of route entries.
-/

namespace Sys2Proof.Machine

/-- A TABLE frame of link 2 in the ring, with one requeue left. -/
def ringFrame : Frame := ⟨.forward, 0x10000, 100, 0xC4, .bulk, .table, .inRing 2 0, some 1, 0, 0⟩

/-- Its completion record: UNDELIVERED at ring position 0, after one attempt. -/
def ringLoss : CompletionItem := ⟨0, [0, 0, 2, 1, 0, 0, 0, 0, 0, 0, 0, 0, 0, 0, 0, 0]⟩

/-- Link 2 is DRAINING and one loss short of its block threshold; the route of the frame's destination has it both as
primary and as alternate. -/
def twiceRouted : State :=
  { (State.reset.setFrame 0 (some ringFrame)).setLink 2
      { LinkRec.reset with neighbour := some 0x33, state := .draining, blockThreshold := 1 } with
    path := { MemoryPath.reset with engine := .running, ownId := 0x21 }
    routes := RouteTable.reset.setEntry 0 (some ⟨0xC4, .live false ⟨2, 1⟩ (some ⟨2, 2⟩) 0 0⟩)
    sched := { Scheduler.reset with
      ringSize := some 16, inFlight := [⟨0, .data 0 2, false, true, false⟩], producer := 1 }
    completion := ⟨[ringLoss], 0⟩ }

theorem twiceRouted_poolOk : twiceRouted.PoolOk :=
  State.PoolOk.congr (((State.poolOk_reset.lifted_of_free (State.reset_frame 0)).setFrame _).poolOk_of_inFlight
    (State.frame_setFrame_same ..) rfl) rfl

/-- The frame comes back to the queue of link 2. -/
theorem twiceRouted_processed : (twiceRouted.settle.processCompletion.queuesOf 2).bulk = [0] := by decide +kernel

/-- Refutes O35: `twiceRouted` meets the premises, and link 2 breaks its drain off with its queue not empty. -/
theorem not_deliveredFramesAreSampled : ¬ Obligations.DeliveredFramesAreSampled := by
  intro h
  obtain ⟨t, hexec, -, -, -, -, -, -, -, -, hundelivered, -⟩ :=
    h twiceRouted ringLoss [] ⟨0, .data 0 2, false, true, false⟩ 0 2 ringFrame (by decide +kernel) twiceRouted_poolOk
      rfl (fun _ _ _ => nofun) rfl rfl (by decide) rfl (by decide) rfl (State.frame_setFrame_same ..) rfl
      (by decide +kernel) nofun
  obtain ⟨-, -, hbroken⟩ :=
    hundelivered 0 7 _ (by decide) (.inl ⟨rfl, by decide +kernel, by decide +kernel⟩) rfl
  obtain ⟨-, hplaced⟩ := hbroken rfl (by decide +kernel)
  obtain ⟨-, hcut, -⟩ := hplaced _ rfl rfl
  have hempty : t.queuesOf 2 = ⟨[], [], [], []⟩ := hcut.left
  obtain rfl : twiceRouted.settle.processCompletion = t := Host.Outcome.next.inj hexec
  simpa [hempty] using twiceRouted_processed

end Sys2Proof.Machine
end

section
/-!
PROOF. The Route Table's bounds (R88, R90, R91) under each operation on it: what learning, aging, the loss of a link, a
beacon and a pin leave in an entry.
-/

namespace Sys2Proof.Machine

/-! ### One entry -/

section Body
variable {b : RouteBody} {p : Hop} {q : Option Hop} {st : Bool} {sq : BitVec 16} {age cand hyst count : Nat} {n : LinkIx}

theorem RouteBody.ok_pinned : (RouteBody.pinned p).ok = true ↔ p.metric < 65535 := decide_eq_true_iff

theorem RouteBody.ok_live : (RouteBody.live st p q sq age).ok = true ↔
    p.metric < 65535 ∧ age ≤ 255 ∧ ∀ x, q = some x → x.metric < 65535 ∧ x.link ≠ p.link := by
  have hp : p.metricOk = true ↔ p.metric < 65535 := decide_eq_true_iff
  cases q with
  | none => simp [RouteBody.ok, hp]
  | some x =>
    have hx : x.metricOk = true ↔ x.metric < 65535 := decide_eq_true_iff
    simp [RouteBody.ok, hp, hx, and_assoc]

theorem RouteBody.ok_poisoned : (RouteBody.poisoned sq age count).ok = true ↔ age ≤ 255 ∧ count ≤ 4 := by
  simp [RouteBody.ok]

theorem RouteBody.ok_poison : (RouteBody.poison sq).ok = true := RouteBody.ok_poisoned.mpr ⟨Nat.zero_le _, Nat.le_refl 4⟩

theorem RouteBody.ok_fresh (h : cand < 65535) : (RouteBody.fresh n cand sq).ok = true :=
  RouteBody.ok_live.mpr ⟨h, Nat.zero_le _, nofun⟩

/-- R97: the primary's path takes the new metric, or the alternate the primary's place. -/
theorem RouteBody.ok_refreshPrimary (h : (RouteBody.live st p q sq age).ok = true) :
    (refreshPrimary st p q sq age cand hyst).ok = true := by
  obtain ⟨-, hage, hq⟩ := RouteBody.ok_live.mp h
  unfold refreshPrimary Config.saturated
  split
  · cases q with
    | none => exact RouteBody.ok_live.mpr ⟨‹_›, Nat.zero_le _, nofun⟩
    | some x =>
      obtain ⟨hx, hne⟩ := hq x rfl
      dsimp only
      split
      · exact RouteBody.ok_live.mpr ⟨hx, Nat.zero_le _, fun y hy => by cases hy; exact ⟨‹_›, hne.symm⟩⟩
      · exact RouteBody.ok_live.mpr ⟨‹_›, Nat.zero_le _, fun y hy => by cases hy; exact ⟨hx, hne⟩⟩
  · cases q with
    | none => exact RouteBody.ok_poison
    | some x => exact RouteBody.ok_live.mpr ⟨(hq x rfl).1, hage, nofun⟩

/-- R98: the alternate takes the new metric or is dropped. -/
theorem RouteBody.ok_refreshAlternate (h : (RouteBody.live st p q sq age).ok = true) (hn : p.link ≠ n) :
    (refreshAlternate st p n sq age cand).ok = true := by
  obtain ⟨hp, hage, -⟩ := RouteBody.ok_live.mp h
  unfold refreshAlternate Config.saturated
  split
  · exact RouteBody.ok_live.mpr ⟨hp, hage, fun y hy => by cases hy; exact ⟨‹_›, hn.symm⟩⟩
  · exact RouteBody.ok_live.mpr ⟨hp, hage, nofun⟩

/-- R99: a third link's path becomes the primary, becomes the alternate, or is left. -/
theorem RouteBody.ok_offerThird (h : (RouteBody.live st p q sq age).ok = true) (hn : p.link ≠ n) :
    (offerThird st p q n sq age cand hyst).ok = true := by
  obtain ⟨hp, hage, -⟩ := RouteBody.ok_live.mp h
  have halternate (hc : cand < 65535) : (RouteBody.live st p (some ⟨n, cand⟩) sq age).ok = true :=
    RouteBody.ok_live.mpr ⟨hp, hage, fun y hy => by cases hy; exact ⟨hc, hn.symm⟩⟩
  unfold offerThird Config.saturated
  split
  · exact RouteBody.ok_live.mpr ⟨show cand < 65535 by omega, Nat.zero_le _, fun y hy => by cases hy; exact ⟨hp, hn⟩⟩
  · split
    · cases q with
      | none => exact halternate ‹_›
      | some x =>
        dsimp only
        split
        · exact halternate ‹_›
        · exact h
    · exact h

/-- R96 to R100. -/
theorem RouteBody.ok_learn (n : LinkIx) (cand hyst : Nat) (sq : BitVec 16) (h : b.ok = true) :
    (b.learn n cand hyst sq).1.ok = true := by
  cases b with
  | pinned p => exact h
  | poisoned held age count =>
    dsimp only [RouteBody.learn]
    split
    · split
      · exact RouteBody.ok_fresh ‹_›
      · exact RouteBody.ok_poison
    · exact h
    · exact h
  | live st p q held age =>
    dsimp only [RouteBody.learn]
    split
    · split
      · exact RouteBody.ok_fresh ‹_›
      · exact RouteBody.ok_poison
    · exact h
    · split
      · exact RouteBody.ok_refreshPrimary h
      · split
        · exact RouteBody.ok_refreshAlternate h ‹_›
        · exact RouteBody.ok_offerThird h ‹_›

theorem raiseAge_le (h : age ≤ 255) : raiseAge age ≤ 255 := by
  unfold raiseAge
  split <;> omega

/-- R102: an age stays in its byte. -/
theorem RouteBody.ok_older (h : b.ok = true) : b.older.ok = true := by
  cases b with
  | pinned p => exact h
  | live st p q sq age =>
    obtain ⟨hp, hage, hq⟩ := RouteBody.ok_live.mp h
    exact RouteBody.ok_live.mpr ⟨hp, raiseAge_le hage, hq⟩
  | poisoned sq age count =>
    obtain ⟨hage, hcount⟩ := RouteBody.ok_poisoned.mp h
    exact RouteBody.ok_poisoned.mpr ⟨raiseAge_le hage, hcount⟩

/-- R103: the alternate takes the lost primary's place, or is dropped. -/
theorem RouteBody.ok_dropLink (n : LinkIx) (h : b.ok = true) : (b.dropLink n).ok = true := by
  cases b with
  | pinned p => exact h
  | poisoned sq age count => exact h
  | live st p q sq age =>
    obtain ⟨hp, hage, hq⟩ := RouteBody.ok_live.mp h
    dsimp only [RouteBody.dropLink]
    split
    · cases q with
      | none => exact RouteBody.ok_poison
      | some x => exact RouteBody.ok_live.mpr ⟨(hq x rfl).1, hage, nofun⟩
    · split
      · exact RouteBody.ok_live.mpr ⟨hp, hage, nofun⟩
      · exact h

theorem RouteBody.ok_countDown (h : b.ok = true) : b.countDown.ok = true := by
  cases b with
  | pinned p => exact h
  | live st p q sq age => exact h
  | poisoned sq age count =>
    obtain ⟨hage, hcount⟩ := RouteBody.ok_poisoned.mp h
    exact RouteBody.ok_poisoned.mpr ⟨hage, (Nat.sub_le ..).trans hcount⟩

end Body

/-- R94: a candidate metric saturates. -/
theorem candidate_le (metric cost penalty : Nat) : candidate metric cost penalty ≤ 65535 := by
  unfold candidate Config.saturated
  split <;> omega

/-! ### The whole table -/

/-- R88, R90, R91: every entry of the table is in bounds. -/
def RouteTable.Ok (rt : RouteTable) : Prop := ∀ p e, rt.entry p = some e → e.body.ok = true

section Table
variable {rt : RouteTable} {p : RoutePos}

theorem RouteTable.entry_setEntry (rt : RouteTable) (p q : RoutePos) (e : Option RouteEntry) :
    (rt.setEntry p e).entry q = if p = q then e else rt.entry q := bankGet_bankPut ..

theorem RouteTable.Ok.setEntry {o : Option RouteEntry} (h : rt.Ok) (ho : ∀ e, o = some e → e.body.ok = true) :
    (rt.setEntry p o).Ok := fun q e he => by
  rw [RouteTable.entry_setEntry] at he
  split at he
  · exact ho e he
  · exact h q e he

/-- An operation that changes each entry by itself keeps the bounds when it keeps those of each body. -/
theorem RouteTable.Ok.map {t : RouteTable} (h : rt.Ok) (f : RoutePos → RouteBody → RouteBody)
    (hf : ∀ p b, b.ok = true → (f p b).ok = true)
    (ht : ∀ p, t.entry p = (rt.entry p).map fun e => ⟨e.dest, f p e.body⟩) : t.Ok := fun p e he => by
  rw [ht] at he
  obtain ⟨x, hx, rfl⟩ := Option.map_eq_some_iff.mp he
  exact hf p x.body (h p x hx)

theorem RouteTable.ok_of_empty (h : rt.entries = Vector.replicate 256 none) : rt.Ok := fun p e he => by
  rw [RouteTable.entry, h, bankGet_replicate] at he
  cases he

theorem RouteTable.Ok.learn (own : NodeId) (n : LinkIx) (cost : Nat) (a : Advert) (h : rt.Ok) :
    (rt.learn own n cost a).1.Ok := by
  unfold RouteTable.learn
  split
  · exact h
  · dsimp only
    split
    · unfold RouteTable.learnNew
      split
      · exact h
      · rename_i hcand
        have hlt := Nat.lt_of_le_of_ne (candidate_le a.metric cost rt.penalty) hcand
        split
        · exact h.setEntry fun e he => by cases he; exact RouteBody.ok_fresh hlt
        · exact h
    · split
      · exact h
      · rename_i p _ _ e he
        exact h.setEntry fun x hx => by cases hx; exact RouteBody.ok_learn _ _ _ _ (h p e he)

theorem RouteTable.Ok.learnAll (own : NodeId) (n : LinkIx) (cost : Nat) (as : List Advert) :
    ∀ r : RouteTable × Bool, r.1.Ok → (RouteTable.learnAll own n cost as r).1.Ok := by
  induction as with
  | nil => exact fun _ h => h
  | cons a as ih => exact fun r h => ih _ (h.learn own n cost a)

theorem RouteTable.Ok.raiseAges (h : rt.Ok) : rt.raiseAges.Ok :=
  h.map (fun _ b => b.older) (fun _ _ => RouteBody.ok_older) fun p => by simp [RouteTable.entry, RouteTable.raiseAges]

theorem RouteTable.Ok.dropLink (n : LinkIx) (h : rt.Ok) : (rt.dropLink n).Ok :=
  h.map (fun _ b => b.dropLink n) (fun _ _ => RouteBody.ok_dropLink n) fun p => RouteTable.entry_dropLink rt n p

theorem RouteTable.Ok.afterBeacon (h : rt.Ok) : rt.afterBeacon.Ok :=
  h.map (fun p b => if p ∈ rt.chosen then b.countDown else b)
    (fun p b hb => by
      split
      · exact RouteBody.ok_countDown hb
      · exact hb)
    fun p => by
      rw [RouteTable.afterBeacon_entry]
      split
      · rfl
      · cases rt.entry p <;> rfl

theorem RouteTable.Ok.turnStale (p : RoutePos) (h : rt.Ok) : (rt.turnStale p).Ok := by
  unfold RouteTable.turnStale
  split
  · rename_i he
    exact h.setEntry fun e hx => by
      cases hx
      exact RouteBody.ok_live.mpr (RouteBody.ok_live.mp (h p _ he))
  · exact h

theorem RouteTable.Ok.agePoison (p : RoutePos) (h : rt.Ok) : (rt.agePoison p).Ok := by
  unfold RouteTable.agePoison
  split
  · exact h.setEntry fun e hx => by cases hx; exact RouteBody.ok_poison
  · exact h

theorem RouteTable.Ok.freePoisoned (p : RoutePos) (h : rt.Ok) : (rt.freePoisoned p).Ok := by
  unfold RouteTable.freePoisoned
  split
  · split
    · exact h.setEntry nofun
    · exact h
  · exact h

/-- R107: a pin's metric is clamped below 65535. -/
theorem RouteTable.Ok.pin {t : RouteTable} {dest : NodeId} {n : LinkIx} {m : Nat} (h : rt.Ok)
    (ht : rt.pin dest n m = some t) : t.Ok := by
  obtain ⟨p, -, rfl⟩ := Option.map_eq_some_iff.mp ht
  exact h.setEntry fun e he => by
    cases he
    exact RouteBody.ok_pinned.mpr (Nat.lt_succ_of_le (clamp_le (by decide)))

end Table

end Sys2Proof.Machine
end

section
/-!
PROOF. The blocks keep the Route Table in bounds (R88, R90, R91): it is written when a link leaves the usable set, by
beacons received and sent, and at a boundary, and everything else leaves it as it is.
-/

namespace Sys2Proof.Machine

/-- R88, R90, R91: every route entry is in bounds. -/
def State.RoutesOk (s : State) : Prop := s.routes.Ok

section Blocks
variable {s t : State} {n m : LinkIx} {g : Tag} {f : Frame}

/-- The bounds are a matter of the Route Table alone. -/
theorem State.RoutesOk.congr (h : s.RoutesOk) (hr : t.routes = s.routes) : t.RoutesOk := by
  rwa [State.RoutesOk, hr]

theorem State.RoutesOk.foldl {α : Type} {f : State → α → State}
    (hf : ∀ (s : State) (a : α), s.RoutesOk → (f s a).RoutesOk) (l : List α) (h : s.RoutesOk) :
    (l.foldl f s).RoutesOk := by
  induction l generalizing s with
  | nil => exact h
  | cons a l ih => exact ih (hf s a h)

/-! ### The drain test and releases (R20, R34, R61) -/

/-- R161: the Timing Unit's notice leaves the Route Table. -/
@[simp] theorem State.timingLinkLost_routes (s : State) (n : LinkIx) : (s.timingLinkLost n).routes = s.routes := by
  unfold State.timingLinkLost
  split <;> rfl

theorem State.RoutesOk.drainTest (h : s.RoutesOk) : (s.drainTest n).RoutesOk := by
  obtain hd | ⟨-, -, -, -, hd⟩ := s.drainTest_cases n <;> rw [hd]
  · exact h
  · rw [State.enterDrained_eq]
    exact RouteTable.Ok.dropLink n h

theorem State.RoutesOk.countFell (h : s.RoutesOk) : (s.countFell n).RoutesOk := by
  rw [State.countFell, State.signalIntake_eq]
  exact State.RoutesOk.drainTest h

theorem State.RoutesOk.release (g : Tag) (st : ReleaseStatus) (h : s.RoutesOk) : (s.release g st).RoutesOk := by
  obtain hr | ⟨f, n, -, -, hr⟩ | ⟨f, -, -, hr⟩ | ⟨f, -, -, hr⟩ := s.release_cases g st <;> rw [hr]
  · exact h
  · exact State.RoutesOk.countFell h
  · exact h
  · exact h

theorem State.RoutesOk.releaseAll (st : ReleaseStatus) (ts : List Tag) (h : s.RoutesOk) :
    (s.releaseAll st ts).RoutesOk := by
  induction ts generalizing s with
  | nil => exact h
  | cons g ts ih => exact ih (h.release g st)

theorem State.RoutesOk.releaseInFlight (g : Tag) (st : ReleaseStatus) (h : s.RoutesOk) :
    (s.releaseInFlight g st).RoutesOk := by
  unfold State.releaseInFlight
  split
  · split
    · exact h.release g st
    · exact h
  · exact h

theorem State.RoutesOk.releaseAged (g : Tag) (h : s.RoutesOk) : (s.releaseAged g).RoutesOk := by
  unfold State.releaseAged
  split
  · exact h
  · split
    · split
      · exact h.release g _
      · exact h
    · split
      · exact h.release g _
      · exact h
    · exact h

theorem State.RoutesOk.releaseTimedOut (g : Tag) (h : s.RoutesOk) : (s.releaseTimedOut g).RoutesOk := by
  unfold State.releaseTimedOut
  split
  · exact h
  · split
    · split
      · exact h.release g _
      · exact h
    · exact h

/-! ### The transmit ring (R25, R27, R28, R145) -/

theorem State.RoutesOk.takeToRing (pos : Nat) (h : s.RoutesOk) : (s.takeToRing n g f pos).RoutesOk :=
  State.RoutesOk.countFell h

theorem State.RoutesOk.markFetched (g : Tag) (h : s.RoutesOk) : (s.markFetched g).RoutesOk := by
  unfold State.markFetched
  split
  · split <;> exact h
  · exact h

theorem State.RoutesOk.placeReturned (target : Option LinkIx) (h : s.RoutesOk) :
    (s.placeReturned g f target).RoutesOk := by
  unfold State.placeReturned
  split
  · exact h
  · split
    · exact h
    · exact State.RoutesOk.release g _ h

theorem State.RoutesOk.requeue (g : Tag) (h : s.RoutesOk) : (s.requeue g).RoutesOk := by
  unfold State.requeue
  split
  · exact h
  · split
    · exact h
    · split
      · exact h.release g _
      · exact h.placeReturned _

theorem State.RoutesOk.expiryReturn (g : Tag) (h : s.RoutesOk) : (s.expiryReturn g).RoutesOk := by
  unfold State.expiryReturn
  split
  · exact h
  · split
    · exact h
    · split
      · exact h.placeReturned _
      · exact h.release g _

theorem State.RoutesOk.giveUp (h : s.RoutesOk) : s.giveUp.RoutesOk := by
  have hreleased : (s.tagsInFlight.foldl (fun s g => s.releaseInFlight g .abandoned) s).RoutesOk :=
    h.foldl (fun _ g h => h.releaseInFlight g _) _
  exact hreleased.foldl (f := fun s (r : InFlight) => s.setMark r.pos .none) (fun _ _ h => h.congr (by simp)) _

/-! ### Moves between queues and to the held list (R29, R30, R31) -/

theorem State.RoutesOk.moveTail (h : s.RoutesOk) : (s.moveTail n m g f).RoutesOk := State.RoutesOk.countFell h

theorem State.RoutesOk.divertOne (n : LinkIx) (g : Tag) (h : s.RoutesOk) : (s.divertOne n g).RoutesOk := by
  unfold State.divertOne
  split
  · exact h
  · split
    · exact h
    · split
      · split
        · exact h
        · exact h.moveTail
      · exact h

theorem State.RoutesOk.divert (n : LinkIx) (h : s.RoutesOk) : (s.divert n).RoutesOk :=
  h.foldl (fun _ g h => h.divertOne n g) _

theorem State.RoutesOk.redispatchOne (n : LinkIx) (g : Tag) (h : s.RoutesOk) : (s.redispatchOne n g).RoutesOk := by
  unfold State.redispatchOne
  split
  · exact h
  · split
    · exact h.release g _
    · split
      · exact h.moveTail
      · split
        · exact State.RoutesOk.countFell h
        · exact h.release g _

theorem State.RoutesOk.redispatch (n : LinkIx) (h : s.RoutesOk) : (s.redispatch n).RoutesOk :=
  h.foldl (fun _ g h => h.redispatchOne n g) _

theorem State.RoutesOk.reevaluate (h : s.RoutesOk) : s.reevaluate.RoutesOk := h.congr (by rw [State.reevaluate_eq])

/-! ### A link's changes of state (R45, R46, R54, R55, R59 to R62) -/

theorem State.RoutesOk.enterActive (n : LinkIx) (k : Attention) (h : s.RoutesOk) : (s.enterActive n k).RoutesOk :=
  State.RoutesOk.reevaluate (s := s.setLink n ((s.link n).opened.attend k)) h

theorem State.RoutesOk.unblock (n : LinkIx) (h : s.RoutesOk) : (s.unblock n).RoutesOk := by
  unfold State.unblock
  exact State.RoutesOk.reevaluate h

theorem State.RoutesOk.enterBlocked (n : LinkIx) (h : s.RoutesOk) : (s.enterBlocked n).RoutesOk := by
  unfold State.enterBlocked
  exact State.RoutesOk.divert n h

/-- R45: the Route Table is told of the link before the pool is. -/
theorem State.RoutesOk.leaveUsable (n : LinkIx) {request : State → State} {reply : Bool}
    (hr : ∀ u : State, u.RoutesOk → (request u).RoutesOk) (h : s.RoutesOk) :
    (s.leaveUsable n request reply).RoutesOk := by
  have hlost : (request (s.routeLinkLost n)).RoutesOk := hr _ (RouteTable.Ok.dropLink n h)
  unfold State.leaveUsable
  dsimp only
  split
  · exact hlost.congr (State.timingLinkLost_routes ..)
  · exact hlost.congr (State.timingLinkLost_routes ..)

theorem State.RoutesOk.enterFailed (n : LinkIx) (r : FailureReason) (h : s.RoutesOk) : (s.enterFailed n r).RoutesOk :=
  State.RoutesOk.leaveUsable (s := s.setLink n { s.link n with state := .failed r }) n
    (fun _ h => h.redispatch n) h

theorem State.RoutesOk.enterSilent (n : LinkIx) (h : s.RoutesOk) : (s.enterSilent n).RoutesOk :=
  State.RoutesOk.leaveUsable (s := s.setLink n { s.link n with state := .silent }) n
    (fun _ h => h.releaseAll .cut _) h

theorem State.RoutesOk.enterDraining (n : LinkIx) (h : s.RoutesOk) : (s.enterDraining n).RoutesOk :=
  State.RoutesOk.leaveUsable (s := s.setLink n { s.link n with state := .draining }) n (fun _ h => h) h

theorem State.RoutesOk.drainBroken (n : LinkIx) (h : s.RoutesOk) : (s.drainBroken n).RoutesOk := h.enterSilent n

theorem State.RoutesOk.loseBeacons (n : LinkIx) (h : s.RoutesOk) : (s.loseBeacons n).RoutesOk := by
  unfold State.loseBeacons
  split
  · exact h.enterFailed n _
  · exact h

theorem State.RoutesOk.expireOpen (n : LinkIx) (h : s.RoutesOk) : (s.expireOpen n).RoutesOk := by
  unfold State.expireOpen
  split
  · exact h.enterFailed n _
  · exact h

theorem State.RoutesOk.expireBlock (n : LinkIx) (h : s.RoutesOk) : (s.expireBlock n).RoutesOk := by
  unfold State.expireBlock
  split
  · exact h.enterFailed n _
  · exact h

/-! ### Outcomes and completions (R53, R146 to R148) -/

theorem State.RoutesOk.linkOutcome (o : TxOutcome) (a : Nat) (data : Bool) (h : s.RoutesOk) :
    (s.linkOutcome n o a data).RoutesOk := by
  unfold State.linkOutcome
  dsimp only
  split
  · exact h
  · split
    · split
      · exact State.RoutesOk.unblock n h
      · exact h
    · split
      · split
        · exact State.RoutesOk.enterBlocked n h
        · split
          · exact State.RoutesOk.drainBroken n h
          · exact h
      · exact h
    · split <;> exact h
    · exact h

theorem State.RoutesOk.ownOutcome (n : LinkIx) (node : NodeId) (o : TxOutcome) (a : Nat) (h : s.RoutesOk) :
    (s.ownOutcome n node o a).RoutesOk := by
  unfold State.ownOutcome
  split
  · exact h
  · exact State.RoutesOk.linkOutcome (s := s.setLink ..) o a false h

theorem State.RoutesOk.carriedOutcome (g : Tag) (n : LinkIx) (o : TxOutcome) (a : Nat) (h : s.RoutesOk) :
    (s.carriedOutcome g n o a).RoutesOk := by
  have hl : ((s.setLink n ((s.link n).measureData o a)).linkOutcome n o a true).RoutesOk :=
    State.RoutesOk.linkOutcome o a true h
  cases o with
  | delivered => exact hl.releaseInFlight g _
  | undelivered => exact hl.requeue g
  | expired => exact hl.expiryReturn g
  | aborted => exact hl.releaseInFlight g _

theorem State.RoutesOk.dataOutcome (g : Tag) (n : LinkIx) (o : TxOutcome) (a : Nat) (h : s.RoutesOk) :
    (s.dataOutcome g n o a).RoutesOk := by
  unfold State.dataOutcome
  split
  · exact h.releaseInFlight g _
  · split
    · exact h.carriedOutcome _ _ _ _
    · exact h.carriedOutcome _ _ _ _
    · exact h.carriedOutcome _ _ _ _
    · exact h.releaseInFlight g _
    · exact h.releaseInFlight g _
    · exact h.releaseInFlight g _
    · exact h.requeue g
    · exact h.expiryReturn g

theorem State.RoutesOk.handleOutcome (r : InFlight) (o : TxOutcome) (a : Nat) (h : s.RoutesOk) :
    (s.handleOutcome r o a).RoutesOk := by
  unfold State.handleOutcome
  split
  · exact h.dataOutcome _ _ _ _
  · exact h
  · exact h.ownOutcome _ _ _ _
  · exact h.ownOutcome _ _ _ _

theorem State.RoutesOk.retire (r : InFlight) (h : s.RoutesOk) : (s.retire r).RoutesOk :=
  h.congr (by simp [State.retire])

theorem State.RoutesOk.drainAfter (c : Carried) (h : s.RoutesOk) : (s.drainAfter c).RoutesOk := by
  unfold State.drainAfter
  split
  · exact h.drainTest
  · exact h

theorem State.RoutesOk.takeCompletion (h : s.RoutesOk) : s.takeCompletion.RoutesOk := by
  unfold State.takeCompletion
  split
  · exact h
  · rename_i cs _
    have hs : State.RoutesOk { s with completion := { s.completion with queue := cs } } := h
    dsimp only
    split
    · exact hs
    · exact ((hs.handleOutcome _ _ _).retire _).drainAfter _

/-! ### Frames received (R49, R50, R93, R116 to R119) -/

theorem State.RoutesOk.probeReceived (source : NodeId) (h : s.RoutesOk) : (s.probeReceived source).RoutesOk := by
  unfold State.probeReceived
  split
  · split
    · exact h.enterActive _ _
    · exact h
    · exact h
    · exact h
    · exact h
  · split
    · split
      · exact State.RoutesOk.enterActive (s := s.setLink ..) _ _ h
      · exact h
    · exact h

theorem State.RoutesOk.replyReceived (source : NodeId) (h : s.RoutesOk) : (s.replyReceived source).RoutesOk := by
  unfold State.replyReceived
  split
  · split
    · exact h.enterActive _ _
    · exact h
  · exact h

@[simp] theorem State.linkBeacon_routes (s : State) (source : NodeId) (t : TimingPair) (p : PlanPair) :
    (s.linkBeacon source t p).routes = s.routes := by
  unfold State.linkBeacon
  split
  · rfl
  · split <;> rfl

theorem State.RoutesOk.learnBeacon (source : NodeId) (es : List Advert) (h : s.RoutesOk) :
    (s.learnBeacon source es).RoutesOk := by
  unfold State.learnBeacon
  split
  · exact h
  · rename_i n _
    have hlearned := RouteTable.Ok.learnAll s.path.ownId n (s.link n).cost es (s.routes, false) h
    dsimp only
    split
    · exact State.RoutesOk.reevaluate hlearned
    · exact hlearned

/-- R155: the Timing Unit's treatment of a beacon leaves the Route Table. -/
@[simp] theorem State.timingBeacon_routes (s : State) (source : NodeId) (x : Sighting) :
    (s.timingBeacon source x).routes = s.routes := by
  cases hu : s.usableLinkOf source with
  | none => simp only [State.timingBeacon, hu]
  | some n =>
    obtain ⟨T, L, F, ht, -⟩ := State.timingBeacon_frame (x := x) hu
    rw [ht]

theorem State.RoutesOk.takeBeacon (r hd b : List Byte) (h : s.RoutesOk) : (s.takeBeacon r hd b).RoutesOk := by
  unfold State.takeBeacon
  dsimp only
  split
  · refine State.RoutesOk.congr (State.RoutesOk.learnBeacon _ _ ?_) (State.timingBeacon_routes ..)
    exact h.congr (State.linkBeacon_routes ..)
  · exact h

/-! ### DATA frames and the Local Intake (R119, R122 to R127) -/

theorem State.RoutesOk.admitQueue {r : Request} (h : s.RoutesOk) (ha : s.admitQueue r n = some (t, g)) :
    t.RoutesOk := by
  unfold State.admitQueue at ha
  split at ha
  · obtain ⟨u, -, e⟩ := Option.map_eq_some_iff.mp ha
    cases e
    exact h
  · cases ha

theorem State.RoutesOk.admitHeld {r : Request} (h : s.RoutesOk) (ha : s.admitHeld r = some (t, g)) : t.RoutesOk := by
  unfold State.admitHeld at ha
  split at ha
  · obtain ⟨u, -, e⟩ := Option.map_eq_some_iff.mp ha
    cases e
    exact h
  · cases ha

theorem State.RoutesOk.admitForward (b l : Nat) (hd : List Byte) (h : s.RoutesOk) :
    (s.admitForward b l hd).1.RoutesOk := by
  unfold State.admitForward
  dsimp only
  split
  · exact h
  · split
    · rename_i ha; exact (h.admitHeld ha).congr rfl
    · exact h
  · split
    · rename_i ha; exact (h.admitQueue ha).congr rfl
    · exact h

theorem State.RoutesOk.judgeData (b l : Nat) (hd : List Byte) (h : s.RoutesOk) : (s.judgeData b l hd).1.RoutesOk := by
  unfold State.judgeData
  split
  · exact h
  · split
    · exact h
    · split
      · exact h
      · split
        · exact h
        · split
          · exact h
          · exact h.admitForward _ _ _

theorem State.RoutesOk.judge (r : List Byte) (b l : Nat) (hd bd : List Byte) (h : s.RoutesOk) :
    (s.judge r b l hd bd).1.RoutesOk := by
  unfold State.judge
  split
  · exact h.takeBeacon _ _ _
  · split
    · dsimp only
      split
      · exact h.probeReceived _
      · exact h
    · split
      · dsimp only
        split
        · exact h.replyReceived _
        · exact h
      · exact h.judgeData _ _ _

theorem State.RoutesOk.nameRelease (a : Nat) (r : List Byte) (v : Verdict) (h : s.RoutesOk) :
    (s.nameRelease a r v).RoutesOk := by
  unfold State.nameRelease
  split <;> exact h

theorem State.RoutesOk.claim (h : s.RoutesOk) : s.claim.RoutesOk := by
  unfold State.claim
  split
  · split
    · split
      · exact h.nameRelease _ _ _
      · exact State.RoutesOk.nameRelease _ _ _ (h.judge _ _ _ _ _)
      · exact h
    · exact h
  · exact h

theorem State.RoutesOk.releaseTagless (e : LocalEntry) (hd : List Byte) (st : ReleaseStatus) (h : s.RoutesOk) :
    (s.releaseTagless e hd st).RoutesOk := by
  unfold State.releaseTagless
  split <;> exact h

theorem State.RoutesOk.entryAnswered (bs : List Byte) (h : s.RoutesOk) : (s.entryAnswered bs).RoutesOk := by
  unfold State.entryAnswered
  dsimp only
  split
  · exact h.releaseTagless _ _ _
  · split
    · exact h
    · exact h.releaseTagless _ _ _

theorem State.RoutesOk.localHeaderAnswered (bs : List Byte) (last : Bool) (h : s.RoutesOk) :
    (s.localHeaderAnswered bs last).RoutesOk := by
  unfold State.localHeaderAnswered
  split
  · split
    · exact h
    · split
      · exact h.releaseTagless _ _ _
      · split
        · exact h
        · exact h.releaseTagless _ _ _
  · exact h

theorem State.RoutesOk.admitLocal (e : LocalEntry) (hd : List Byte) (h : s.RoutesOk) :
    (s.admitLocal e hd).RoutesOk := by
  unfold State.admitLocal
  dsimp only
  split
  · exact h.releaseTagless _ _ _
  · split
    · rename_i ha; exact (h.admitHeld ha).congr rfl
    · exact h.releaseTagless _ _ _
  · split
    · rename_i ha; exact (h.admitQueue ha).congr rfl
    · exact h

theorem State.RoutesOk.intakeQuiesce (h : s.RoutesOk) : s.intakeQuiesce.RoutesOk := by
  unfold State.intakeQuiesce
  split
  · exact h.releaseTagless _ _ _
  · exact h.releaseTagless _ _ _
  · exact h

theorem State.RoutesOk.localAdmission (h : s.RoutesOk) : s.localAdmission.RoutesOk := by
  unfold State.localAdmission
  split
  · split
    · exact h.admitLocal _ _
    · exact h
  · exact h

theorem State.RoutesOk.intakeRetry (h : s.RoutesOk) : s.intakeRetry.RoutesOk := by
  unfold State.intakeRetry
  split
  · split
    · exact h.admitLocal _ _
    · exact h
  · exact h

theorem State.RoutesOk.handOver (h : s.RoutesOk) : s.handOver.RoutesOk := by
  unfold State.handOver
  split
  · split <;> exact h
  · exact h

theorem State.RoutesOk.fetchEntry (h : s.RoutesOk) : s.fetchEntry.RoutesOk := by
  unfold State.fetchEntry
  split
  · split <;> exact h
  · exact h

/-! ### Slots (R106, R135, R136, R138 to R140) -/

theorem State.RoutesOk.beaconSlot (j : Nat) (h : s.RoutesOk) : (s.beaconSlot j).1.RoutesOk := by
  unfold State.beaconSlot
  dsimp only
  split
  · exact RouteTable.Ok.afterBeacon h
  · exact h

theorem State.RoutesOk.serveReply (j : Nat) (h : s.RoutesOk) : (s.serveReply j).1.RoutesOk := by
  unfold State.serveReply
  split
  · exact h
  · split
    · exact h
    · split
      · exact h
      · split <;> exact h

theorem State.RoutesOk.sharedSlot (j : Nat) (h : s.RoutesOk) : (s.sharedSlot j).RoutesOk := by
  have hr := h.serveReply j
  unfold State.sharedSlot
  dsimp only
  split
  · exact hr
  · split <;> exact hr

variable {p : BurstPlan}

theorem State.RoutesOk.takeFrame (g : Tag) (f : Frame) (h : s.RoutesOk) : (s.takeFrame p g f).RoutesOk :=
  State.RoutesOk.takeToRing (s := s.writeDescriptor ..) _ h

theorem State.RoutesOk.takeInterleaved (g : Tag) (f : Frame) (h : s.RoutesOk) :
    (s.takeInterleaved p g f).RoutesOk := by
  unfold State.takeInterleaved
  exact State.RoutesOk.congr (h.takeFrame g f) (State.setLink_routes ..)

theorem State.RoutesOk.takeClass (ts : List Tag) (left : Nat) (h : s.RoutesOk) :
    (State.takeClass p ts (s, left)).1.RoutesOk := by
  induction ts generalizing s left with
  | nil => exact h
  | cons g ts ih =>
    unfold State.takeClass
    split
    · exact h
    · split
      · exact ih _ (h.takeFrame _ _)
      · exact h

theorem State.RoutesOk.takeShared (fuel left : Nat) (h : s.RoutesOk) :
    (State.takeShared p fuel s left).RoutesOk := by
  induction fuel generalizing s left with
  | zero => exact h
  | succ fuel ih =>
    unfold State.takeShared
    dsimp only
    split
    · rename_i g f _
      exact ih _ (h.takeInterleaved g f)
    · exact h

theorem State.RoutesOk.txSlot (j : Nat) (h : s.RoutesOk) : (s.txSlot j n).RoutesOk := by
  have hburst : (s.burst j n).RoutesOk := ((h.takeClass _ _).takeClass _ _).takeShared _ _
  unfold State.txSlot
  split
  · exact hburst
  · exact hburst
  · split <;> exact h
  · exact h

theorem State.RoutesOk.slotAction (j : SlotIx) (h : s.RoutesOk) : (s.slotAction j).1.RoutesOk := by
  unfold State.slotAction
  split
  · split
    · exact h.beaconSlot _
    · exact h.sharedSlot _
    · exact h.txSlot _
    · exact h
  · exact h

theorem State.RoutesOk.startSlot (h : s.RoutesOk) : s.startSlot.RoutesOk := by
  unfold State.startSlot
  split
  · exact h
  · split
    · exact h
    · rename_i j _ _
      exact State.RoutesOk.slotAction (s := s.enterSlot j) j h

/-! ### Boundaries and consequences (R102, R105, R132, R151) -/

theorem State.RoutesOk.advanceStage (h : s.RoutesOk) : s.advanceStage.RoutesOk := by
  unfold State.advanceStage
  split <;> exact h

theorem State.RoutesOk.takeBoundary (b : Block) (h : s.RoutesOk) : (s.takeBoundary b).1.RoutesOk := by
  cases b with
  | framePool => exact State.RoutesOk.congr (t := s.raisePoolAges) h (by rw [State.raisePoolAges])
  | linkTable =>
    unfold State.takeBoundary State.linkBoundary
    dsimp only
    split <;> exact h
  | routeTable =>
    unfold State.takeBoundary State.routeBoundary
    dsimp only
    split
    · exact RouteTable.Ok.raiseAges h
    · exact h
  | slotScheduler =>
    unfold State.takeBoundary State.schedulerBoundary
    dsimp only
    split
    · exact h.advanceStage.slotAction 0
    · exact h
  | engine =>
    unfold State.takeBoundary State.engineBoundary
    dsimp only
    split <;> exact h

theorem State.RoutesOk.enterHoldover (h : s.RoutesOk) : s.enterHoldover.RoutesOk := by
  unfold State.enterHoldover
  split <;> exact h

theorem State.RoutesOk.endHoldover (h : s.RoutesOk) : s.endHoldover.RoutesOk := by
  unfold State.endHoldover
  split <;> exact h

theorem State.RoutesOk.giveUpParent (h : s.RoutesOk) : s.giveUpParent.RoutesOk := by
  unfold State.giveUpParent
  split <;> exact h

theorem State.RoutesOk.perform (c : Consequence) (h : s.RoutesOk) : (s.perform c).RoutesOk := by
  cases c with
  | agedRelease g => exact h.releaseAged g
  | holdTimeout g => exact h.releaseTimedOut g
  | beaconLoss n => exact h.loseBeacons n
  | openTimeout n => exact h.expireOpen n
  | blockHoldExpiry n => exact h.expireBlock n
  | quiesceLimit => exact h.giveUp
  | routeStale p => exact RouteTable.Ok.turnStale p h
  | routeAgePoison p => exact RouteTable.Ok.agePoison p h
  | poisonCountExpiry p => exact RouteTable.Ok.freePoisoned p h
  | ownSequenceAdvance => exact h
  | silenceLimit => exact h.enterHoldover
  | holdoverTimeout => exact h.endHoldover
  | outlierLimit => exact h.giveUpParent

theorem State.RoutesOk.advance (ws : List Work) (h : s.RoutesOk) : (State.advance ws s).RoutesOk := by
  induction ws generalizing s with
  | nil => exact h
  | cons w ws ih =>
    cases w with
    | due c => exact h
    | take b =>
      have hb := h.takeBoundary b
      unfold State.advance
      split
      · rename_i hr; exact ih (by rwa [hr] at hb)
      · rename_i hr; rwa [hr] at hb

theorem State.RoutesOk.finish (ws : List Work) (h : s.RoutesOk) : (State.finish ws s).RoutesOk := by
  induction ws generalizing s with
  | nil => exact h
  | cons w ws ih =>
    cases w with
    | due c => exact ih (h.perform c)
    | take b => exact ih ((h.takeBoundary b).foldl (fun _ c h => h.perform c) _)

theorem State.RoutesOk.resolve (kind : Consequence → Bool) (h : s.RoutesOk) : (s.resolve kind).RoutesOk := by
  unfold State.resolve
  split
  · split
    · exact (h.perform _).advance _
    · exact h
  · exact h

theorem State.RoutesOk.applyPendingRoot (h : s.RoutesOk) : s.applyPendingRoot.RoutesOk := by
  unfold State.applyPendingRoot
  split <;> exact h

theorem State.RoutesOk.countSilence (h : s.RoutesOk) : s.countSilence.RoutesOk := by
  unfold State.countSilence
  split
  · split
    · exact h
    · split <;> exact h
  · split <;> exact h
  · exact h

theorem State.RoutesOk.boundary (order : List Block) (h : s.RoutesOk) : (s.boundary order).RoutesOk :=
  (State.RoutesOk.countSilence (State.RoutesOk.applyPendingRoot (s := s.newSuperframe _) h)).advance _

theorem State.RoutesOk.expireBudget (h : s.RoutesOk) : s.expireBudget.RoutesOk := by
  unfold State.expireBudget
  split <;> exact h

end Blocks

end Sys2Proof.Machine
end

section
/-!
PROOF. Every step keeps the Route Table in bounds (R88, R90, R91): the software commands, resets and the anchor commit,
reports, the port and the accesses that wait, and then the rows.
-/

namespace Sys2Proof.Machine

section Steps
variable {s t : State}

/-! ### Software commands -/

theorem State.RoutesOk.commandLinkOpen (seq : BitVec 16) (link : Byte) (node : NodeId) (fl ce at' : Byte)
    (h : s.RoutesOk) : (s.commandLinkOpen seq link node fl ce at').RoutesOk := by
  unfold State.commandLinkOpen
  split
  · exact h
  · split
    · exact h
    · split <;> exact h

theorem State.RoutesOk.commandLinkTune (seq : BitVec 16) (link : Byte) (sel : BitVec 16) (v : TuneValues)
    (h : s.RoutesOk) : (s.commandLinkTune seq link sel v).RoutesOk := by
  unfold State.commandLinkTune
  split
  · exact h
  · split <;> exact h

theorem State.RoutesOk.commandLinkDrain (seq : BitVec 16) (link : Byte) (h : s.RoutesOk) :
    (s.commandLinkDrain seq link).RoutesOk := by
  unfold State.commandLinkDrain
  split
  · exact h
  · split
    · rename_i n _ _
      exact (h.enterDraining n).drainTest.congr (State.respond_routes ..)
    · exact h

theorem State.RoutesOk.commandLinkCut (seq : BitVec 16) (link : Byte) (h : s.RoutesOk) :
    (s.commandLinkCut seq link).RoutesOk := by
  unfold State.commandLinkCut
  split
  · exact h
  · split
    · exact h
    · exact h
    · rename_i n _ _ _ _
      exact (h.enterSilent n).congr ((State.respond_routes ..).trans (State.issue_routes ..))

theorem State.RoutesOk.commandLinkClear (seq : BitVec 16) (link : Byte) (h : s.RoutesOk) :
    (s.commandLinkClear seq link).RoutesOk := by
  unfold State.commandLinkClear
  split
  · exact h
  · dsimp only
    split
    · exact h
    · split <;> exact h

theorem State.RoutesOk.commandLinkQuery (seq : BitVec 16) (link : Byte) (h : s.RoutesOk) :
    (s.commandLinkQuery seq link).RoutesOk := by
  unfold State.commandLinkQuery
  split <;> exact h

theorem State.RoutesOk.commandLinkClimb (seq : BitVec 16) (link act : Byte) (h : s.RoutesOk) :
    (s.commandLinkClimb seq link act).RoutesOk := by
  unfold State.commandLinkClimb
  split
  · exact h
  · exact h
  · dsimp only
    split
    · exact h
    · split <;> exact h

theorem State.RoutesOk.commandRoutePin (seq : BitVec 16) (dest : NodeId) (link : Byte) (metric : BitVec 16)
    (h : s.RoutesOk) : (s.commandRoutePin seq dest link metric).RoutesOk := by
  unfold State.commandRoutePin
  split
  · exact h
  · split
    · exact h
    · split
      · exact h
      · rename_i rt hpin
        exact State.RoutesOk.reevaluate (s := { s with routes := rt }) (RouteTable.Ok.pin h hpin)

theorem State.RoutesOk.commandRouteUnpin (seq : BitVec 16) (dest : NodeId) (h : s.RoutesOk) :
    (s.commandRouteUnpin seq dest).RoutesOk := by
  unfold State.commandRouteUnpin
  split
  · exact h
  · split
    · exact h
    · exact RouteTable.Ok.setEntry h nofun

theorem State.RoutesOk.commandRouteQuery (seq : BitVec 16) (sel : Byte) (v : BitVec 16) (h : s.RoutesOk) :
    (s.commandRouteQuery seq sel v).RoutesOk := by
  unfold State.commandRouteQuery
  split
  · exact h
  · split
    · exact h
    · split <;> exact h
  · exact h

theorem State.RoutesOk.commandPlanWrite (seq : BitVec 16) (c first count : Byte) (es : List Byte) (h : s.RoutesOk) :
    (s.commandPlanWrite seq c first count es).RoutesOk := by
  unfold State.commandPlanWrite
  dsimp only
  split
  · exact h
  · exact h
  · split <;> exact h

theorem State.RoutesOk.commandPlanSwitch (seq : BitVec 16) (c : Byte) (h : s.RoutesOk) :
    (s.commandPlanSwitch seq c).RoutesOk := by
  unfold State.commandPlanSwitch
  split
  · exact h
  · split
    · exact h
    · split
      · exact h
      · split <;> exact h

theorem State.RoutesOk.commandPlanCancel (seq : BitVec 16) (h : s.RoutesOk) : (s.commandPlanCancel seq).RoutesOk := by
  unfold State.commandPlanCancel
  split <;> exact h

theorem State.RoutesOk.commandTimingSet (seq : BitVec 16) (role prop : Byte) (h : s.RoutesOk) :
    (s.commandTimingSet seq role prop).RoutesOk := by
  unfold State.commandTimingSet State.askRole
  split
  · exact h
  · split <;> exact h

theorem State.RoutesOk.releaseHeld (h : s.RoutesOk) : s.releaseHeld.RoutesOk := by
  unfold State.releaseHeld
  split <;> exact h

theorem State.RoutesOk.enterQuiescing (m : ResetMode) (h : s.RoutesOk) : (s.enterQuiescing m).RoutesOk := by
  have hs : State.RoutesOk { s with path := { s.path with engine := .quiescing m 0 } } := h
  have hq := hs.releaseHeld.intakeQuiesce.releaseAll .quiesced
  exact (hq _).congr (State.issue_routes ..)

theorem State.RoutesOk.commandEngineReset (seq : BitVec 16) (mode : Byte) (h : s.RoutesOk) :
    (s.commandEngineReset seq mode).RoutesOk := by
  unfold State.commandEngineReset
  split
  · exact h
  · rename_i m _
    exact (h.enterQuiescing m).congr rfl

theorem State.RoutesOk.apply (c : Instr) (h : s.RoutesOk) : (s.apply c).RoutesOk := by
  cases c
  case linkOpen => exact h.commandLinkOpen _ _ _ _ _ _
  case linkTune => exact h.commandLinkTune _ _ _ _
  case linkDrain => exact h.commandLinkDrain _ _
  case linkCut => exact h.commandLinkCut _ _
  case linkClear => exact h.commandLinkClear _ _
  case linkQuery => exact h.commandLinkQuery _ _
  case linkClimb => exact h.commandLinkClimb _ _ _
  case routePin => exact h.commandRoutePin _ _ _ _
  case routeUnpin => exact h.commandRouteUnpin _ _
  case routeQuery => exact h.commandRouteQuery _ _ _
  case planWrite => exact h.commandPlanWrite _ _ _ _ _
  case planSwitch => exact h.commandPlanSwitch _ _
  case planCancel => exact h.commandPlanCancel _
  case timingSet => exact h.commandTimingSet _ _ _
  case engineReset => exact h.commandEngineReset _ _
  all_goals exact h

/-! ### Resets, the anchor commit and the reports -/

theorem State.RoutesOk.validateAnchor (sel : BitVec 2) (h : s.RoutesOk) : (s.validateAnchor sel).RoutesOk := by
  unfold State.validateAnchor
  dsimp only
  split
  · exact RouteTable.ok_of_empty (rt := committedRoutes s.path.staging) rfl
  · exact h

theorem State.RoutesOk.captureAnchor (o : Nat) (d : List Byte) (h : s.RoutesOk) : (s.captureAnchor o d).RoutesOk := by
  unfold State.captureAnchor
  split
  · exact h
  · dsimp only
    split
    · exact State.RoutesOk.validateAnchor _ h
    · exact h

theorem State.RoutesOk.signalFreed (h : s.RoutesOk) : s.signalFreed.RoutesOk := by
  unfold State.signalFreed
  split <;> exact h

theorem State.RoutesOk.leaveQuiesce (h : s.RoutesOk) : s.leaveQuiesce.RoutesOk := by
  unfold State.leaveQuiesce
  split <;> exact h

theorem State.RoutesOk.reported (w : Waiting) (h : s.RoutesOk) : (s.reported w).RoutesOk := by
  cases w with
  | response code seq st p => exact State.RoutesOk.leaveQuiesce h
  | release i =>
    cases i with
    | tagless a b => exact h
    | entry g => exact State.RoutesOk.signalFreed h
  | attention n => exact h
  | planActive p => exact h
  | timing t => exact h

theorem State.RoutesOk.writeReport (h : s.RoutesOk) : s.writeReport.RoutesOk := by
  unfold State.writeReport
  split
  · split
    · split
      · exact State.RoutesOk.reported _ h
      · exact h
    · exact h
  · exact h

/-! ### The port (R170 to R172) -/

theorem State.RoutesOk.reportFetch (p : Nat) (h : s.RoutesOk) : (s.reportFetch p).RoutesOk := by
  unfold State.reportFetch
  split
  · exact h
  · split
    · exact h
    · dsimp only
      split
      · exact State.RoutesOk.markFetched _ h
      · exact h

theorem State.RoutesOk.headerAnswered (bs : List Byte) (last : Bool) (h : s.RoutesOk) :
    (s.headerAnswered bs last).RoutesOk := by
  unfold State.headerAnswered State.headerGathered
  split
  · split
    · split
      · split
        · split <;> exact h
        · exact h
      · exact h
    · exact h
  · exact h

theorem State.RoutesOk.bodyAnswered (bs : List Byte) (last : Bool) (h : s.RoutesOk) :
    (s.bodyAnswered bs last).RoutesOk := by
  unfold State.bodyAnswered
  split
  · split
    · split <;> exact h
    · exact h
  · exact h

theorem State.RoutesOk.answered (who : Reader) (bs : List Byte) (last : Bool) (h : s.RoutesOk) :
    (s.answered who bs last).RoutesOk := by
  cases who with
  | classifierHeader => exact h.headerAnswered bs last
  | classifierBody => exact h.bodyAnswered bs last
  | intakeEntry => exact h.entryAnswered bs
  | intakeHeader => exact h.localHeaderAnswered bs last
  | command => exact State.RoutesOk.apply (s := s.takeRecord bs) _ h

theorem State.RoutesOk.writeTaken (what : Writer) (a : Nat) (d : List Byte) (h : s.RoutesOk) :
    (s.writeTaken what a d).RoutesOk := by
  unfold State.writeTaken State.skipTaken
  split
  · exact State.RoutesOk.congr h (by simp)
  · split <;> exact h
  · exact h
  · exact h

theorem State.RoutesOk.takeHead (h : s.RoutesOk) : s.takeHead.RoutesOk := by
  have hd : s.dropHead.RoutesOk := h
  unfold State.takeHead
  split
  · exact h
  · split
    · exact hd.answered _ _ _
    · exact hd
  · exact hd.writeTaken _ _ _

theorem State.RoutesOk.yieldFor (fuel : Nat) (h : s.RoutesOk) : (State.yieldFor fuel s).RoutesOk := by
  induction fuel generalizing s with
  | zero => exact h
  | succ fuel ih =>
    unfold State.yieldFor
    split
    · exact ih h.takeHead
    · exact h

theorem State.RoutesOk.yieldPort (h : s.RoutesOk) : s.yieldPort.RoutesOk := h.yieldFor _

theorem State.RoutesOk.takeRun (who : Reader) (fuel : Nat) (h : s.RoutesOk) : (State.takeRun who fuel s).RoutesOk := by
  induction fuel generalizing s with
  | zero => exact h
  | succ fuel ih =>
    unfold State.takeRun
    split
    · split
      · split
        · exact h.takeHead
        · exact ih h.takeHead
      · exact h
    · exact h

theorem State.RoutesOk.answerRun (who : Reader) (h : s.RoutesOk) : (s.answerRun who).RoutesOk := h.takeRun _ _

/-! ### System-side accesses (R164, R166 to R168) -/

theorem State.RoutesOk.copyWrite (a : Nat) (d : List Byte) (p : Nat) (h : s.RoutesOk) :
    (s.copyWrite a d p).RoutesOk := by
  unfold State.copyWrite
  split
  · exact h.yieldPort
  · exact h

theorem State.RoutesOk.holdRecord (a : Nat) (d : List Byte) (h : s.RoutesOk) : (s.holdRecord a d).RoutesOk := by
  unfold State.holdRecord State.beginDecision
  split <;> exact h

theorem State.RoutesOk.capture (w : PostWord) (v : Nat) (h : s.RoutesOk) : (s.capture w v).RoutesOk := by
  unfold State.capture
  split
  · exact h
  · split
    · split <;> exact h
    · split <;> exact h
    · split <;> exact h

theorem State.RoutesOk.takeWrite (a : Nat) (d : List Byte) (h : s.RoutesOk) : (s.takeWrite a d).RoutesOk := by
  have hs : (s.yieldPort.store a d).RoutesOk := h.yieldPort
  unfold State.takeWrite
  split
  · exact hs
  · exact h
  · exact h.holdRecord _ _
  · exact h.copyWrite _ _ _
  · exact hs.capture _ _
  · exact hs.captureAnchor _ _

theorem State.RoutesOk.fetchPosition (p : Nat) (h : s.RoutesOk) : (s.fetchPosition p).RoutesOk := by
  unfold State.fetchPosition
  split
  · exact State.RoutesOk.reportFetch _ (h.congr (by simp))
  · exact h

theorem State.RoutesOk.takeAccess (x : Access) (h : s.RoutesOk) : (s.takeAccess x).RoutesOk := by
  cases x with
  | write a d => exact h.takeWrite _ _
  | read a n => exact h.yieldPort.foldl (fun _ p h => h.fetchPosition p) _

theorem State.RoutesOk.proceedFor (fuel : Nat) (h : s.RoutesOk) : (State.proceedFor fuel s).RoutesOk := by
  induction fuel generalizing s with
  | zero => exact h
  | succ fuel ih =>
    unfold State.proceedFor
    split
    · exact h
    · exact ih (State.RoutesOk.takeAccess _ (h.congr rfl))

theorem State.RoutesOk.proceed (h : s.RoutesOk) : s.proceed.RoutesOk := h.proceedFor _

theorem State.RoutesOk.access (x : Access) (h : s.RoutesOk) : (s.access x).RoutesOk := by
  unfold State.access
  split
  · exact h
  · exact (h.takeAccess x).proceed

theorem State.RoutesOk.takeHeld (h : s.RoutesOk) : s.takeHeld.RoutesOk := by
  have hs (a : Nat) (d : List Byte) : ((s.yieldPort.store a d).setSlot .empty).RoutesOk := h.yieldPort
  unfold State.takeHeld
  split
  · exact (hs _ _).proceed
  · exact (hs _ _).proceed
  · exact h

theorem State.RoutesOk.refillCompletion (h : s.RoutesOk) : s.refillCompletion.RoutesOk := by
  have he : (s.setSlot .empty).RoutesOk := h
  unfold State.refillCompletion
  split
  · split
    · exact State.RoutesOk.proceed (he.yieldPort.congr rfl)
    · exact h
  · exact h

theorem State.RoutesOk.processCompletion (h : s.RoutesOk) : s.processCompletion.RoutesOk := by
  unfold State.processCompletion
  split
  · exact h
  · exact h.takeCompletion.refillCompletion

theorem State.RoutesOk.fetchCommand (h : s.RoutesOk) : s.fetchCommand.RoutesOk := by
  unfold State.fetchCommand
  split
  · split <;> exact h
  · exact h

/-! ### The end of a quiesce and the settling of an event -/

theorem State.RoutesOk.releaseWaiting (m : ResetMode) (h : s.RoutesOk) : (s.releaseWaiting m).RoutesOk := by
  have he : (s.setSlot .empty).RoutesOk := h
  unfold State.releaseWaiting
  split
  · split <;> exact he.yieldPort
  · exact h

theorem State.RoutesOk.readyReset (h : s.RoutesOk) : s.readyReset.RoutesOk := by
  unfold State.readyReset
  split <;> exact h

/-- R111: the end of a quiesce frees every route entry. -/
theorem State.routesOk_endQuiesce (s : State) : s.endQuiesce.RoutesOk :=
  have hs : (s.clearBlocks s.quiesceMode).RoutesOk := RouteTable.ok_of_empty rfl
  (hs.releaseWaiting _).readyReset.proceed

theorem State.RoutesOk.letPass (h : s.RoutesOk) : s.letPass.RoutesOk :=
  State.RoutesOk.proceed (State.RoutesOk.releaseWaiting
    (s := { s with completion := { s.completion with queue := [] } }) .unanchor h)

theorem State.RoutesOk.reportWrite (h : s.RoutesOk) : s.reportWrite.RoutesOk := by
  unfold State.reportWrite
  dsimp only
  split
  · exact h.writeReport.letPass
  · exact h.writeReport

theorem State.RoutesOk.finishWork (h : s.RoutesOk) : s.finishWork.RoutesOk := h.finish _

theorem State.RoutesOk.settle (h : s.RoutesOk) : s.settle.RoutesOk := by
  unfold State.settle
  dsimp only
  split
  · exact s.finishWork.routesOk_endQuiesce
  · exact h.finishWork

theorem State.RoutesOk.idle (h : s.RoutesOk) : s.idle.RoutesOk := by
  have hs := h.settle
  unfold State.idle
  dsimp only
  split
  · exact hs
  · split <;> exact hs

/-! ### The rows -/

/-- Every route entry is in bounds in the next state, if there is one. -/
def OutcomeRoutesOk (o : Host.Outcome State Fault Refusal) : Prop := ∀ t, o = .next t → t.RoutesOk

theorem OutcomeRoutesOk.next (h : s.RoutesOk) : OutcomeRoutesOk (.next s) := by
  rintro _ ⟨⟩
  exact h

theorem OutcomeRoutesOk.fault (r : Fault) : OutcomeRoutesOk (.fault r) := fun _ h => nomatch h

/-- A software command's row has the command's effect, or none. -/
theorem State.RoutesOk.onCommand {effect : State → State} (c : Instr)
    (he : ∀ s : State, s.RoutesOk → (effect s).RoutesOk) (h : s.RoutesOk) :
    OutcomeRoutesOk (.next (s.settle.onCommand c effect)) := by
  refine .next ?_
  unfold State.onCommand
  split
  · exact he _ (h.settle.congr rfl)
  · exact h.settle

theorem State.RoutesOk.systemSideWrite (a : BitVec 32) (d : List Byte) (h : s.RoutesOk) :
    OutcomeRoutesOk (systemSideWrite a d s) := by
  unfold Sys2Proof.Machine.systemSideWrite
  split
  · exact .next (h.settle.access _)
  · exact .fault _

/-- A row that takes the head of the injection queue in some cases, and otherwise changes nothing. -/
theorem State.RoutesOk.takeHead_or (h : s.RoutesOk) (ht : t = s ∨ t = s.takeHead ∨ t = s.takeHead.proceed) :
    OutcomeRoutesOk (.next t) := by
  obtain rfl | rfl | rfl := ht
  exacts [.next h, .next h.takeHead, .next h.takeHead.proceed]

theorem State.RoutesOk.exec (i : Instr) (h : s.RoutesOk) : OutcomeRoutesOk (exec i s) := by
  have hs := h.settle
  cases i
  case pinReset => exact .next (RouteTable.ok_of_empty rfl)
  case resetNRelease sel =>
    refine .next ?_
    split <;> exact h
  -- The system-side accesses.
  case anchorWrite a d => exact h.systemSideWrite a d
  case anchorCommit a d => exact h.systemSideWrite a d
  case systemWrite a d => exact h.systemSideWrite a d
  case droppedWrite a d => exact h.systemSideWrite a d
  case receiveCompletionWrite a d => exact h.systemSideWrite a d
  case transmitCompletionWrite a d => exact h.systemSideWrite a d
  case commandPostWord a d => exact h.systemSideWrite a d
  case localPostWord a d => exact h.systemSideWrite a d
  case reportConsumedWord a d => exact h.systemSideWrite a d
  case descriptorFetch a n =>
    unfold Machine.exec execDescriptorFetch
    dsimp only
    split
    · exact .next (hs.access _)
    · exact .fault _
  -- The port.
  case heldWriteTaken => exact .next hs.takeHeld
  case rewriteTaken => exact hs.takeHead_or (by split <;> simp)
  case descriptorWriteTaken => exact hs.takeHead_or (by split <;> simp)
  case skipWriteTaken => exact hs.takeHead_or (by split <;> simp)
  case injectedWriteTaken => exact hs.takeHead_or (by split <;> simp)
  -- Reception and the Local Intake.
  case headerReadDone => exact .next (hs.answerRun _)
  case beaconBodyReadDone => exact .next (hs.answerRun _)
  case claim => exact .next hs.claim
  case holdBudgetExpiry => exact .next hs.expireBudget
  case localEntryFetch => exact .next hs.fetchEntry
  case localEntryReadDone => exact .next (hs.answerRun _)
  case localHeaderReadDone => exact .next (hs.answerRun _)
  case localAdmission => exact .next hs.localAdmission
  case localIntakeRetry => exact .next hs.intakeRetry
  case taglessHandover => exact .next hs.handOver
  -- The software commands.
  case commandFetch => exact .next hs.fetchCommand
  case nop => exact h.onCommand _ fun _ h => h
  case unknownCommand => exact h.onCommand _ fun _ h => h
  case linkOpen => exact h.onCommand _ fun _ h => h.commandLinkOpen _ _ _ _ _ _
  case linkTune => exact h.onCommand _ fun _ h => h.commandLinkTune _ _ _ _
  case linkDrain => exact h.onCommand _ fun _ h => h.commandLinkDrain _ _
  case linkCut => exact h.onCommand _ fun _ h => h.commandLinkCut _ _
  case linkClear => exact h.onCommand _ fun _ h => h.commandLinkClear _ _
  case linkQuery => exact h.onCommand _ fun _ h => h.commandLinkQuery _ _
  case linkClimb => exact h.onCommand _ fun _ h => h.commandLinkClimb _ _ _
  case routePin => exact h.onCommand _ fun _ h => h.commandRoutePin _ _ _ _
  case routeUnpin => exact h.onCommand _ fun _ h => h.commandRouteUnpin _ _
  case routeQuery => exact h.onCommand _ fun _ h => h.commandRouteQuery _ _ _
  case planWrite => exact h.onCommand _ fun _ h => h.commandPlanWrite _ _ _ _ _
  case planSwitch => exact h.onCommand _ fun _ h => h.commandPlanSwitch _ _
  case planCancel => exact h.onCommand _ fun _ h => h.commandPlanCancel _
  case timingSet => exact h.onCommand _ fun _ h => h.commandTimingSet _ _ _
  case engineReset => exact h.onCommand _ fun _ h => h.commandEngineReset _ _
  -- The rows that follow the timebase, and the completions and reports.
  case completionProcess => exact .next hs.processCompletion
  case reportWrite => exact .next hs.reportWrite
  case slotStart => exact .next hs.startSlot
  case superframeBoundary order =>
    unfold Machine.exec execSuperframeBoundary
    refine .next ?_
    split
    · exact hs
    · exact hs.boundary order
  case quiesceEnd =>
    unfold Machine.exec execQuiesceEnd
    refine .next ?_
    split
    · exact s.finishWork.routesOk_endQuiesce
    · exact h.finishWork
  -- The consequences.
  all_goals exact .next (h.resolve _)

theorem State.RoutesOk.step (h : s.RoutesOk) : OutcomeRoutesOk (step s) := by
  unfold Machine.step
  split
  · exact .next h.idle
  · exact State.RoutesOk.exec _ (h.congr rfl)

end Steps

/-- Settles O8: `State.RoutesOk.step`. An entry takes a candidate metric below 65535 alone, a pin's metric is clamped
(R107), and an alternate is set beside a primary of another link alone (R96 to R99). -/
theorem stepKeepsRouteMetrics : Obligations.StepKeepsRouteMetrics := fun _ t hs ht => State.RoutesOk.step hs t ht

end Sys2Proof.Machine
end
section
/-!
PROOF. What one advertised entry does to the Route Table (R92 to R100): the place of a new entry, with the victims of a
full table (R95), and the body of an entry that is held; and the rows of the Route Table's consequences (R102, R105,
R106).
-/

namespace Sys2Proof.Machine

/-! ### Searches for the best of a bank -/

/-- One place of a search for the best score, the first place winning among equals. -/
def keepBetter {α β : Type} (score : α → Option β) (better : β → β → Bool) (best : Option (α × β)) (i : α) :
    Option (α × β) :=
  match score i, best with
  | some x, none => some (i, x)
  | some x, some (j, y) => if better x y then some (i, x) else some (j, y)
  | none, best => best

section Search
variable {α β : Type} {score : α → Option β} {better : β → β → Bool}

/-- What a search holds was there at its start or is the score of a place it met. -/
theorem keepBetter_source (is : List α) : ∀ (best : Option (α × β)) (i : α) (x : β),
    is.foldl (keepBetter score better) best = some (i, x) → best = some (i, x) ∨ i ∈ is ∧ score i = some x := by
  induction is with
  | nil => exact fun _ _ _ h => .inl h
  | cons j is ih =>
    intro best i x h
    obtain hstep | ⟨hi, hx⟩ := ih _ i x h
    · cases hj : score j with
      | none => exact .inl (by simpa [keepBetter, hj] using hstep)
      | some y =>
        cases best with
        | none =>
          obtain ⟨rfl, rfl⟩ : j = i ∧ y = x := by simpa [keepBetter, hj] using hstep
          exact .inr ⟨List.mem_cons_self, hj⟩
        | some b =>
          simp only [keepBetter, hj] at hstep
          split at hstep
          · obtain ⟨rfl, rfl⟩ : j = i ∧ y = x := by simpa using hstep
            exact .inr ⟨List.mem_cons_self, hj⟩
          · exact .inl hstep
    · exact .inr ⟨List.mem_cons_of_mem _ hi, hx⟩

/-- What no later place betters is kept. -/
theorem keepBetter_kept {i : α} {x : β} (is : List α)
    (h : ∀ j ∈ is, ∀ y, score j = some y → better y x = false) :
    is.foldl (keepBetter score better) (some (i, x)) = some (i, x) := by
  induction is with
  | nil => rfl
  | cons j is ih =>
    have hj : keepBetter score better (some (i, x)) j = some (i, x) := by
      cases hs : score j with
      | none => simp [keepBetter, hs]
      | some y => simp [keepBetter, hs, h j List.mem_cons_self y hs]
    rw [List.foldl_cons, hj, ih fun k hk => h k (List.mem_cons_of_mem _ hk)]

/-- A search finds the score that betters all before it and is bettered by none. -/
theorem keepBetter_best {n : Nat} {score : Fin n → Option β} {i : Fin n} {x : β} (hx : score i = some x)
    (hbefore : ∀ j y, j < i → score j = some y → better x y = true)
    (hafter : ∀ j y, score j = some y → better y x = false) :
    (List.finRange n).foldl (keepBetter score better) none = some (i, x) := by
  obtain ⟨before, after, hsplit⟩ := List.append_of_mem (List.mem_finRange i)
  have hlt : ∀ j ∈ before, j < i := fun j hj => by
    have hp : (before ++ i :: after).Pairwise (· < ·) := hsplit ▸ List.pairwise_lt_finRange n
    exact (List.pairwise_append.mp hp).2.2 j hj i List.mem_cons_self
  have hi : keepBetter score better (before.foldl (keepBetter score better) none) i = some (i, x) := by
    cases hb : before.foldl (keepBetter score better) none with
    | none => simp [keepBetter, hx]
    | some b =>
      obtain h | ⟨hj, hy⟩ := keepBetter_source before none b.1 b.2 hb
      · cases h
      · simp [keepBetter, hx, hbefore b.1 b.2 (hlt _ hj) hy]
  rw [hsplit, List.foldl_append, List.foldl_cons, hi, keepBetter_kept after fun j _ y hy => hafter j y hy]

/-- A search that meets no score finds nothing. -/
theorem keepBetter_none (is : List α) (h : ∀ i, score i = none) : is.foldl (keepBetter score better) none = none := by
  induction is with
  | nil => rfl
  | cons i is ih => simpa [keepBetter, h] using ih

end Search

/-! ### The victims of a full table (R95) -/

/-- The poison count at a position, in POISONED. -/
def RouteTable.countAt (rt : RouteTable) (p : RoutePos) : Option Nat :=
  match rt.entry p with
  | some ⟨_, .poisoned _ _ k⟩ => some k
  | _ => none

/-- The primary metric and the age at a position, in VALID and STALE. -/
def RouteTable.liveAt (rt : RouteTable) (p : RoutePos) : Option (Nat × Nat) :=
  match rt.entry p with
  | some ⟨_, .live _ h _ _ age⟩ => some (h.metric, age)
  | _ => none

/-- The order in which live entries are given up: by metric, then by age. -/
def worse (x y : Nat × Nat) : Bool := decide (y.1 < x.1 ∨ y.1 = x.1 ∧ y.2 < x.2)

theorem worse_iff {x y : Nat × Nat} : worse x y = true ↔ y.1 < x.1 ∨ y.1 = x.1 ∧ y.2 < x.2 := decide_eq_true_iff

section Victims
variable {rt : RouteTable} {p : RoutePos} {d : NodeId} {x : BitVec 16} {age k m cand : Nat} {st : Bool} {h : Hop}
  {y : Option Hop}

theorem RouteTable.countAt_some : rt.countAt p = some k ↔ ∃ d x age, rt.entry p = some ⟨d, .poisoned x age k⟩ := by
  unfold RouteTable.countAt
  split
  · simp_all
  · simp_all

theorem RouteTable.liveAt_some {v : Nat × Nat} : rt.liveAt p = some v ↔
    ∃ d st h y x, rt.entry p = some ⟨d, .live st h y x v.2⟩ ∧ h.metric = v.1 := by
  unfold RouteTable.liveAt
  split
  · rename_i he
    simp [he, Prod.ext_iff]
    tauto
  · simp_all

theorem RouteTable.poisonedVictim_eq (rt : RouteTable) : rt.poisonedVictim =
    ((List.finRange 256).foldl (keepBetter rt.countAt fun a b => decide (a < b)) none).map Prod.fst := by
  refine congrArg (fun f => ((List.finRange 256).foldl f none).map Prod.fst) (funext₂ fun best p => ?_)
  unfold keepBetter RouteTable.countAt
  cases rt.entry p with
  | none => rfl
  | some e =>
    obtain ⟨d, b⟩ := e
    cases b <;> cases best <;> simp

theorem RouteTable.liveVictim_eq (rt : RouteTable) : rt.liveVictim =
    ((List.finRange 256).foldl (keepBetter rt.liveAt worse) none).map fun v => (v.1, v.2.1) := by
  refine congrArg (fun f => ((List.finRange 256).foldl f none).map fun v : RoutePos × Nat × Nat => (v.1, v.2.1)) (funext₂ fun best p => ?_)
  unfold keepBetter RouteTable.liveAt worse
  cases rt.entry p with
  | none => rfl
  | some e =>
    obtain ⟨d, b⟩ := e
    cases b <;> cases best <;> simp

/-- The POISONED entry of the lowest count, the lowest position among equals. -/
theorem RouteTable.poisonedVictim_of_least (hp : rt.entry p = some ⟨d, .poisoned x age k⟩)
    (hmin : ∀ q d' x' age' k', rt.entry q = some ⟨d', .poisoned x' age' k'⟩ → k < k' ∨ k = k' ∧ p ≤ q) :
    rt.poisonedVictim = some p := by
  have hbest := keepBetter_best (better := fun a b => decide (a < b)) (RouteTable.countAt_some.mpr ⟨d, x, age, hp⟩)
    (fun q k' hq hk => by
      obtain ⟨d', x', age', he⟩ := RouteTable.countAt_some.mp hk
      exact decide_eq_true ((hmin q d' x' age' k' he).resolve_right fun h => absurd hq (Fin.not_lt.mpr h.2)))
    (fun q k' hk => by
      obtain ⟨d', x', age', he⟩ := RouteTable.countAt_some.mp hk
      have := hmin q d' x' age' k' he
      exact decide_eq_false (by omega))
  rw [RouteTable.poisonedVictim_eq, hbest, Option.map_some]

theorem RouteTable.poisonedVictim_of_none (hn : ∀ q d x age k, rt.entry q ≠ some ⟨d, .poisoned x age k⟩) :
    rt.poisonedVictim = none := by
  have hnone (q : RoutePos) : rt.countAt q = none := Option.eq_none_iff_forall_ne_some.mpr fun k hk => by
    obtain ⟨d, x, age, he⟩ := RouteTable.countAt_some.mp hk
    exact hn q d x age k he
  rw [RouteTable.poisonedVictim_eq, keepBetter_none _ hnone, Option.map_none]

/-- The live entry of the largest metric, then the greatest age, then the lowest position. -/
theorem RouteTable.liveVictim_of_worst (hp : rt.entry p = some ⟨d, .live st h y x age⟩)
    (hmax : ∀ q d' st' h' y' x' age', rt.entry q = some ⟨d', .live st' h' y' x' age'⟩ →
      h'.metric < h.metric ∨ h'.metric = h.metric ∧ (age' < age ∨ age' = age ∧ p ≤ q)) :
    rt.liveVictim = some (p, h.metric) := by
  have hbest := keepBetter_best (better := worse) (x := (h.metric, age))
    (RouteTable.liveAt_some.mpr ⟨d, st, h, y, x, hp, rfl⟩)
    (fun q v hq hv => by
      obtain ⟨d', st', h', y', x', he, hm⟩ := RouteTable.liveAt_some.mp hv
      refine worse_iff.mpr ?_
      rw [← hm]
      exact (hmax q d' st' h' y' x' v.2 he).imp_right fun ⟨h1, h2⟩ =>
        ⟨h1, h2.resolve_right fun h => absurd hq (Fin.not_lt.mpr h.2)⟩)
    (fun q v hv => by
      obtain ⟨d', st', h', y', x', he, hm⟩ := RouteTable.liveAt_some.mp hv
      have := hmax q d' st' h' y' x' v.2 he
      have hnot : ¬ (h.metric < v.1 ∨ h.metric = v.1 ∧ age < v.2) := by omega
      exact Bool.eq_false_iff.mpr (mt worse_iff.mp hnot))
  rw [RouteTable.liveVictim_eq, hbest, Option.map_some]

theorem RouteTable.liveVictim_source (hv : rt.liveVictim = some (p, m)) :
    ∃ d st h y x age, rt.entry p = some ⟨d, .live st h y x age⟩ ∧ h.metric = m := by
  rw [RouteTable.liveVictim_eq] at hv
  obtain ⟨⟨q, v⟩, hfold, heq⟩ := Option.map_eq_some_iff.mp hv
  obtain ⟨rfl, rfl⟩ : q = p ∧ v.1 = m := Prod.mk.inj heq
  obtain hnone | ⟨-, hq⟩ := keepBetter_source _ none q v hfold
  · cases hnone
  · obtain ⟨d, st, h, y, x, he, hm⟩ := RouteTable.liveAt_some.mp hq
    exact ⟨d, st, h, y, x, v.2, he, hm⟩

/-- R95: what a new entry of metric `cand` may displace in a full table without a POISONED entry. -/
theorem RouteTable.placeFor_of_full (hfree : rt.lowestFree = none) (hpoison : rt.poisonedVictim = none) :
    rt.placeFor cand = rt.liveVictim.bind fun v => if cand < v.2 then some v.1 else none := by
  unfold RouteTable.placeFor
  rw [hfree, hpoison]
  cases rt.liveVictim <;> rfl

end Victims

end Sys2Proof.Machine
end
section
/-!
PROOF. One advertised entry at the Route Table (R93 to R100), by what the table holds for its destination; and the rows
of the Route Table's consequences (R102, R105, R106).
-/

namespace Sys2Proof.Machine

/-! ### Serial comparison (R92) -/

section Sequence
variable {s e : BitVec 16}

theorem sub_toNat_eq_zero : (s - e).toNat = 0 ↔ s = e := by bv_omega

theorem seqCompare_equal : seqCompare s e = .equal ↔ s = e := by
  rw [← sub_toNat_eq_zero]
  unfold seqCompare
  dsimp only
  split
  · simp_all
  · split <;> simp_all

theorem seqCompare_newer : seqCompare s e = .newer ↔ 1 ≤ (s - e).toNat ∧ (s - e).toNat ≤ 32767 := by
  unfold seqCompare
  dsimp only
  split
  · simp_all
  · split
    · simp only [true_iff]; omega
    · simp only [reduceCtorEq, false_iff]; omega

end Sequence

/-! ### The body of an entry that is held (R96 to R100) -/

section Body
variable {b : RouteBody} {p x : Hop} {q : Option Hop} {st : Bool} {held sq : BitVec 16} {age k cand hyst : Nat}
  {n : LinkIx}

theorem RouteBody.learn_pinned : (RouteBody.pinned p).learn n cand hyst sq = (.pinned p, false) := rfl

theorem RouteBody.learn_poisoned_newer (h : seqCompare sq held = .newer) :
    (RouteBody.poisoned held age k).learn n cand hyst sq =
      if cand < 65535 then (.live false ⟨n, cand⟩ none sq 0, true) else (.poisoned sq 0 4, false) := by
  simp only [RouteBody.learn, h]
  rfl

theorem RouteBody.learn_poisoned_other (h : seqCompare sq held ≠ .newer) :
    (RouteBody.poisoned held age k).learn n cand hyst sq = (.poisoned held age k, false) := by
  cases hs : seqCompare sq held with
  | newer => exact absurd hs h
  | equal => simp only [RouteBody.learn, hs]
  | older => simp only [RouteBody.learn, hs]

theorem RouteBody.learn_live_newer (h : seqCompare sq held = .newer) :
    (RouteBody.live st p q held age).learn n cand hyst sq =
      if cand < 65535 then (.live false ⟨n, cand⟩ none sq 0, false) else (.poisoned sq 0 4, false) := by
  simp only [RouteBody.learn, h]
  rfl

theorem RouteBody.learn_live_older (hn : seqCompare sq held ≠ .newer) (he : sq ≠ held) :
    (RouteBody.live st p q held age).learn n cand hyst sq = (.live st p q held age, false) := by
  cases hs : seqCompare sq held with
  | newer => exact absurd hs hn
  | equal => exact absurd (seqCompare_equal.mp hs) he
  | older => simp only [RouteBody.learn, hs]

/-- R97. -/
theorem RouteBody.learn_primary (hl : p.link = n) : (RouteBody.live st p q sq age).learn n cand hyst sq =
    (refreshPrimary st p q sq age cand hyst, false) := by
  simp only [RouteBody.learn, seqCompare_equal.mpr rfl, hl, if_true]

/-- R98. -/
theorem RouteBody.learn_alternate (hp : p.link ≠ n) (hx : x.link = n) :
    (RouteBody.live st p (some x) sq age).learn n cand hyst sq = (refreshAlternate st p n sq age cand, false) := by
  simp only [RouteBody.learn, seqCompare_equal.mpr rfl, hp, Option.map_some, hx, if_true, if_false]

/-- R99. -/
theorem RouteBody.learn_third (hp : p.link ≠ n) (hq : ∀ x, q = some x → x.link ≠ n) :
    (RouteBody.live st p q sq age).learn n cand hyst sq = (offerThird st p q n sq age cand hyst, false) := by
  have hne : q.map Hop.link ≠ some n := fun h => by
    obtain ⟨x, hx, hl⟩ := Option.map_eq_some_iff.mp h
    exact hq x hx hl
  simp only [RouteBody.learn, seqCompare_equal.mpr rfl, hp, hne, if_false]

/-- R97, with the alternate that may take the primary's place. -/
theorem refreshPrimary_of_alternate (hc : cand < 65535) : refreshPrimary st p (some x) sq age cand hyst =
    if x.metric + hyst < cand then .live false x (some ⟨p.link, cand⟩) sq 0
    else .live false ⟨p.link, cand⟩ (some x) sq 0 := if_pos hc

theorem refreshPrimary_alone (hc : cand < 65535) :
    refreshPrimary st p none sq age cand hyst = .live false ⟨p.link, cand⟩ none sq 0 := if_pos hc

theorem refreshPrimary_lost : refreshPrimary st p q sq age 65535 hyst =
    match q with
    | some x => .live st x none sq age
    | none => .poisoned sq 0 4 := by cases q <;> rfl

/-- R97, case by case: the primary alone, the alternate better by the hysteresis, the alternate not so, and the two ways
of a lost path. -/
theorem refreshPrimary_of_case {result : RouteBody} (hl : p.link = n)
    (h : cand < 65535 ∧ q = none ∧ result = .live false ⟨n, cand⟩ none sq 0 ∨
      (∃ x, q = some x ∧ cand < 65535 ∧ x.metric + hyst < cand ∧ result = .live false x (some ⟨n, cand⟩) sq 0) ∨
      (∃ x, q = some x ∧ cand < 65535 ∧ cand ≤ x.metric + hyst ∧ result = .live false ⟨n, cand⟩ q sq 0) ∨
      (∃ x, q = some x ∧ cand = 65535 ∧ result = .live st x none sq age) ∨
      q = none ∧ cand = 65535 ∧ result = .poisoned sq 0 4) :
    refreshPrimary st p q sq age cand hyst = result := by
  subst hl
  obtain ⟨hc, rfl, rfl⟩ | ⟨x, rfl, hc, hlt, rfl⟩ | ⟨x, rfl, hc, hge, rfl⟩ | ⟨x, rfl, rfl, rfl⟩ | ⟨rfl, rfl, rfl⟩ := h
  · exact refreshPrimary_alone hc
  · rw [refreshPrimary_of_alternate hc, if_pos hlt]
  · rw [refreshPrimary_of_alternate hc, if_neg (Nat.not_lt.mpr hge)]
  · exact refreshPrimary_lost
  · exact refreshPrimary_lost

theorem refreshAlternate_eq : refreshAlternate st p n sq age cand =
    .live st p (if cand < 65535 then some ⟨n, cand⟩ else none) sq age := by
  unfold refreshAlternate Config.saturated
  split <;> rfl

/-- R99, when the third link's path does not become the primary. -/
theorem offerThird_of_le (hle : p.metric ≤ cand + hyst) : offerThird st p q n sq age cand hyst =
    if cand < 65535 ∧ ∀ x, q = some x → cand < x.metric then .live st p (some ⟨n, cand⟩) sq age
    else .live st p q sq age := by
  refine (if_neg (Nat.not_lt.mpr hle)).trans ?_
  unfold Config.saturated
  by_cases hc : cand < 65535 <;> cases q <;> simp [hc]

/-- R99, case by case: a new primary, a new alternate, and no change. -/
theorem offerThird_of_case {result : RouteBody}
    (h : cand + hyst < p.metric ∧ result = .live false ⟨n, cand⟩ (some p) sq 0 ∨
      p.metric ≤ cand + hyst ∧ cand < 65535 ∧ (∀ x, q = some x → cand < x.metric) ∧
        result = .live st p (some ⟨n, cand⟩) sq age ∨
      p.metric ≤ cand + hyst ∧ (cand = 65535 ∨ ∃ x, q = some x ∧ x.metric ≤ cand) ∧
        result = .live st p q sq age) :
    offerThird st p q n sq age cand hyst = result := by
  obtain ⟨hlt, rfl⟩ | ⟨hle, hc, hq, rfl⟩ | ⟨hle, hc, rfl⟩ := h
  · exact if_pos hlt
  · rw [offerThird_of_le hle, if_pos ⟨hc, hq⟩]
  · rw [offerThird_of_le hle, if_neg]
    rintro ⟨hlt, hall⟩
    obtain rfl | ⟨x, hx, hm⟩ := hc
    · exact absurd hlt (Nat.lt_irrefl _)
    · exact absurd (hall x hx) (Nat.not_lt.mpr hm)

end Body

/-! ### The table (R93 to R95) -/

section Table
variable {rt : RouteTable} {own : NodeId} {n : LinkIx} {cost cand : Nat} {a : Advert} {p : RoutePos} {e : RouteEntry}

theorem RouteTable.learn_unusable (h : a.dest = 0 ∨ a.dest = 0xFFFF ∨ a.dest = own) :
    rt.learn own n cost a = (rt, false) := if_pos h

variable (h0 : a.dest ≠ 0) (h1 : a.dest ≠ 0xFFFF) (hown : a.dest ≠ own)
  (hcand : cand = candidate a.metric cost rt.penalty)
include h0 h1 hown hcand

theorem RouteTable.learn_absent (hpos : rt.posOf a.dest = none) :
    rt.learn own n cost a = rt.learnNew n cand a := by
  subst hcand
  refine (if_neg (not_or.mpr ⟨h0, not_or.mpr ⟨h1, hown⟩⟩)).trans ?_
  simp only [hpos]

theorem RouteTable.learn_held (hpos : rt.posOf a.dest = some p) (he : rt.entry p = some e) :
    rt.learn own n cost a = (rt.setEntry p (some ⟨e.dest, (e.body.learn n cand rt.hysteresis a.seq).1⟩),
      (e.body.learn n cand rt.hysteresis a.seq).2) := by
  subst hcand
  refine (if_neg (not_or.mpr ⟨h0, not_or.mpr ⟨h1, hown⟩⟩)).trans ?_
  simp only [hpos, he]

omit h0 h1 hown hcand

theorem RouteTable.learnNew_saturated : rt.learnNew n 65535 a = (rt, false) := if_pos rfl

theorem RouteTable.learnNew_of_place (hc : cand < 65535) (hp : rt.placeFor cand = some p) :
    rt.learnNew n cand a = (rt.setEntry p (some ⟨a.dest, .live false ⟨n, cand⟩ none a.seq 0⟩), true) := by
  refine (if_neg (Nat.ne_of_lt hc)).trans ?_
  rw [hp]
  rfl

theorem RouteTable.learnNew_of_none (hp : rt.placeFor cand = none) : rt.learnNew n cand a = (rt, false) := by
  unfold RouteTable.learnNew
  split
  · rfl
  · rw [hp]

/-- The victim of a full table, as R95 and R107 name it: the POISONED entry of the lowest count, or without one the live
entry of the largest metric, then the greatest age. -/
theorem RouteTable.placeFor_of_victim (hfree : rt.lowestFree = none)
    (h : (∃ d x age k, rt.entry p = some ⟨d, .poisoned x age k⟩ ∧
        ∀ q d' x' age' k', rt.entry q = some ⟨d', .poisoned x' age' k'⟩ → k < k' ∨ k = k' ∧ p ≤ q) ∨
      (∀ q d' x' age' k', rt.entry q ≠ some ⟨d', .poisoned x' age' k'⟩) ∧
        ∃ d st h y x age, rt.entry p = some ⟨d, .live st h y x age⟩ ∧ cand < h.metric ∧
          ∀ q d' st' h' y' x' age', rt.entry q = some ⟨d', .live st' h' y' x' age'⟩ →
            h'.metric < h.metric ∨ h'.metric = h.metric ∧ (age' < age ∨ age' = age ∧ p ≤ q)) :
    rt.placeFor cand = some p := by
  obtain ⟨d, x, age, k, hp, hmin⟩ | ⟨hnone, d, st, h, y, x, age, hp, hlt, hmax⟩ := h
  · unfold RouteTable.placeFor
    rw [hfree, RouteTable.poisonedVictim_of_least hp hmin]
  · rw [RouteTable.placeFor_of_full hfree (RouteTable.poisonedVictim_of_none hnone),
      RouteTable.liveVictim_of_worst hp hmax]
    exact if_pos hlt

/-- R95: a full table without a POISONED entry has no place for a metric that no live entry exceeds. -/
theorem RouteTable.placeFor_of_no_victim (hfree : rt.lowestFree = none)
    (hnone : ∀ q d x age k, rt.entry q ≠ some ⟨d, .poisoned x age k⟩)
    (hle : ∀ q d st h y x age, rt.entry q = some ⟨d, .live st h y x age⟩ → h.metric ≤ cand) :
    rt.placeFor cand = none := by
  rw [RouteTable.placeFor_of_full hfree (RouteTable.poisonedVictim_of_none hnone)]
  cases hv : rt.liveVictim with
  | none => rfl
  | some v =>
    obtain ⟨d, st, h, y, x, age, he, hm⟩ := RouteTable.liveVictim_source (p := v.1) (m := v.2) hv
    exact if_neg (by have := hle v.1 d st h y x age he; omega)

end Table

/-! ### The rows of the consequences (R102, R105, R106) -/

section Rows
variable {s : State} {p : RoutePos} {ws : List Work}

theorem exec_routeStale_of_due (hw : s.work = .due (.routeStale p) :: ws) (hws : ∀ w ∈ ws, ∃ c, w = .due c) :
    exec .routeStale s = .next { s with routes := s.routes.turnStale p, work := ws } := by
  have hrow : exec .routeStale s = .next (State.advance ws (s.perform (.routeStale p))) :=
    congrArg Host.Outcome.next (State.resolve_head hw rfl)
  rw [hrow, State.advance_dues _ hws]
  rfl

theorem exec_routeAgePoison_of_due (hw : s.work = .due (.routeAgePoison p) :: ws)
    (hws : ∀ w ∈ ws, ∃ c, w = .due c) :
    exec .routeAgePoison s = .next { s with routes := s.routes.agePoison p, work := ws } := by
  have hrow : exec .routeAgePoison s = .next (State.advance ws (s.perform (.routeAgePoison p))) :=
    congrArg Host.Outcome.next (State.resolve_head hw rfl)
  rw [hrow, State.advance_dues _ hws]
  rfl

theorem exec_poisonCountExpiry_of_due (hw : s.work = .due (.poisonCountExpiry p) :: ws)
    (hws : ∀ w ∈ ws, ∃ c, w = .due c) :
    exec .poisonCountExpiry s = .next { s with routes := s.routes.freePoisoned p, work := ws } := by
  have hrow : exec .poisonCountExpiry s = .next (State.advance ws (s.perform (.poisonCountExpiry p))) :=
    congrArg Host.Outcome.next (State.resolve_head hw rfl)
  rw [hrow, State.advance_dues _ hws]
  rfl

theorem exec_ownSequenceAdvance_of_due (hw : s.work = .due .ownSequenceAdvance :: ws)
    (hws : ∀ w ∈ ws, ∃ c, w = .due c) :
    exec .ownSequenceAdvance s = .next { s with
      routes := { s.routes with ownSeq := s.routes.ownSeq + 1, boundaryCount := 0 }, work := ws } := by
  have hrow : exec .ownSequenceAdvance s = .next (State.advance ws (s.perform .ownSequenceAdvance)) :=
    congrArg Host.Outcome.next (State.resolve_head hw rfl)
  rw [hrow, State.advance_dues _ hws]
  rfl

end Rows

/-- Settles O41: the rows of the consequences, and the treatment of one advert by `RouteTable.learn_absent` and
`RouteTable.learn_held`. -/
theorem routeConsequencesAreCarriedOut : Obligations.RouteConsequencesAreCarriedOut := by
  refine ⟨fun s p ws hws => ⟨fun d st h q x age hw he => ?stale, fun d st h q x age hw he => ?poison,
    fun d x age hw he => ?free, fun hw => exec_ownSequenceAdvance_of_due hw hws⟩,
    fun rt own n cost flag => ⟨rfl, fun a as => rfl⟩, fun rt own n cost cand a hcand =>
    ⟨RouteTable.learn_unusable, fun h0 h1 hown hpos => ?absent,
      fun p e result revived newer equal held h0 h1 hown hpos he hdest hnewer hequal hcases => ?held⟩⟩
  case stale => simp [exec_routeStale_of_due hw hws, RouteTable.turnStale, he]
  case poison =>
    simp [exec_routeAgePoison_of_due hw hws, RouteTable.agePoison, he, RouteBody.poison, Config.poisonCount]
  case free => simp [exec_poisonCountExpiry_of_due hw hws, RouteTable.freePoisoned, he]
  case absent =>
    rw [RouteTable.learn_absent h0 h1 hown hcand hpos]
    refine ⟨fun hc => by rw [hc, RouteTable.learnNew_saturated], fun p hc hp => RouteTable.learnNew_of_place hc ?_,
      fun hfree hnone hle => RouteTable.learnNew_of_none (RouteTable.placeFor_of_no_victim hfree hnone hle)⟩
    obtain hp | ⟨hfree, hvictim⟩ := hp
    · simp only [RouteTable.placeFor, hp]
    · exact RouteTable.placeFor_of_victim hfree hvictim
  case held =>
    have hle : cand ≤ 65535 := hcand ▸ candidate_le a.metric cost rt.penalty
    have hnew : newer = true ↔ seqCompare a.seq held = .newer := by
      rw [hnewer, decide_eq_true_iff, seqCompare_newer]
    have heq : equal = true ↔ a.seq = held := by rw [hequal, decide_eq_true_iff]
    have hlearn : e.body.learn n cand rt.hysteresis a.seq = (result, revived) := by
      obtain ⟨h, hb, rfl, rfl⟩ | ⟨age, k, hb, hcase⟩ | ⟨st, h, q, age, hb, rfl, hcase⟩ := hcases
      · rw [hb]; rfl
      · rw [hb]
        obtain ⟨hn, hc, rfl, rfl⟩ | ⟨hn, hc, rfl, rfl⟩ | ⟨hn, rfl, rfl⟩ := hcase
        · rw [RouteBody.learn_poisoned_newer (hnew.mp hn), if_pos hc]
        · rw [RouteBody.learn_poisoned_newer (hnew.mp hn), if_neg (by omega)]
        · rw [RouteBody.learn_poisoned_other (mt hnew.mpr (by simp [hn])), hb]
      · rw [hb]
        obtain ⟨hn, hc, rfl⟩ | ⟨hn, hc, rfl⟩ | ⟨hn, hq, rfl⟩ | ⟨hq, hl, hcase⟩ | ⟨hq, hl, ⟨x, rfl, hx⟩, rfl⟩ |
          ⟨hq, hl, hx, hcase⟩ := hcase
        · rw [RouteBody.learn_live_newer (hnew.mp hn), if_pos hc]
        · rw [RouteBody.learn_live_newer (hnew.mp hn), if_neg (by omega)]
        · rw [RouteBody.learn_live_older (mt hnew.mpr (by simp [hn])) (mt heq.mpr (by simp [hq])), hb]
        · obtain rfl := heq.mp hq
          rw [RouteBody.learn_primary hl]
          rw [refreshPrimary_of_case hl hcase]
        · obtain rfl := heq.mp hq
          rw [RouteBody.learn_alternate hl hx, refreshAlternate_eq]
        · obtain rfl := heq.mp hq
          rw [hb] at hcase
          rw [RouteBody.learn_third hl hx, offerThird_of_case hcase]
    rw [RouteTable.learn_held h0 h1 hown hcand hpos he, hlearn, hdest]

end Sys2Proof.Machine
end
section
/-!
PROOF. ROUTE_PIN and ROUTE_UNPIN (R107, R108): the place of a pin, and the two rows.
-/

namespace Sys2Proof.Machine

/-! ### The rows of the route commands -/

section Rows
variable {s : State} {seq : BitVec 16} {dest : NodeId} {link : Byte}

theorem exec_routePin_read {metric : BitVec 16} (hq : s.quiet = true)
    (hc : s.fetchedCommand = some (.routePin seq dest link metric)) :
    exec (.routePin seq dest link metric) s = .next (s.commandRead.commandRoutePin seq dest link metric) :=
  congrArg Host.Outcome.next (State.settle_onCommand hq hc _)

theorem exec_routeUnpin_read (hq : s.quiet = true) (hc : s.fetchedCommand = some (.routeUnpin seq dest)) :
    exec (.routeUnpin seq dest) s = .next (s.commandRead.commandRouteUnpin seq dest) :=
  congrArg Host.Outcome.next (State.settle_onCommand hq hc _)

theorem exec_routeQuery_read {sel : Byte} {v : BitVec 16} (hq : s.quiet = true)
    (hc : s.fetchedCommand = some (.routeQuery seq sel v)) :
    exec (.routeQuery seq sel v) s = .next (s.commandRead.commandRouteQuery seq sel v) :=
  congrArg Host.Outcome.next (State.settle_onCommand hq hc _)

/-- R2: the node ids that name no destination. -/
theorem State.identifies_eq_false : s.identifies dest = false ↔ dest = 0 ∨ dest = 0xFFFF ∨ dest = s.path.ownId := by
  rw [← Bool.not_eq_true, State.identifies_iff]
  tauto

end Rows

/-! ### The place of a pin (R107) -/

section Place
variable {rt : RouteTable} {dest : NodeId} {n : LinkIx} {m : Nat} {p : RoutePos}

/-- R107: the destination's own position, else a free one, else the victim's. -/
theorem RouteTable.pin_of_place
    (h : rt.posOf dest = some p ∨ rt.posOf dest = none ∧ rt.placeForPin = some p) :
    rt.pin dest n m = some (rt.setEntry p (some ⟨dest, .pinned ⟨n, min 65534 m⟩⟩)) := by
  have hclamp : clamp 0 65534 m = min 65534 m := Nat.max_eq_right (Nat.zero_le _)
  obtain h | ⟨hpos, hp⟩ := h
  · simp only [RouteTable.pin, h, hclamp, Option.map_some]
  · simp only [RouteTable.pin, hpos, hp, hclamp, Option.map_some]

theorem RouteTable.pin_of_none (hpos : rt.posOf dest = none) (hp : rt.placeForPin = none) :
    rt.pin dest n m = none := by
  simp only [RouteTable.pin, hpos, hp, Option.map_none]

theorem RouteTable.placeForPin_of_free (h : rt.lowestFree = some p) : rt.placeForPin = some p := by
  simp only [RouteTable.placeForPin, h]

/-- R107, R95: the victim of a pin is that of R95, whatever its metric. -/
theorem RouteTable.placeForPin_of_victim (hfree : rt.lowestFree = none)
    (h : (∃ d x age k, rt.entry p = some ⟨d, .poisoned x age k⟩ ∧
        ∀ q d' x' age' k', rt.entry q = some ⟨d', .poisoned x' age' k'⟩ → k < k' ∨ k = k' ∧ p ≤ q) ∨
      (∀ q d' x' age' k', rt.entry q ≠ some ⟨d', .poisoned x' age' k'⟩) ∧
        ∃ d st h y x age, rt.entry p = some ⟨d, .live st h y x age⟩ ∧
          ∀ q d' st' h' y' x' age', rt.entry q = some ⟨d', .live st' h' y' x' age'⟩ →
            h'.metric < h.metric ∨ h'.metric = h.metric ∧ (age' < age ∨ age' = age ∧ p ≤ q)) :
    rt.placeForPin = some p := by
  obtain ⟨d, x, age, k, hp, hmin⟩ | ⟨hnone, d, st, h, y, x, age, hp, hmax⟩ := h
  · simp only [RouteTable.placeForPin, hfree, RouteTable.poisonedVictim_of_least hp hmin]
  · simp only [RouteTable.placeForPin, hfree, RouteTable.poisonedVictim_of_none hnone,
      RouteTable.liveVictim_of_worst hp hmax, Option.map_some]

/-- R107: a table of pins alone has no place for another. -/
theorem RouteTable.placeForPin_of_pins (h : ∀ p, ∃ d x, rt.entry p = some ⟨d, .pinned x⟩) : rt.placeForPin = none := by
  have hfree : rt.lowestFree = none := bankFind_none.mpr fun p => by
    obtain ⟨d, x, he⟩ := h p
    exact Option.isNone_eq_false_iff.mpr (Option.isSome_of_eq_some he)
  have hpoison : rt.poisonedVictim = none := RouteTable.poisonedVictim_of_none fun p d x age k he => by
    obtain ⟨d', x', hp⟩ := h p
    simp [hp] at he
  have hlive : rt.liveVictim = none := Option.eq_none_iff_forall_ne_some.mpr fun v hv => by
    obtain ⟨d, st, x, y, sq, age, he, -⟩ := RouteTable.liveVictim_source (p := v.1) (m := v.2) hv
    obtain ⟨d', x', hp⟩ := h v.1
    simp [hp] at he
  simp only [RouteTable.placeForPin, hfree, hpoison, hlive, Option.map_none]

end Place

/-! ### ROUTE_PIN -/

section Pin
variable {s : State} {seq metric : BitVec 16} {dest : NodeId} {link : Byte} {n : LinkIx} {rt : RouteTable}

theorem State.commandRoutePin_of_bad (h : linkArg link = none ∨ s.identifies dest = false) :
    s.commandRoutePin seq dest link metric = s.respond 0x20 seq .badArgument := by
  unfold State.commandRoutePin
  split
  · rfl
  · rename_i hn
    exact if_pos (by simp [h.resolve_left (by simp [hn])])

variable (hn : linkArg link = some n) (hid : s.identifies dest = true)
include hn hid

theorem State.commandRoutePin_of_refused (hp : s.routes.pin dest n metric.toNat = none) :
    s.commandRoutePin seq dest link metric = s.respond 0x20 seq .refusedFull := by
  simp [State.commandRoutePin, hn, hid, hp]

theorem State.commandRoutePin_of_placed (hp : s.routes.pin dest n metric.toNat = some rt) :
    s.commandRoutePin seq dest link metric =
      (State.reevaluate { s with routes := rt }).respond 0x20 seq .done := by
  simp [State.commandRoutePin, hn, hid, hp]

end Pin

theorem State.reevaluate_lookup (s : State) (d : NodeId) : s.reevaluate.lookup d = s.lookup d := by
  rw [State.reevaluate_eq]
  exact State.lookup_congr rfl rfl (fun _ => ⟨rfl, rfl⟩) d

/-- R31: the re-evaluation of `u`, whose pool and default budgets are those of `s`, seen from `s`. -/
theorem State.reevaluated_pool {s u : State} (hu : u.pool = s.pool)
    (hb : ∀ m, (u.link m).defaultBudget = (s.link m).defaultBudget) :
    (s.pool.heldList = [] → u.reevaluate.pool = s.pool) ∧
      (s.PoolOk → s.Reevaluated u.reevaluate ∧ ∀ g, g ∉ s.pool.heldList → u.reevaluate.frame g = s.frame g) := by
  refine ⟨fun hnil => ?_, fun hpool => hpool.reevaluated hu hb rfl u.reevaluate_lookup⟩
  rw [State.reevaluate_of_nil (hu ▸ hnil), hu]

/-! ### ROUTE_UNPIN -/

section Unpin
variable {s : State} {seq : BitVec 16} {dest : NodeId} {p : RoutePos}

theorem State.commandRouteUnpin_of_bad (hid : s.identifies dest = false) :
    s.commandRouteUnpin seq dest = s.respond 0x21 seq .badArgument := if_pos (by simp [hid])

theorem State.commandRouteUnpin_of_none (hid : s.identifies dest = true) (hp : s.routes.pinnedAt dest = none) :
    s.commandRouteUnpin seq dest = s.respond 0x21 seq .refusedState := by
  simp [State.commandRouteUnpin, hid, hp]

theorem State.commandRouteUnpin_of_pinned (hid : s.identifies dest = true) (hp : s.routes.pinnedAt dest = some p) :
    s.commandRouteUnpin seq dest =
      State.respond { s with routes := s.routes.setEntry p none } 0x21 seq .done := by
  simp [State.commandRouteUnpin, hid, hp]

end Unpin

/-- Settles O56: the tests of R107 and R108 in their order, the place by `RouteTable.pin_of_place`, and the held list's
re-evaluation by `State.PoolOk.reevaluated`. -/
theorem pinsAreSetAndFreed : Obligations.PinsAreSetAndFreed := by
  intro s seq dest link metric hq
  have hid (h0 : dest ≠ 0) (h1 : dest ≠ 0xFFFF) (hown : dest ≠ s.path.ownId) : s.commandRead.identifies dest = true :=
    State.identifies_iff.mpr ⟨h0, h1, hown⟩
  refine ⟨fun hc => ⟨fun hbad => ?bad, fun n p hl h0 h1 hown hplace => ?placed,
    fun n hl h0 h1 hown hpos hpins => ?full⟩, fun hc => ⟨fun hbad => ?badUnpin, fun h0 h1 hown hp => ?notPinned,
    fun p h0 h1 hown hp => ?unpinned⟩⟩
  case bad =>
    rw [exec_routePin_read hq hc, State.commandRoutePin_of_bad (s := s.commandRead)
      (hbad.imp linkArg_none.mpr State.identifies_eq_false.mpr)]
  case placed =>
    have hplaced := RouteTable.pin_of_place (n := n) (m := metric.toNat)
      (hplace.imp_right fun h => h.elim (fun h => ⟨h.1, RouteTable.placeForPin_of_free h.2⟩)
        fun ⟨hpos, hfree, hvictim⟩ => ⟨hpos, RouteTable.placeForPin_of_victim hfree hvictim⟩)
    rw [exec_routePin_read hq hc,
      State.commandRoutePin_of_placed (s := s.commandRead) (linkArg_some.mpr hl) (hid h0 h1 hown) hplaced]
    exact ⟨_, rfl, State.reevaluate_eq _, State.reevaluated_pool rfl fun _ => rfl⟩
  case full =>
    rw [exec_routePin_read hq hc, State.commandRoutePin_of_refused (s := s.commandRead) (linkArg_some.mpr hl)
      (hid h0 h1 hown) (RouteTable.pin_of_none hpos (RouteTable.placeForPin_of_pins hpins))]
  case badUnpin =>
    rw [exec_routeUnpin_read hq hc, State.commandRouteUnpin_of_bad (s := s.commandRead) (State.identifies_eq_false.mpr hbad)]
  case notPinned =>
    rw [exec_routeUnpin_read hq hc, State.commandRouteUnpin_of_none (s := s.commandRead) (hid h0 h1 hown) hp]
  case unpinned =>
    rw [exec_routeUnpin_read hq hc, State.commandRouteUnpin_of_pinned (s := s.commandRead) (hid h0 h1 hown) hp]
    rfl

end Sys2Proof.Machine
end
section
/-!
PROOF. ROUTE_QUERY (R109): the lookup's result by the kind of the entry (R104), and the fields of its payload (Table
12-12).
-/

namespace Sys2Proof.Machine

/-! ### The lookup by the kind of the entry (R104) -/

section Lookup
variable {s : State} {dest : NodeId} {p : RoutePos} {d : NodeId} {h y : Hop} {n : LinkIx} {st : Bool}
  {x : Option Hop} {sq : BitVec 16} {age k : Nat}

variable (hid : s.identifies dest = true)
include hid

/-- Without an entry the destination is a usable neighbour or has no route. -/
theorem State.lookup_of_absent (hpos : s.routes.posOf dest = none) : s.lookup dest = s.usableLinkOf dest := by
  simp [State.lookup, hid, RouteTable.find, hpos]

variable (hpos : s.routes.posOf dest = some p)
include hpos

theorem State.lookup_of_poisoned (he : s.routes.entry p = some ⟨d, .poisoned sq age k⟩) :
    s.lookup dest = s.usableLinkOf dest := by
  simp [State.lookup, hid, RouteTable.find, hpos, he]

theorem State.lookup_of_pinned (he : s.routes.entry p = some ⟨d, .pinned h⟩) :
    s.lookup dest = if (s.link h.link).usable then some h.link else none := by
  simp [State.lookup, hid, RouteTable.find, hpos, he]

/-- A live entry's primary, while it or no alternate is ACTIVE. -/
theorem State.lookup_of_primary (he : s.routes.entry p = some ⟨d, .live st h x sq age⟩)
    (ha : (s.link h.link).state = .active ∨ ∀ y, x = some y → (s.link y.link).state ≠ .active) :
    s.lookup dest = some h.link := by
  simp only [State.lookup, hid, RouteTable.find, hpos, he, Option.bind_some, LinkRec.isActive]
  obtain ha | ha := ha
  · simp [ha]
  · cases x with
    | none => simp
    | some y => simp [ha y rfl]

/-- A live entry's ACTIVE alternate, while the primary is not ACTIVE. -/
theorem State.lookup_of_alternate (he : s.routes.entry p = some ⟨d, .live st h (some y) sq age⟩)
    (hh : (s.link h.link).state ≠ .active) (hy : (s.link y.link).state = .active) : s.lookup dest = some y.link := by
  simp [State.lookup, hid, RouteTable.find, hpos, he, LinkRec.isActive, hh, hy]

end Lookup

/-! ### The fields of the payload (Table 12-12) -/

section Payload
variable (rt : RouteTable) (p : RoutePos) (d dest : NodeId) (r : Option LinkIx) (h : Hop) (st : Bool) (x : Option Hop)
  (sq : BitVec 16) (age k : Nat)

/-- The lookup's result and the fields of the table as a whole. -/
theorem RouteTable.queryPayload_table (found : Option (RoutePos × RouteEntry)) :
    (rt.queryPayload found dest r).length = 24 ∧ byteAt (rt.queryPayload found dest r) 14 = linkByte r ∧
      half (rt.queryPayload found dest r) 16 = rt.ownSeq ∧
      byteAt (rt.queryPayload found dest r) 18 = toByte rt.cursor ∧
      half (rt.queryPayload found dest r) 20 = BitVec.ofNat 16 rt.occupied := by
  cases found with
  | none => exact ⟨rfl, rfl, extract_append_extract _, rfl, extract_append_extract _⟩
  | some v =>
    obtain ⟨p, d, b⟩ := v
    cases b <;> exact ⟨rfl, rfl, extract_append_extract _, rfl, extract_append_extract _⟩

theorem RouteTable.queryPayload_none :
    byteAt (rt.queryPayload none dest r) 0 = 0 ∧ half (rt.queryPayload none dest r) 2 = dest :=
  ⟨rfl, extract_append_extract _⟩

theorem RouteBody.queryBits_found (b : RouteBody) : (toByte b.queryBits).getLsbD 0 = true := by
  refine getLsbD_toByte (by decide) ?_
  cases b <;> simp only [RouteBody.queryBits, bit_true] <;> omega

theorem RouteTable.queryPayload_found (b : RouteBody) :
    (byteAt (rt.queryPayload (some (p, ⟨d, b⟩)) dest r) 0).getLsbD 0 = true ∧
      byteAt (rt.queryPayload (some (p, ⟨d, b⟩)) dest r) 1 = toByte p.val ∧
      half (rt.queryPayload (some (p, ⟨d, b⟩)) dest r) 2 = d :=
  ⟨b.queryBits_found, rfl, extract_append_extract _⟩

theorem RouteTable.queryPayload_pinned :
    field (byteAt (rt.queryPayload (some (p, ⟨d, .pinned h⟩)) dest r) 0) 1 6 = 1 ∧
      byteAt (rt.queryPayload (some (p, ⟨d, .pinned h⟩)) dest r) 4 = toByte h.link.val ∧
      byteAt (rt.queryPayload (some (p, ⟨d, .pinned h⟩)) dest r) 5 = 0xFF ∧
      half (rt.queryPayload (some (p, ⟨d, .pinned h⟩)) dest r) 6 = BitVec.ofNat 16 h.metric :=
  ⟨(field_toByte 3 (by decide)).trans (by decide), rfl, rfl, extract_append_extract _⟩

/-- The kind and state bits of a live entry, by its STALE flag and whether it has an alternate. -/
theorem liveBits_fields (stale alternate : Bool) :
    let b := toByte (1 + 4 * bit stale + 16 * bit alternate + 32)
    b.getLsbD 1 = false ∧ field b 2 2 = (if stale = true then 1 else 0) ∧ b.getLsbD 4 = alternate ∧
      b.getLsbD 5 = true ∧ b.getLsbD 6 = false := by
  have hs := bit_le_one stale
  have ha := bit_le_one alternate
  refine ⟨getLsbD_toByte (by decide) ?_, (field_toByte _ (by decide)).trans ?_, getLsbD_toByte (by decide) ?_,
    getLsbD_toByte (by decide) ?_, getLsbD_toByte (by decide) ?_⟩
  · rw [bit_false]; omega
  · rw [← bit]; omega
  · omega
  · rw [bit_true]; omega
  · rw [bit_false]; omega

theorem RouteTable.queryPayload_live : let b := rt.queryPayload (some (p, ⟨d, .live st h x sq age⟩)) dest r
    byteAt b 0 = toByte (1 + 4 * bit st + 16 * bit x.isSome + 32) ∧ byteAt b 4 = toByte h.link.val ∧
      byteAt b 5 = linkByte (x.map Hop.link) ∧ half b 6 = BitVec.ofNat 16 h.metric ∧
      half b 8 = BitVec.ofNat 16 ((x.map Hop.metric).getD 0) ∧ half b 10 = sq ∧ byteAt b 12 = toByte age :=
  ⟨rfl, rfl, rfl, extract_append_extract _, extract_append_extract _, extract_append_extract _, rfl⟩

theorem RouteTable.queryPayload_poisoned : let b := rt.queryPayload (some (p, ⟨d, .poisoned sq age k⟩)) dest r
    (byteAt b 0).getLsbD 1 = false ∧ field (byteAt b 0) 2 2 = 2 ∧ (byteAt b 0).getLsbD 4 = false ∧
      (byteAt b 0).getLsbD 5 = true ∧ (byteAt b 0).getLsbD 6 = true ∧ byteAt b 4 = 0xFF ∧ byteAt b 5 = 0xFF ∧
      half b 6 = 0xFFFF ∧ half b 10 = sq ∧ byteAt b 12 = toByte age ∧ byteAt b 13 = toByte k :=
  have hbit {i : Nat} {b : Bool} (hi : i < 8) (h : 105 / 2 ^ i % 2 = bit b) : (toByte 105).getLsbD i = b :=
    getLsbD_toByte hi h
  ⟨hbit (by decide) rfl, (field_toByte 105 (by decide)).trans rfl, hbit (by decide) rfl, hbit (by decide) rfl,
    hbit (by decide) rfl, rfl, rfl, extract_append_extract _, extract_append_extract _, rfl, rfl⟩

end Payload

/-! ### The answer (R109) -/

/-- R109: the entry a query finds, with its position. -/
def State.queried (s : State) (sel : Byte) (v : BitVec 16) : Option (RoutePos × RouteEntry) :=
  if sel = 0 then
    if s.identifies v then (s.routes.posOf v).bind fun p => (s.routes.entry p).map fun e => (p, e) else none
  else (index? 256 v.toNat).bind fun p => (s.routes.entry p).map fun e => (p, e)

/-- R109: the destination a query's lookup is made of; none for a free position. -/
def State.queriedDest (s : State) (sel : Byte) (v : BitVec 16) : Option NodeId :=
  if sel = 0 then some v else (s.queried sel v).map fun x => x.2.dest

/-- R109: the payload of a query. -/
def State.queryAnswer (s : State) (sel : Byte) (v : BitVec 16) : List Byte :=
  s.routes.queryPayload (s.queried sel v) ((s.queriedDest sel v).getD 0) ((s.queriedDest sel v).bind s.lookup)

section Answer
variable {s : State} {seq v : BitVec 16} {sel : Byte} {p : RoutePos} {e : RouteEntry}

theorem index?_some {n : Nat} {i : Fin n} : index? n i.val = some i := dif_pos i.isLt

theorem State.commandRouteQuery_of_bad (h : sel ≠ 0 ∧ sel ≠ 1 ∨ sel = 1 ∧ 255 < v.toNat) :
    s.commandRouteQuery seq sel v = s.respond 0x22 seq .badArgument := by
  unfold State.commandRouteQuery
  obtain ⟨h0, h1⟩ | ⟨rfl, hv⟩ := h
  · split
    · exact absurd (BitVec.eq_of_toNat_eq ‹_›) h0
    · exact absurd (BitVec.eq_of_toNat_eq ‹_›) h1
    · rfl
  · have hnone : index? 256 v.toNat = none := dif_neg (Nat.not_lt.mpr hv)
    simp [hnone]

theorem State.commandRouteQuery_eq (h : sel = 0 ∨ sel = 1 ∧ v.toNat ≤ 255) :
    s.commandRouteQuery seq sel v = s.respondWith 0x22 seq .done (s.queryAnswer sel v) := by
  obtain rfl | ⟨rfl, hv⟩ := h
  · rfl
  · have hp : index? 256 v.toNat = some ⟨v.toNat, Nat.lt_succ_of_le hv⟩ := dif_pos _
    cases he : s.routes.entry ⟨v.toNat, Nat.lt_succ_of_le hv⟩ <;>
      simp [State.commandRouteQuery, State.queryAnswer, State.queriedDest, State.queried, hp, he, nodeNone]

/-- A query that finds no entry. -/
theorem State.queried_none (h : sel = 0 ∧ (s.identifies v = false ∨ s.routes.posOf v = none) ∨
    sel = 1 ∧ ∃ q : RoutePos, v.toNat = q.val ∧ s.routes.entry q = none) : s.queried sel v = none := by
  obtain ⟨rfl, h | h⟩ | ⟨rfl, q, hv, hq⟩ := h
  · simp [State.queried, h]
  · simp [State.queried, h]
  · simp [State.queried, hv, index?_some, hq]

/-- A query that finds an entry. -/
theorem State.queried_some (he : s.routes.entry p = some e)
    (h : sel = 0 ∧ s.identifies v = true ∧ s.routes.posOf v = some p ∨ sel = 1 ∧ v.toNat = p.val) :
    s.queried sel v = some (p, e) := by
  obtain ⟨rfl, hid, hpos⟩ | ⟨rfl, hv⟩ := h
  · simp [State.queried, hid, hpos, he]
  · simp [State.queried, hv, index?_some, he]

theorem State.queryAnswer_none (h : s.queried sel v = none) : s.queryAnswer sel v =
    s.routes.queryPayload none (if sel = 0 then v else 0) (if sel = 0 then s.lookup v else none) := by
  have hdest : s.queriedDest sel v = if sel = 0 then some v else none := by
    rw [State.queriedDest, h, Option.map_none]
  rw [State.queryAnswer, hdest, h]
  split <;> rfl

theorem State.queryAnswer_some (h : s.queried sel v = some (p, e)) (hd : sel = 0 → e.dest = v) :
    s.queryAnswer sel v = s.routes.queryPayload (some (p, e)) e.dest (s.lookup e.dest) := by
  have hdest : s.queriedDest sel v = some e.dest := by
    unfold State.queriedDest
    split
    · rw [hd ‹_›]
    · rw [h, Option.map_some]
  rw [State.queryAnswer, hdest, h]
  rfl

/-- The fields of an answer that do not depend on what was found. -/
theorem State.queryAnswer_table (s : State) (sel : Byte) (v : BitVec 16) : (s.queryAnswer sel v).length = 24 ∧
    half (s.queryAnswer sel v) 16 = s.routes.ownSeq ∧ byteAt (s.queryAnswer sel v) 18 = toByte s.routes.cursor ∧
    half (s.queryAnswer sel v) 20 = BitVec.ofNat 16 s.routes.occupied := by
  obtain ⟨hlen, -, htable⟩ := s.routes.queryPayload_table ((s.queriedDest sel v).getD 0)
    ((s.queriedDest sel v).bind s.lookup) (s.queried sel v)
  exact ⟨hlen, htable⟩

theorem State.commandRead_queryAnswer (s : State) (sel : Byte) (v : BitVec 16) :
    s.commandRead.queryAnswer sel v = s.queryAnswer sel v := rfl

/-- A query by destination answers with the lookup of that destination. -/
theorem State.queryAnswer_link (s : State) (v : BitVec 16) :
    byteAt (s.queryAnswer 0 v) 14 = linkByte (s.lookup v) := (s.routes.queryPayload_table _ _ _).2.1

end Answer

/-- Settles O57: the answer is `State.queryAnswer`, its fields are read from Table 12-12, and the lookup is that of the
entry's kind. -/
theorem routeQueryChangesNothing : Obligations.RouteQueryChangesNothing := by
  intro s seq sel v hq hc
  rw [exec_routeQuery_read hq hc]
  refine ⟨fun hbad => by rw [State.commandRouteQuery_of_bad hbad], fun hsel => ?_⟩
  rw [State.commandRouteQuery_eq hsel, State.commandRead_queryAnswer]
  obtain ⟨hlen, hseq, hcursor, hcount⟩ := s.queryAnswer_table sel v
  refine ⟨s.queryAnswer sel v, rfl, hlen, hseq, hcursor, hcount, fun hnone => ?none,
    fun h0 hv0 hv1 hown => ?lookup, fun q e he hfound => ?found⟩
  case none =>
    have hq : s.queried sel v = none := State.queried_none (hnone.imp_left fun ⟨h0, hv⟩ => ⟨h0, by
      rwa [State.identifies_eq_false, or_assoc, or_assoc]⟩)
    obtain ⟨hzero, hdest⟩ := s.routes.queryPayload_none (if sel = 0 then v else 0)
      (if sel = 0 then s.lookup v else none)
    rw [State.queryAnswer_none hq]
    exact ⟨hzero, hdest, (s.routes.queryPayload_table _ _ _).2.1⟩
  case lookup =>
    subst h0
    have hid : s.identifies v = true := State.identifies_iff.mpr ⟨hv0, hv1, hown⟩
    rw [State.queryAnswer_link]
    refine ⟨fun n q e hpos he hcase => congrArg linkByte (a₂ := some n) ?held,
      fun n hpos hl hu => congrArg linkByte (a₂ := some n) ?neighbour,
      fun q d h hpos he hu => congrArg linkByte (a₂ := none) ?unusable,
      fun hcase hnone => congrArg linkByte (a₂ := none) ?nowhere⟩
    case held =>
      obtain ⟨d, b⟩ := e
      obtain ⟨h, rfl, rfl, hu⟩ | ⟨sq, age, k, rfl, hl, hu⟩ | ⟨st, h, x, sq, age, rfl, hlive⟩ := hcase
      · rw [State.lookup_of_pinned hid hpos he, if_pos hu]
      · rw [State.lookup_of_poisoned hid hpos he, State.usableLinkOf_of_usable hl hu]
      · obtain ⟨rfl, ha⟩ | ⟨hh, y, rfl, rfl, hy⟩ := hlive
        · exact State.lookup_of_primary hid hpos he ha
        · exact State.lookup_of_alternate hid hpos he hh hy
    case neighbour => rw [State.lookup_of_absent hid hpos, State.usableLinkOf_of_usable hl hu]
    case unusable => rw [State.lookup_of_pinned hid hpos he, if_neg (by simp [hu])]
    case nowhere =>
      obtain hpos | ⟨q, d, sq, age, k, hpos, he⟩ := hcase
      · rw [State.lookup_of_absent hid hpos, hnone]
      · rw [State.lookup_of_poisoned hid hpos he, hnone]
  case found =>
    have hq : s.queried sel v = some (q, e) := State.queried_some he (hfound.imp_left
      fun ⟨h0, hv0, hv1, hown, hpos, _⟩ => ⟨h0, State.identifies_iff.mpr ⟨hv0, hv1, hown⟩, hpos⟩)
    have hdest : sel = 0 → e.dest = v := fun h0 => by
      obtain ⟨-, -, -, -, -, hd⟩ | ⟨h1, -⟩ := hfound
      · exact hd
      · exact absurd (h0.symm.trans h1) (by decide)
    obtain ⟨d, b⟩ := e
    rw [State.queryAnswer_some hq hdest]
    obtain ⟨hbit, hpos, hd⟩ := s.routes.queryPayload_found q d d (s.lookup d) b
    refine ⟨hbit, hpos, hd, (s.routes.queryPayload_table _ _ _).2.1, fun h hb => ?pinned,
      fun st h x sq age hb => ?live, fun sq age k hb => ?poisoned⟩
    case pinned =>
      obtain rfl : b = .pinned h := hb
      exact s.routes.queryPayload_pinned q d d (s.lookup d) h
    case live =>
      obtain rfl : b = .live st h x sq age := hb
      obtain ⟨hbits, hlink, halternate, hmetric, hmetric2, hsq, hage⟩ :=
        s.routes.queryPayload_live q d d (s.lookup d) h st x sq age
      obtain ⟨hkind, hstate, hhas, hlearned, hpoison⟩ := liveBits_fields st x.isSome
      rw [hbits]
      refine ⟨hkind, hstate, hhas, hlearned, hpoison, hlink, hmetric, hsq, hage, fun hx => ?_, fun a hx => ?_⟩
      · rw [halternate, hx]; rfl
      · rw [halternate, hmetric2, hx]; exact ⟨rfl, rfl⟩
    case poisoned =>
      obtain rfl : b = .poisoned sq age k := hb
      exact s.routes.queryPayload_poisoned q d d (s.lookup d) sq age k

end Sys2Proof.Machine
end
section
/-!
PROOF. Read runs and their answers (R113, R122, R123, R163, R171): the port answers the accesses of a run one after
another, and each answer joins the bytes answered before. The tests of the header and the body follow (O25), and the
end of the hold budget, which abandons the decision (O29).
-/

namespace Sys2Proof.Machine

/-! ### A run answered by one row -/

/-- The readers whose run may be several accesses: they put each answer behind those before it. -/
def Reader.gathers : Reader → Bool
  | .classifierHeader => true
  | .classifierBody => true
  | .intakeHeader => true
  | _ => false

section Run
variable {s : State} {who : Reader}

theorem State.headerGathered_setClassifier (c : Classifier) (b l : Nat) (h : List Byte) :
    (s.setClassifier c).headerGathered b l h = s.headerGathered b l h := rfl

/-- An answer that is not the last of its run reaches neither the Memory Path nor memory. -/
theorem State.answered_part (hw : who.gathers = true) (bs : List Byte) :
    (s.answered who bs false).path = s.path ∧ (s.answered who bs false).mem = s.mem := by
  cases who with
  | classifierHeader => simp only [State.answered, State.headerAnswered]; split <;> exact ⟨rfl, rfl⟩
  | classifierBody => simp only [State.answered, State.bodyAnswered]; split <;> exact ⟨rfl, rfl⟩
  | intakeHeader => simp only [State.answered, State.localHeaderAnswered]; split <;> exact ⟨rfl, rfl⟩
  | intakeEntry => cases hw
  | command => cases hw

/-- Two answers of one run are the answer of their bytes in one. -/
theorem State.answered_answered (hw : who.gathers = true) (bs cs : List Byte) (last : Bool) :
    (s.answered who bs false).answered who cs last = s.answered who (bs ++ cs) last := by
  cases who with
  | classifierHeader =>
    cases hc : s.classifier with
    | idle => simp [State.answered, State.headerAnswered, hc]
    | deciding b l g =>
      cases g <;> simp [State.answered, State.headerAnswered, hc, State.headerGathered_setClassifier]
      case header => rfl
  | classifierBody =>
    cases hc : s.classifier with
    | idle => simp [State.answered, State.bodyAnswered, hc]
    | deciding b l g =>
      cases g <;> simp [State.answered, State.bodyAnswered, hc]
      case body => rfl
  | intakeHeader =>
    cases hg : s.intake.stage <;> simp [State.answered, State.localHeaderAnswered, hg]
    case fetchingHeader => rfl
  | intakeEntry => cases hw
  | command => cases hw

/-- The bytes in hand and the queue do not touch each other. -/
theorem State.answered_dropHeads (hw : who.gathers = true) (bs : List Byte) (k : Nat) :
    (s.answered who bs false).dropHeads k = (s.dropHeads k).answered who bs false := by
  cases who with
  | classifierHeader => simp only [State.answered, State.headerAnswered, State.dropHeads]; split <;> rfl
  | classifierBody => simp only [State.answered, State.bodyAnswered, State.dropHeads]; split <;> rfl
  | intakeHeader => simp only [State.answered, State.localHeaderAnswered, State.dropHeads]; split <;> rfl
  | intakeEntry => cases hw
  | command => cases hw

theorem State.runBytes_cons (p : ReadPiece) (run : List ReadPiece) :
    s.runBytes (p :: run) = s.answerBytes p.addr p.len p.skip p.take ++ s.runBytes run := rfl

theorem State.runBytes_congr {t : State} (h : t.mem = s.mem) (run : List ReadPiece) :
    t.runBytes run = s.runBytes run := by
  rw [State.runBytes, h, State.runBytes]

theorem State.passingHeld_congr {t : State} (h : t.path.slot = s.path.slot) : t.passingHeld = s.passingHeld := by
  rw [State.passingHeld, h, State.passingHeld]

theorem readAccessesAux_cons_ne_nil (p : ReadPiece) (run : List ReadPiece) : readAccessesAux who (p :: run) ≠ [] := by
  cases run <;> simp [readAccessesAux]

theorem State.takeRun_head {a n k m fuel : Nat} {last : Bool} {rest : List Injected}
    (hq : s.path.queue = .read who a n k m last true :: rest) (ht : s.headTurn = true) :
    State.takeRun who (fuel + 1) s =
      if last then s.dropHead.answered who (s.answerBytes a n k m) last
      else State.takeRun who fuel (s.dropHead.answered who (s.answerBytes a n k m) last) := by
  simp [State.takeRun, hq, ht, State.takeHead_read hq]

/-- The port may take the head of the queue throughout a run: no passing write waits, or the run is one access. -/
def State.runTurn (s : State) (run : List ReadPiece) : Prop :=
  s.passingHeld = false ∨ run.length = 1 ∧ s.headTurn = true

theorem State.runTurn.headTurn {run : List ReadPiece} (h : s.runTurn run) : s.headTurn = true := by
  obtain h | ⟨-, h⟩ := h
  · simp [State.headTurn, h]
  · exact h

/-- R163, R171: a run at the head of the queue is answered as one read of its bytes, memory standing as it does. What
is left of it after each answer stands at the head of the queue and its tails. -/
theorem State.takeRun_of_run (hw : who.gathers = true) {run : List ReadPiece} (hrun : run ≠ []) {rest : List Injected}
    {fuel : Nat} (hfuel : run.length ≤ fuel) (hturn : s.runTurn run) (hne : s.path.queue ≠ [])
    (hall : s.path.queue ++ s.path.tails = readAccessesAux who run ++ rest) :
    State.takeRun who fuel s = (s.dropHeads run.length).answered who (s.runBytes run) true := by
  induction run generalizing s fuel with
  | nil => exact absurd rfl hrun
  | cons p ps ih =>
    obtain ⟨x, queue, hq⟩ := List.exists_cons_of_ne_nil hne
    obtain ⟨fuel, rfl⟩ := Nat.exists_eq_add_one.mpr (Nat.zero_lt_of_lt hfuel)
    cases ps with
    | nil =>
      obtain ⟨rfl, -⟩ := List.cons_eq_cons.mp (hq ▸ hall)
      rw [State.takeRun_head hq hturn.headTurn, if_pos rfl, ← State.dropHeads_one hne]
      simp [State.runBytes, State.answerBytes]
    | cons q ps =>
      obtain ⟨rfl, hrest⟩ := List.cons_eq_cons.mp (hq ▸ hall)
      obtain ⟨hpath, hmem⟩ := s.dropHead.answered_part hw (s.answerBytes p.addr p.len p.skip p.take)
      have hfill : (s.dropHead.answered who (s.answerBytes p.addr p.len p.skip p.take) false).path =
          s.path.fill (readAccessesAux who (q :: ps) ++ rest) := by
        rw [hpath, State.dropHead_path, hq]
        exact congrArg s.path.fill hrest
      have hpass : s.passingHeld = false := hturn.resolve_right fun h => by simp at h
      have hnext : State.passingHeld
          (s.dropHead.answered who (s.answerBytes p.addr p.len p.skip p.take) false) = false :=
        (State.passingHeld_congr (by rw [hfill]; rfl)).trans hpass
      rw [State.takeRun_head hq hturn.headTurn, if_neg Bool.false_ne_true, ih (List.cons_ne_nil q ps)
        (Nat.le_of_succ_le_succ hfuel) (.inl hnext) (by simp [hfill, readAccessesAux_cons_ne_nil])
        (by rw [hfill, MemoryPath.fill_all]), State.answered_dropHeads hw, State.dropHead_dropHeads _ hne,
        State.answered_answered hw, State.runBytes_congr (hmem.trans s.dropHead_mem), State.runBytes_cons]
      rfl

/-- One row answers the run at the head of the queue (log entry 29). -/
theorem State.answerRun_of_run (hw : who.gathers = true) {run : List ReadPiece} (hrun : run ≠ [])
    (hturn : s.runTurn run) {rest : List Injected} (hq : s.path.queue = readAccessesAux who run ++ rest) :
    s.answerRun who = (s.dropHeads run.length).answered who (s.runBytes run) true := by
  have hlen : run.length ≤ s.path.queue.length := by simp [hq]
  have hne : s.path.queue ≠ [] :=
    List.ne_nil_of_length_pos (Nat.lt_of_lt_of_le (List.length_pos_iff.mpr hrun) hlen)
  exact State.takeRun_of_run hw hrun hlen hturn hne (rest := rest ++ s.path.tails) (by rw [hq, List.append_assoc])

/-- One row answers the one access of a run at the head of the queue. -/
theorem State.answerRun_of_access {a n k m : Nat} {rest : List Injected}
    (hq : s.path.queue = .read who a n k m true true :: rest) (ht : s.headTurn = true) :
    s.answerRun who = s.dropHead.answered who (s.answerBytes a n k m) true := by
  have hfuel : s.path.queue.length = rest.length + 1 := by rw [hq, List.length_cons]
  rw [State.answerRun, hfuel, State.takeRun_head hq ht, if_pos rfl]

end Run

/-! ### The tests of the header and the body (R5, R6, R113) -/

section Tests
variable {s : State} {b l : Nat} {h body got bs : List Byte}

theorem State.headerAnswered_last (hc : s.classifier = .deciding b l (.header got)) :
    s.headerAnswered bs true = s.headerGathered b l (got ++ bs) := by
  simp [State.headerAnswered, hc]

theorem State.bodyAnswered_last (hc : s.classifier = .deciding b l (.body h got)) : s.bodyAnswered bs true =
    s.setClassifier (.deciding b l
      (if bodyOk h (got ++ bs) then .ready h (got ++ bs) else .malformed h (got ++ bs))) := by
  simp only [State.bodyAnswered, hc, if_true]
  split <;> rfl

theorem State.headerGathered_of_bad (hbad : headerOk h l = false ∨ hdrKind h = 2 ∧ beaconOk h = false) :
    s.headerGathered b l h = s.setClassifier (.deciding b l (.malformed h [])) := by
  obtain hh | ⟨hk, hb⟩ := hbad
  · simp [State.headerGathered, hh]
  · simp [State.headerGathered, kindBeacon, hk, hb]

theorem State.headerGathered_of_ready (hh : headerOk h l = true) (hk : hdrKind h ≠ 2) :
    s.headerGathered b l h = s.setClassifier (.deciding b l (.ready h [])) := by
  simp [State.headerGathered, kindBeacon, hh, hk]

theorem State.headerGathered_of_beacon (hh : headerOk h l = true) (hk : hdrKind h = 2) (hb : beaconOk h = true) :
    s.headerGathered b l h = (s.setClassifier (.deciding b l (.body h []))).issue
      (readAccesses .classifierBody (b + 20) (hdrPayload h)) := by
  simp [State.headerGathered, kindBeacon, hh, hk, hb]

end Tests

/-! ### The rows of the Classifier's reads -/

section Rows
variable {s : State} {run : List ReadPiece} {b l : Nat} {got : List Byte} {rest : List Injected}
  (hquiet : s.quiet = true) (hrun : run ≠ []) (hturn : s.runTurn run)
include hquiet hrun hturn

theorem exec_headerReadDone_of_run (hq : s.path.queue = readAccessesAux .classifierHeader run ++ rest)
    (hc : s.classifier = .deciding b l (.header got)) :
    exec .headerReadDone s = .next ((s.dropHeads run.length).headerGathered b l (got ++ s.runBytes run)) := by
  have hrow : exec .headerReadDone s = .next (s.settle.answerRun .classifierHeader) := rfl
  rw [hrow, State.settle_of_quiet hquiet, State.answerRun_of_run rfl hrun hturn hq]
  exact congrArg Host.Outcome.next (State.headerAnswered_last hc)

theorem exec_beaconBodyReadDone_of_run {h : List Byte}
    (hq : s.path.queue = readAccessesAux .classifierBody run ++ rest)
    (hc : s.classifier = .deciding b l (.body h got)) :
    exec .beaconBodyReadDone s = .next ((s.dropHeads run.length).setClassifier (.deciding b l
      (if bodyOk h (got ++ s.runBytes run) then .ready h (got ++ s.runBytes run)
        else .malformed h (got ++ s.runBytes run)))) := by
  have hrow : exec .beaconBodyReadDone s = .next (s.settle.answerRun .classifierBody) := rfl
  rw [hrow, State.settle_of_quiet hquiet, State.answerRun_of_run rfl hrun hturn hq]
  exact congrArg Host.Outcome.next (State.bodyAnswered_last hc)

end Rows

/-- Settles O25: the run is answered as one read, and its bytes meet the tests of the header or of the body. -/
theorem answeredReadsAreTested : Obligations.AnsweredReadsAreTested := by
  intro s run b l got rest hquiet hrun hturn
  constructor
  · rintro h hq hc rfl
    have hexec := exec_headerReadDone_of_run hquiet hrun hturn hq hc
    refine ⟨fun hbad => ?_, fun hh hk => ?_, fun hh hk hb => ?_⟩
    · rw [hexec, State.headerGathered_of_bad hbad]; rfl
    · rw [hexec, State.headerGathered_of_ready hh hk]; rfl
    · rw [hexec, State.headerGathered_of_beacon hh hk hb]; rfl
  · rintro h body hq hc rfl
    have hexec := exec_beaconBodyReadDone_of_run hquiet hrun hturn hq hc
    refine ⟨fun hok => ?_, fun hbad => ?_⟩
    · rw [hexec, if_pos (by simpa [bodyOk] using hok)]; rfl
    · rw [hexec, if_neg (by simpa [bodyOk] using hbad)]; rfl

/-! ### The end of the hold budget (R115, R167) -/

/-- Settles O29: the budget that is left passes, and with none left the decision is abandoned. -/
theorem budgetExpiryAbandonsTheDecision : Obligations.BudgetExpiryAbandonsTheDecision := by
  intro s a k d hquiet hslot
  have hrow : exec .holdBudgetExpiry s = .next s.settle.expireBudget := rfl
  have hexpire : s.expireBudget = s.elapse k := by simp [State.expireBudget, hslot]
  obtain ⟨hpass, hexpires⟩ := MemoryPath.pass_of_le hslot (Nat.le_refl k)
  rw [hrow, State.settle_of_quiet hquiet, hexpire, State.elapse, hpass, hexpires]
  rfl

end Sys2Proof.Machine
end
section
/-!
PROOF. The Local Intake up to the admission (R122, R123, R126, R127): the read of a local send entry and of its header,
their tests, and the tagless release of a frame that fails them (O30, O31).
-/

namespace Sys2Proof.Machine

section Intake
variable {s : State} {w : Windows} {e : LocalEntry} {h got bs : List Byte} {st : ReleaseStatus}

/-! ### The tagless release (R122, R126) -/

theorem State.isQuiescing_of_running (hr : s.path.engine = .running) : s.isQuiescing = false := by
  simp [State.isQuiescing, hr]

theorem State.isRunning_of_running (hr : s.path.engine = .running) : s.isRunning = true := by
  simp [State.isRunning, hr]

/-- R122: the index advances round the local send ring and the stage returns to IDLE. -/
theorem State.entryDone_eq (hw : s.path.windows = some w) : s.entryDone = { s with
    intake := { s.intake with
      stage := .idle
      index := if s.intake.index + 1 < w.localSize then s.intake.index + 1 else 0 } } := by
  simp only [State.entryDone, hw]

/-- R126: the item of the entry in hand joins the backlog, and the entry is done. -/
theorem State.pushTagless_entryDone (hw : s.path.windows = some w) (b : Nat) (st : ReleaseStatus) :
    (s.pushBacklog (.tagless b st)).entryDone = { s with
      pool := { s.pool with backlog := s.pool.backlog ++ [.tagless b st] }
      intake := { s.intake with
        stage := .idle
        index := if s.intake.index + 1 < w.localSize then s.intake.index + 1 else 0 } } :=
  State.entryDone_eq (s := s.pushBacklog (.tagless b st)) hw

theorem State.releaseTagless_of_free (hw : s.path.windows = some w) (ht : s.taglessWaiting = false) :
    s.releaseTagless e h st = { s with
      pool := { s.pool with backlog := s.pool.backlog ++ [.tagless e.buffer st] }
      intake := { s.intake with
        stage := .idle
        index := if s.intake.index + 1 < w.localSize then s.intake.index + 1 else 0 } } := by
  rw [State.releaseTagless, if_neg (by simp [ht]), State.pushTagless_entryDone hw]

theorem State.releaseTagless_of_waiting (ht : s.taglessWaiting = true) :
    s.releaseTagless e h st = { s with intake := { s.intake with stage := .handing e h st } } :=
  if_pos ht

/-! ### The local send entry (R122, R123, R127) -/

theorem State.fetchEntry_of_idle (hw : s.path.windows = some w) (hr : s.path.engine = .running)
    (hg : s.intake.stage = .idle) (hpost : s.intake.index ≠ s.intake.post) (hroom : s.room 1 = true) :
    s.fetchEntry = (s.setStage .fetchingEntry).issue
      (readAccesses .intakeEntry (w.localBase + 16 * s.intake.index) 16) := by
  simp [State.fetchEntry, hw, hg, State.isRunning_of_running hr, hpost, hroom]

theorem State.entryAnswered_of_fit (hr : s.path.engine = .running) (hl : lengthOk (readLocalEntry bs).length = true) :
    s.entryAnswered bs = (s.setStage (.fetchingHeader (readLocalEntry bs) [])).issue
      (readAccesses .intakeHeader (readLocalEntry bs).buffer 20) := by
  simp [State.entryAnswered, State.isQuiescing_of_running hr, hl]

theorem State.entryAnswered_of_unfit (hr : s.path.engine = .running)
    (hl : lengthOk (readLocalEntry bs).length = false) :
    s.entryAnswered bs = s.releaseTagless (readLocalEntry bs) [] .malformed := by
  simp [State.entryAnswered, State.isQuiescing_of_running hr, hl]

theorem State.entryAnswered_of_quiescing (hz : s.isQuiescing = true) :
    s.entryAnswered bs = s.releaseTagless (readLocalEntry bs) [] .quiesced := by
  simp [State.entryAnswered, hz]

theorem State.handOver_of_waiting (hg : s.intake.stage = .handing e h st) (ht : s.taglessWaiting = true) :
    s.handOver = s := by
  simp [State.handOver, hg, ht]

theorem State.handOver_of_free (hg : s.intake.stage = .handing e h st) (ht : s.taglessWaiting = false) :
    s.handOver = (s.pushBacklog (.tagless e.buffer st)).entryDone := by
  simp [State.handOver, hg, ht]

theorem exec_localEntryReadDone_of_access (hquiet : s.quiet = true) (hturn : s.headTurn = true) {a n k m : Nat}
    {rest : List Injected} (hq : s.path.queue = .read .intakeEntry a n k m true true :: rest) :
    exec .localEntryReadDone s = .next (s.dropHead.entryAnswered (((memRead s.mem a n).drop k).take m)) := by
  have hrow : exec .localEntryReadDone s = .next (s.settle.answerRun .intakeEntry) := rfl
  rw [hrow, State.settle_of_quiet hquiet, State.answerRun_of_access hq hturn]
  rfl

/-! ### The local header (R123, R127) -/

theorem State.localOk_iff : s.localOk e h = true ↔
    headerOk h e.length = true ∧ hdrKind h = 1 ∧ hdrSource h = s.path.ownId ∧ hdrHopLimit h ≠ 0 ∧
      hdrDest h ≠ 0 ∧ hdrDest h ≠ 0xFFFF ∧ hdrDest h ≠ s.path.ownId := by
  simp [State.localOk, State.identifies_iff, kindData, and_assoc]

theorem State.localHeaderAnswered_of_ok (hg : s.intake.stage = .fetchingHeader e got) (hr : s.path.engine = .running)
    (hok : s.localOk e (got ++ bs) = true) :
    s.localHeaderAnswered bs true = s.setStage (.fetched e (got ++ bs)) := by
  simp [State.localHeaderAnswered, hg, State.isQuiescing_of_running hr, hok]

/-- A header that is refused is released MALFORMED, and any header QUIESCED while QUIESCING. -/
theorem State.localHeaderAnswered_of_refused (hg : s.intake.stage = .fetchingHeader e got)
    (hst : s.isQuiescing = true ∧ st = .quiesced ∨
      s.path.engine = .running ∧ st = .malformed ∧ s.localOk e (got ++ bs) = false) :
    s.localHeaderAnswered bs true = s.releaseTagless e (got ++ bs) st := by
  obtain ⟨hz, rfl⟩ | ⟨hr, rfl, hbad⟩ := hst
  · simp [State.localHeaderAnswered, hg, hz]
  · simp [State.localHeaderAnswered, hg, State.isQuiescing_of_running hr, hbad]

theorem exec_localHeaderReadDone_of_run {run : List ReadPiece} (hquiet : s.quiet = true) (hrun : run ≠ [])
    (hturn : s.runTurn run) {rest : List Injected} (hq : s.path.queue = readAccessesAux .intakeHeader run ++ rest) :
    exec .localHeaderReadDone s = .next ((s.dropHeads run.length).localHeaderAnswered (s.runBytes run) true) := by
  have hrow : exec .localHeaderReadDone s = .next (s.settle.answerRun .intakeHeader) := rfl
  rw [hrow, State.settle_of_quiet hquiet, State.answerRun_of_run rfl hrun hturn hq]
  rfl

end Intake

/-! ### The obligations -/

/-- Settles O30: the IDLE Intake reads the next entry, the answer is judged by its length, and a waiting item is handed
over when the tagless place is free. -/
theorem localEntriesAreFetched : Obligations.LocalEntriesAreFetched := by
  intro s w hquiet hw
  refine ⟨fun hr hg hpost hroom => ?fetch, fun a n k m rest e hturn hq he => ?answer, fun e h st hg => ?handing⟩
  case fetch =>
    have hrow : exec .localEntryFetch s = .next s.settle.fetchEntry := rfl
    rw [hrow, State.settle_of_quiet hquiet, State.fetchEntry_of_idle hw hr hg hpost hroom]
    rfl
  case answer =>
    subst he
    have hexec := exec_localEntryReadDone_of_access hquiet hturn hq
    refine ⟨fun hr hl => ?_, fun hr hl ht => ?_, fun hr hl ht => ?_, fun hz ht => ?_, fun hz ht => ?_⟩
    · rw [hexec, State.entryAnswered_of_fit (s := s.dropHead) hr hl]; rfl
    · rw [hexec, State.entryAnswered_of_unfit (s := s.dropHead) hr hl,
        State.releaseTagless_of_free (s := s.dropHead) hw ht]; rfl
    · rw [hexec, State.entryAnswered_of_unfit (s := s.dropHead) hr hl,
        State.releaseTagless_of_waiting (s := s.dropHead) ht]; rfl
    · rw [hexec, State.entryAnswered_of_quiescing (s := s.dropHead) hz,
        State.releaseTagless_of_free (s := s.dropHead) hw ht]; rfl
    · rw [hexec, State.entryAnswered_of_quiescing (s := s.dropHead) hz,
        State.releaseTagless_of_waiting (s := s.dropHead) ht]; rfl
  case handing =>
    have hrow : exec .taglessHandover s = .next s.settle.handOver := rfl
    rw [hrow, State.settle_of_quiet hquiet]
    refine ⟨fun ht => ?_, fun ht => ?_⟩
    · rw [State.handOver_of_waiting hg ht]
    · rw [State.handOver_of_free hg ht, State.pushTagless_entryDone hw]

/-- Settles O31: the header's run is answered as one read; the header is accepted, or its frame released tagless. -/
theorem localHeadersAreJudged : Obligations.LocalHeadersAreJudged := by
  rintro s w run e got h rest hquiet hw hrun hturn hq hg rfl
  have hexec := exec_localHeaderReadDone_of_run hquiet hrun hturn hq
  refine ⟨fun hr hok => ?_, fun st hst => ?_⟩
  · rw [hexec, State.localHeaderAnswered_of_ok (s := s.dropHeads run.length) hg hr (State.localOk_iff.mpr hok)]
    rfl
  · simp only [← State.localOk_iff, Bool.not_eq_true] at hst
    rw [hexec, State.localHeaderAnswered_of_refused (s := s.dropHeads run.length) hg hst]
    refine ⟨fun ht => ?_, fun ht => ?_⟩
    · rw [State.releaseTagless_of_free (s := s.dropHeads run.length) hw ht]; rfl
    · rw [State.releaseTagless_of_waiting (s := s.dropHeads run.length) ht]; rfl

end Sys2Proof.Machine
end
section
/-!
PROOF. Admission (R18, R23, R24): when the pool grants a place, and what then stands in its entries, its class queues
and its held list. Routing and patching, which the Classifier and the Local Intake share (R118, R124, R8, R9).
-/

namespace Sys2Proof.Machine

section Admission
variable {s t : State} {r : Request} {n : LinkIx} {g : Tag}

/-! ### The tests of the pool (R23, R24) -/

theorem State.poolAdmits_iff {c : TrafficClass} : s.poolAdmits c = true ↔
    (c = .expedited ∨ s.pool.reserve < s.freeCount) ∧ 1 ≤ s.freeCount := by
  simp [State.poolAdmits, and_comm]

theorem State.poolAdmits_eq_false {c : TrafficClass} : s.poolAdmits c = false ↔
    s.freeCount = 0 ∨ c ≠ .expedited ∧ s.freeCount ≤ s.pool.reserve := by
  simp [State.poolAdmits, or_iff_not_imp_left, Nat.one_le_iff_ne_zero]

/-! ### A grant of a class queue (R23) -/

/-- R23: the tag `g` is QUEUED on link `n` with the request's fields, at the tail of its class queue. -/
def State.queuedWith (s : State) (r : Request) (n : LinkIx) (g : Tag) : State :=
  (s.setFrame g (some (r.frame (.queued n) (some (s.link n).defaultBudget)))).pushTail n r.cls g

theorem State.admitQueue_of_grant (hclass : r.cls = .expedited ∨ s.pool.reserve < s.freeCount)
    (hfree : 1 ≤ s.freeCount) (hcap : s.queuedCount n < (s.link n).queueCap)
    (hg : s.lowestFree = some g) : s.admitQueue r n = some (s.queuedWith r n g, g) := by
  have hadmit : s.poolAdmits r.cls = true := State.poolAdmits_iff.mpr ⟨hclass, hfree⟩
  simp [State.admitQueue, hadmit, hcap, hg, State.queuedWith]

theorem State.admitQueue_of_refusal (h : s.freeCount = 0 ∨ (r.cls ≠ .expedited ∧ s.freeCount ≤ s.pool.reserve) ∨
    (s.link n).queueCap ≤ s.queuedCount n) : s.admitQueue r n = none := by
  rw [← or_assoc, ← State.poolAdmits_eq_false] at h
  obtain h | h := h <;> simp [State.admitQueue, h]

/-- What stands in the pool after the grant. -/
theorem State.queuedWith_places (s : State) (r : Request) (n : LinkIx) (g : Tag)
    (hp : t.pool = (s.queuedWith r n g).pool) :
    t.frame g = some (r.frame (.queued n) (some (s.link n).defaultBudget)) ∧
      (∀ x, x ≠ g → t.frame x = s.frame x) ∧
      (t.queuesOf n).get r.cls = (s.queuesOf n).get r.cls ++ [g] ∧
      (∀ c, c ≠ r.cls → (t.queuesOf n).get c = (s.queuesOf n).get c) ∧
      (∀ m, m ≠ n → t.queuesOf m = s.queuesOf m) := by
  have hframe (x : Tag) := State.frame_congr hp x
  have hqueues (m : LinkIx) : t.queuesOf m = (s.queuedWith r n g).queuesOf m := by
    rw [State.queuesOf, hp, State.queuesOf]
  refine ⟨?_, fun x hx => ?_, ?_, fun c hc => ?_, fun m hm => ?_⟩
  · rw [hframe]; exact State.frame_setFrame_same ..
  · rw [hframe]; exact State.frame_setFrame_other _ _ hx.symm
  · rw [hqueues, State.queuedWith, State.pushTail_get, if_pos ⟨rfl, rfl⟩]; rfl
  · rw [hqueues, State.queuedWith, State.pushTail_get, if_neg fun h => hc h.2.symm]; rfl
  · rw [hqueues]; exact State.queuesOf_setQueues_other _ _ hm.symm

/-! ### A grant of the held list (R24) -/

/-- R24: the tag `g` is HELD with the request's fields, at the tail of the held list. -/
def State.heldWith (s : State) (r : Request) (g : Tag) : State :=
  (s.setFrame g (some (r.frame .held none))).pushHeld g

theorem State.admitHeld_of_grant (hm : r.mode = .table)
    (hclass : r.cls = .expedited ∨ s.pool.reserve < s.freeCount) (hfree : 1 ≤ s.freeCount)
    (hroom : s.pool.heldList.length < s.pool.heldLimit) (hg : s.lowestFree = some g) :
    s.admitHeld r = some (s.heldWith r g, g) := by
  have hadmit : s.poolAdmits r.cls = true := State.poolAdmits_iff.mpr ⟨hclass, hfree⟩
  simp [State.admitHeld, State.heldRoom, hm, hadmit, hroom, hg, State.heldWith]

theorem State.admitHeld_of_refusal (h : s.freeCount = 0 ∨ (r.cls ≠ .expedited ∧ s.freeCount ≤ s.pool.reserve) ∨
    s.pool.heldLimit ≤ s.pool.heldList.length) : s.admitHeld r = none := by
  rw [← or_assoc, ← State.poolAdmits_eq_false] at h
  obtain h | h := h <;> simp [State.admitHeld, State.heldRoom, h]

/-- What stands in the entries after the grant. -/
theorem State.heldWith_entries (s : State) (r : Request) (g : Tag) (hp : t.pool = (s.heldWith r g).pool) :
    t.frame g = some (r.frame .held none) ∧ ∀ x, x ≠ g → t.frame x = s.frame x := by
  have hframe (x : Tag) := State.frame_congr hp x
  refine ⟨?_, fun x hx => ?_⟩
  · rw [hframe]; exact State.frame_setFrame_same ..
  · rw [hframe]; exact State.frame_setFrame_other _ _ hx.symm

end Admission

/-! ### Routing and patching (R3, R8, R9, R118) -/

section Routing
variable {s : State} {h : List Byte} {n : LinkIx}

theorem State.route_of_link (hr : hdrMode h = .table ∧ s.lookup (hdrDest h) = some n ∨
    hdrMode h = .via ∧ s.usableLinkOf (hdrNextHop h) = some n) : s.route h = .link n := by
  obtain ⟨hm, hl⟩ | ⟨hm, hl⟩ := hr <;> simp [State.route, hm, hl]

theorem State.route_of_held (hm : hdrMode h = .table) (hl : s.lookup (hdrDest h) = none) : s.route h = .held := by
  simp [State.route, hm, hl]

theorem State.route_of_nowhere (hm : hdrMode h = .via) (hl : s.usableLinkOf (hdrNextHop h) = none) :
    s.route h = .nowhere := by
  simp [State.route, hm, hl]

/-- R8, R9: the patch run stands behind what is queued already. -/
theorem State.patch_all (s : State) (b : Nat) (h : List Byte) (limit : Nat) :
    (s.patch b h limit).path.queue ++ (s.patch b h limit).path.tails =
      s.path.queue ++ s.path.tails ++ writeAccesses .patch b (patchedHeader h limit s.path.ownId) :=
  MemoryPath.fill_all ..

end Routing

end Sys2Proof.Machine
end
section
/-!
PROOF. The claim of a malformed frame and of a DATA frame (R116 to R120): the record is released unchanged, discarded
with the reason of the first test that applies, or forwarded with the tag of its entry (O26, O27).
-/

namespace Sys2Proof.Machine

/-! ### The release a claim names (R120) -/

section Claim
variable {s v : State} {a b l k : Nat} {d h body : List Byte} {x : Verdict}

theorem State.nameRelease_delivered : s.nameRelease a d .delivered = { s with
    classifier := .idle
    path := { s.path with slot := .claimed a d false } } := rfl

theorem State.nameRelease_discarded (reason : Discard) : s.nameRelease a d (.discarded reason) = State.issue { s with
    classifier := .idle
    path := { s.path with slot := .claimed a d true } }
    [.write .rewrite a (overlay d 6 [0x12, reason.code, 0xFF, 0xFF])] := rfl

theorem exec_claim_of_malformed (hquiet : s.quiet = true) (hroom : s.claimRoom b = true)
    (hslot : s.path.slot = .deciding a d (k + 1)) (hc : s.classifier = .deciding b l (.malformed h body)) :
    exec .claim s = .next (s.nameRelease a d (.discarded .malformed)) := by
  have hrow : exec .claim s = .next s.settle.claim := rfl
  rw [hrow, State.settle_of_quiet hquiet]
  simp only [State.claim, hslot, hc, hroom, if_true]

theorem State.judge_of_data (hk : hdrKind h = 1) : s.judge d b l h body = s.judgeData b l h := by
  simp [State.judge, hk, kindBeacon, kindProbe, kindReply]

/-- The release of a DATA frame whose judging reaches neither the Timing Unit nor the work list: a claim leaves work
only when an outlier is due. -/
theorem exec_claim_of_data (hquiet : s.quiet = true) (hroom : s.claimRoom b = true) (hout : s.outlierDue = [])
    (hslot : s.path.slot = .deciding a d (k + 1)) (hc : s.classifier = .deciding b l (.ready h body))
    (hk : hdrKind h = 1) (hj : s.judgeData b l h = (v, x)) (hv : v.outlierDue = s.outlierDue ∧ v.work = s.work) :
    exec .claim s = .next (v.nameRelease a d x) := by
  have hrow : exec .claim s = .next s.settle.claim := rfl
  have hwork : (v.nameRelease a d x).work = [] ∧ (v.nameRelease a d x).outlierDue = [] := by
    have hvw : v.work = [] := hv.2.trans (State.quiet_iff.mp hquiet).1
    have hvo : v.outlierDue = [] := hv.1.trans hout
    cases x <;> exact ⟨hvw, hvo⟩
  rw [hrow, State.settle_of_quiet hquiet]
  simp only [State.claim, hslot, hc, hroom, if_true, State.judge_of_data hk, hj, hwork.2, List.map_nil]
  rw [← hwork.1]

end Claim

/-! ### The judging of a DATA frame (R117) -/

section Judging
variable {s : State} {b l : Nat} {h : List Byte}

theorem State.judgeData_of_own (hd : hdrDest h = s.path.ownId ∨ hdrDest h = 0xFFFF) :
    s.judgeData b l h = (s, .delivered) :=
  if_pos hd

/-- The first of the tests that fails gives the reason. -/
theorem State.judgeData_of_discard {reason : Discard} (hown : hdrDest h ≠ s.path.ownId) (hall : hdrDest h ≠ 0xFFFF)
    (hreason : hdrSource h = s.path.ownId ∧ reason = .loop ∨
      hdrSource h ≠ s.path.ownId ∧ s.usableLinkOf (hdrLastHop h) = none ∧ reason = .unknownSender ∨
      hdrSource h ≠ s.path.ownId ∧ s.usableLinkOf (hdrLastHop h) ≠ none ∧ hdrHopLimit h ≤ 1 ∧ reason = .hopLimit ∨
      hdrSource h ≠ s.path.ownId ∧ s.usableLinkOf (hdrLastHop h) ≠ none ∧ 1 < hdrHopLimit h ∧ hdrDest h = 0 ∧
        reason = .noRoute) :
    s.judgeData b l h = (s, .discarded reason) := by
  have hdest : ¬(hdrDest h = s.path.ownId ∨ hdrDest h = nodeAll) := not_or.mpr ⟨hown, hall⟩
  rw [State.judgeData, if_neg hdest]
  obtain ⟨hsrc, rfl⟩ | ⟨hsrc, hlast, rfl⟩ | ⟨hsrc, hlast, hhop, rfl⟩ | ⟨hsrc, hlast, hhop, hzero, rfl⟩ := hreason
  · rw [if_pos hsrc]
  · rw [if_neg hsrc, if_pos hlast]
  · rw [if_neg hsrc, if_neg hlast, if_pos hhop]
  · rw [if_neg hsrc, if_neg hlast, if_neg (Nat.not_le.mpr hhop)]; exact if_pos hzero

theorem State.judgeData_of_routed (hown : hdrDest h ≠ s.path.ownId) (hall : hdrDest h ≠ 0xFFFF)
    (hzero : hdrDest h ≠ 0) (hsrc : hdrSource h ≠ s.path.ownId) (hlast : s.usableLinkOf (hdrLastHop h) ≠ none)
    (hhop : 1 < hdrHopLimit h) :
    s.judgeData b l h = s.admitForward b l h := by
  have hdest : ¬(hdrDest h = s.path.ownId ∨ hdrDest h = nodeAll) := not_or.mpr ⟨hown, hall⟩
  rw [State.judgeData, if_neg hdest, if_neg hsrc, if_neg hlast, if_neg (Nat.not_le.mpr hhop)]
  exact if_neg hzero

end Judging

/-! ### The admission of a DATA frame (R118, R119) -/

section Forward
variable {s v : State} {b l : Nat} {h : List Byte} {n : LinkIx} {g : Tag}

theorem State.admitForward_of_queued (hr : s.route h = .link n)
    (ha : s.admitQueue (requestOf .forward b l h) n = some (v, g)) :
    s.admitForward b l h = (v.patch b h (hdrHopLimit h - 1), .forwarded g) := by
  simp [State.admitForward, hr, ha]

theorem State.admitForward_of_congested (hr : s.route h = .link n)
    (ha : s.admitQueue (requestOf .forward b l h) n = none) :
    s.admitForward b l h = (s, .discarded .congested) := by
  simp [State.admitForward, hr, ha]

theorem State.admitForward_of_held (hr : s.route h = .held)
    (ha : s.admitHeld (requestOf .forward b l h) = some (v, g)) :
    s.admitForward b l h = (v.patch b h (hdrHopLimit h - 1), .forwarded g) := by
  simp [State.admitForward, hr, ha]

theorem State.admitForward_of_noRoute
    (hr : s.route h = .nowhere ∨ s.route h = .held ∧ s.admitHeld (requestOf .forward b l h) = none) :
    s.admitForward b l h = (s, .discarded .noRoute) := by
  obtain hr | ⟨hr, ha⟩ := hr
  · simp [State.admitForward, hr]
  · simp [State.admitForward, hr, ha]

end Forward

/-- What a claim leaves that forwards its frame, `v` being the state that has the frame's entry: the header patch and,
after it, the record rewritten with the tag (R119, R120). -/
def State.forwarded (v : State) (a : Nat) (d : List Byte) (b : Nat) (h : List Byte) (g : Tag) : State :=
  (v.patch b h (hdrHopLimit h - 1)).nameRelease a d (.forwarded g)

section Forwarded
variable (v : State) (a : Nat) (d : List Byte) (b : Nat) (h : List Byte) (g : Tag)

theorem State.forwarded_eq : v.forwarded a d b h g = { v with
    classifier := .idle
    path := { v.path with
      slot := .claimed a d true
      queue := (v.forwarded a d b h g).path.queue
      tails := (v.forwarded a d b h g).path.tails } } := rfl

theorem State.forwarded_pool : (v.forwarded a d b h g).pool = v.pool := State.nameRelease_pool ..

theorem State.forwarded_all : (v.forwarded a d b h g).path.queue ++ (v.forwarded a d b h g).path.tails =
    v.path.queue ++ v.path.tails ++ writeAccesses .patch b (patchedHeader h (hdrHopLimit h - 1) v.path.ownId) ++
      [.write .rewrite a (overlay d 6 ([0x10, 0] ++ natHalf g.val))] :=
  (MemoryPath.fill_all ..).trans (congrArg (· ++ _) (State.patch_all ..))

end Forwarded

/-! ### The obligations -/

/-- Settles O26: the verdict is that of the first test, and the claim names its release. -/
theorem claimsOfUnforwardedFrames : Obligations.ClaimsOfUnforwardedFrames := by
  intro s a b l k d h body hquiet hroom hout hslot
  refine ⟨fun hc => ?malformed, fun hc hk => ⟨fun hown => ?own, fun reason hown hall hreason => ?discarded⟩⟩
  case malformed => rw [exec_claim_of_malformed hquiet hroom hslot hc, State.nameRelease_discarded]; rfl
  case own =>
    rw [exec_claim_of_data hquiet hroom hout hslot hc hk (State.judgeData_of_own hown) ⟨rfl, rfl⟩,
      State.nameRelease_delivered]
  case discarded =>
    have hexec {x : Discard} (hx) : exec .claim s = .next (s.nameRelease a d (.discarded x)) :=
      exec_claim_of_data hquiet hroom hout hslot hc hk (State.judgeData_of_discard hown hall hx) ⟨rfl, rfl⟩
    obtain ⟨hsrc, rfl⟩ | ⟨hsrc, hlast, rfl⟩ | ⟨hsrc, hlast, hhop, rfl⟩ | ⟨hsrc, hlast, hhop, hzero, rfl⟩ := hreason
    · exact hexec (x := .loop) (.inl ⟨hsrc, rfl⟩)
    · exact hexec (x := .unknownSender) (.inr (.inl ⟨hsrc, hlast, rfl⟩))
    · exact hexec (x := .hopLimit) (.inr (.inr (.inl ⟨hsrc, hlast, hhop, rfl⟩)))
    · exact hexec (x := .noRoute) (.inr (.inr (.inr ⟨hsrc, hlast, hhop, hzero, rfl⟩)))

/-- Settles O27: the route and the tests of the pool give the admission; the patch and then the rewritten record stand
behind what is queued. -/
theorem claimForwardsAFrame : Obligations.ClaimForwardsAFrame := by
  intro s a b l k d h body hquiet hroom hout hslot hc hk hown hall hzero hsrc hlast hhop
  have hexec {v : State} {x : Verdict} (hj : s.admitForward b l h = (v, x)) :=
    exec_claim_of_data hquiet hroom hout hslot hc hk
      ((State.judgeData_of_routed hown hall hzero hsrc hlast hhop).trans hj)
  refine ⟨fun n hr => ⟨fun g hclass hfree hcap hg => ?queued, fun hrefused => ?congested⟩,
    fun hm hl g hclass hfree hheld hg => ?held, fun hno => ?noRoute⟩
  case queued =>
    have hj := State.admitForward_of_queued (b := b) (l := l) (State.route_of_link hr)
      (State.admitQueue_of_grant hclass hfree hcap hg)
    obtain ⟨hframe, hframes, hqueue, hclasses, hlinks⟩ :=
      State.queuedWith_places s (requestOf .forward b l h) n g (State.forwarded_pool _ a d b h g)
    exact ⟨_, hexec hj ⟨rfl, rfl⟩, State.forwarded_eq .., hframe, hframes, hqueue, hclasses, hlinks,
      State.forwarded_all ..⟩
  case congested =>
    have hj := State.admitForward_of_congested (b := b) (l := l) (State.route_of_link hr)
      (State.admitQueue_of_refusal hrefused)
    rw [hexec hj ⟨rfl, rfl⟩, State.nameRelease_discarded]
    rfl
  case held =>
    have hj := State.admitForward_of_held (b := b) (l := l) (State.route_of_held hm hl)
      (State.admitHeld_of_grant hm hclass hfree hheld hg)
    obtain ⟨hframe, hframes⟩ :=
      State.heldWith_entries s (requestOf .forward b l h) g (State.forwarded_pool _ a d b h g)
    refine ⟨_, hexec hj ⟨rfl, rfl⟩, State.forwarded_eq .., hframe.trans ?_, hframes, State.forwarded_all ..⟩
    rw [← hm]
    rfl
  case noRoute =>
    have hr : s.route h = .nowhere ∨ s.route h = .held ∧ s.admitHeld (requestOf .forward b l h) = none := by
      obtain ⟨hm, hu⟩ | ⟨hm, hl, hrefused⟩ := hno
      · exact .inl (State.route_of_nowhere hm hu)
      · exact .inr ⟨State.route_of_held hm hl, State.admitHeld_of_refusal hrefused⟩
    rw [hexec (State.admitForward_of_noRoute hr) ⟨rfl, rfl⟩, State.nameRelease_discarded]
    rfl

end Sys2Proof.Machine
end
section
/-!
PROOF. The admission of a local frame (R124 to R126): at first and when a STALLED Intake has a signal, the frame in
hand is admitted and patched, stalled on its link, or released NO_ROUTE (O32).
-/

namespace Sys2Proof.Machine

/-! ### What an admission leaves (R9, R122) -/

/-- `v` is the state that has the frame's entry: the header patch is issued, and the local send entry is done with. -/
def State.sent (v : State) (e : LocalEntry) (h : List Byte) : State :=
  (v.patch e.buffer h (hdrHopLimit h)).entryDone

section Sent
variable {w : Windows} (v : State) (e : LocalEntry) (h : List Byte)

theorem State.sent_eq (hw : v.path.windows = some w) : v.sent e h = { v with
    path := { v.path with
      queue := (v.sent e h).path.queue
      tails := (v.sent e h).path.tails }
    intake := { v.intake with
      stage := .idle
      index := if v.intake.index + 1 < w.localSize then v.intake.index + 1 else 0 } } :=
  State.entryDone_eq (s := v.patch e.buffer h (hdrHopLimit h)) hw

theorem State.sent_pool : (v.sent e h).pool = v.pool := rfl

theorem State.sent_all : (v.sent e h).path.queue ++ (v.sent e h).path.tails = v.path.queue ++ v.path.tails ++
    writeAccesses .patch e.buffer (patchedHeader h (hdrHopLimit h) v.path.ownId) :=
  State.patch_all ..

end Sent

section Local
variable {s v : State} {e : LocalEntry} {h : List Byte} {n : LinkIx} {g : Tag}

/-! ### What becomes of the frame in hand (R124) -/

theorem State.admitLocal_of_queued (hr : s.route h = .link n)
    (ha : s.admitQueue (requestOf .localSend e.buffer e.length h) n = some (v, g)) :
    s.admitLocal e h = v.sent e h := by
  simp [State.admitLocal, State.sent, hr, ha]

theorem State.admitLocal_of_stalled (hr : s.route h = .link n)
    (ha : s.admitQueue (requestOf .localSend e.buffer e.length h) n = none) :
    s.admitLocal e h = s.setStage (.stalled e h n false) := by
  simp [State.admitLocal, hr, ha]

theorem State.admitLocal_of_held (hr : s.route h = .held)
    (ha : s.admitHeld (requestOf .localSend e.buffer e.length h) = some (v, g)) :
    s.admitLocal e h = v.sent e h := by
  simp [State.admitLocal, State.sent, hr, ha]

theorem State.admitLocal_of_noRoute (hr : s.route h = .nowhere ∨
    s.route h = .held ∧ s.admitHeld (requestOf .localSend e.buffer e.length h) = none) :
    s.admitLocal e h = s.releaseTagless e h .noRoute := by
  obtain hr | ⟨hr, ha⟩ := hr
  · simp [State.admitLocal, hr]
  · simp [State.admitLocal, hr, ha]

/-! ### The two rows (R124, R125) -/

/-- Only an admission request waits for room for the patch run. -/
theorem State.admissionReady_of (hready : s.room (patchLength e.buffer) = true ∨
    hdrMode h = .via ∧ s.usableLinkOf (hdrNextHop h) = none) : s.admissionReady e h = true := by
  obtain hroom | ⟨hm, hu⟩ := hready
  · simp [State.admissionReady, hroom]
  · simp [State.admissionReady, State.route_of_nowhere hm hu]

/-- The first admission and a retry after a signal do the same. -/
theorem exec_admission {c : Instr} {m : LinkIx} (hquiet : s.quiet = true) (hr : s.path.engine = .running)
    (hready : s.admissionReady e h = true)
    (hc : c = .localAdmission ∧ s.intake.stage = .fetched e h ∨
      c = .localIntakeRetry ∧ s.intake.stage = .stalled e h m true) : exec c s = .next (s.admitLocal e h) := by
  obtain ⟨rfl, hg⟩ | ⟨rfl, hg⟩ := hc
  · have hrow : exec .localAdmission s = .next s.settle.localAdmission := rfl
    rw [hrow, State.settle_of_quiet hquiet]
    simp [State.localAdmission, hg, State.isRunning_of_running hr, hready]
  · have hrow : exec .localIntakeRetry s = .next s.settle.intakeRetry := rfl
    rw [hrow, State.settle_of_quiet hquiet]
    simp [State.intakeRetry, hg, State.isRunning_of_running hr, hready]

end Local

/-- Settles O32: the route and the tests of the pool give the admission, as at a claim; the frame in hand is then done
with, stalled, or released tagless. -/
theorem localFramesAreAdmitted : Obligations.LocalFramesAreAdmitted := by
  intro s w e h m c hquiet hrun hw hready hc
  have hexec := exec_admission hquiet hrun (State.admissionReady_of hready) hc
  refine ⟨fun n hr => ⟨fun g hclass hfree hcap hg => ?queued, fun hrefused => ?stalled⟩,
    fun hm hl g hclass hfree hheld hg => ?held, fun hno => ?noRoute⟩
  case queued =>
    have hj := State.admitLocal_of_queued (e := e) (State.route_of_link hr)
      (State.admitQueue_of_grant hclass hfree hcap hg)
    obtain ⟨hframe, hframes, hqueue, hclasses, hlinks⟩ :=
      State.queuedWith_places s (requestOf .localSend e.buffer e.length h) n g (State.sent_pool _ e h)
    exact ⟨_, hexec.trans (congrArg Host.Outcome.next hj), State.sent_eq _ e h hw, hframe, hframes, hqueue, hclasses,
      hlinks, State.sent_all ..⟩
  case stalled =>
    rw [hexec, State.admitLocal_of_stalled (State.route_of_link hr) (State.admitQueue_of_refusal hrefused)]
    rfl
  case held =>
    have hj := State.admitLocal_of_held (e := e) (State.route_of_held hm hl)
      (State.admitHeld_of_grant hm hclass hfree hheld hg)
    obtain ⟨hframe, hframes⟩ :=
      State.heldWith_entries s (requestOf .localSend e.buffer e.length h) g (State.sent_pool _ e h)
    refine ⟨_, hexec.trans (congrArg Host.Outcome.next hj), State.sent_eq _ e h hw, hframe.trans ?_, hframes,
      State.sent_all ..⟩
    rw [← hm]
    rfl
  case noRoute =>
    have hr : s.route h = .nowhere ∨
        s.route h = .held ∧ s.admitHeld (requestOf .localSend e.buffer e.length h) = none := by
      obtain ⟨hm, hu⟩ | ⟨hm, hl, hrefused⟩ := hno
      · exact .inl (State.route_of_nowhere hm hu)
      · exact .inr ⟨State.route_of_held hm hl, State.admitHeld_of_refusal hrefused⟩
    rw [hexec, State.admitLocal_of_noRoute hr]
    refine ⟨fun ht => ?_, fun ht => ?_⟩
    · rw [State.releaseTagless_of_free hw ht]
    · rw [State.releaseTagless_of_waiting ht]

end Sys2Proof.Machine
end

section
/-!
PROOF. The in-flight table never outgrows the transmit ring (R142): the operations that write the Slot Scheduler, and the
blocks around them, which leave it as it is or call those.
-/

namespace Sys2Proof.Machine

/-- R142: no more descriptors are in flight than the transmit ring has positions; with no ring, none. -/
def State.RingOk (s : State) : Prop := s.sched.inFlight.length ≤ s.sched.ringSize.getD 0

section Blocks
variable {s t : State} {n : LinkIx} {p : BurstPlan}

/-- The bound is a matter of the Slot Scheduler alone. -/
theorem State.RingOk.congr (h : s.RingOk) (hs : t.sched = s.sched) : t.RingOk := by
  rwa [State.RingOk, hs]

theorem State.RingOk.setCommand (c : CommandUnit) (h : s.RingOk) : State.RingOk { s with command := c } := h

/-- Neither the moves of the pool nor a link's changes of state touch the Slot Scheduler. -/
theorem State.RingOk.inner (h : s.RingOk) (k : Inner s t) : t.RingOk := h.congr k.sched

theorem State.RingOk.reevaluate (h : s.RingOk) : s.reevaluate.RingOk := h.inner (Inner.reevaluate s)

theorem State.RingOk.foldl {α : Type} {f : State → α → State}
    (hf : ∀ (s : State) (a : α), s.RingOk → (f s a).RingOk) (l : List α) (h : s.RingOk) : (l.foldl f s).RingOk := by
  induction l generalizing s with
  | nil => exact h
  | cons a l ih => exact ih (hf s a h)

/-! ### Descriptors that are written (R11, R137, R140) -/

/-- R142: a record is added while a ring position is free. -/
theorem Scheduler.record_fits (d : Scheduler) (c : Carried) (h : d.inFlight.length < d.ringSize.getD 0) :
    (d.record c).inFlight.length ≤ (d.record c).ringSize.getD 0 := by
  rw [Scheduler.record_eq]
  simpa using h

theorem State.ringFree_iff : s.ringFree = true ↔ s.sched.inFlight.length < s.sched.ringSize.getD 0 :=
  decide_eq_true_iff

theorem State.canProbe_ringFree (h : s.canProbe n = true) : s.ringFree = true :=
  (Bool.and_eq_true_iff.mp h).2

theorem State.ringOk_writeDescriptor (j budget rate attempts b l : Nat) (dest : NodeId) (c : Carried)
    (hf : s.ringFree = true) : (s.writeDescriptor j budget rate attempts b l dest c).RingOk :=
  s.sched.record_fits c (State.ringFree_iff.mp hf)

theorem State.ringOk_sendOwn (j rate attempts : Nat) (b : BufIx) (frame : List Byte) (dest : NodeId) (c : Carried)
    (hf : s.ringFree = true) : (s.sendOwn j rate attempts b frame dest c).RingOk := by
  rw [State.sendOwn_eq]
  exact s.sched.record_fits c (State.ringFree_iff.mp hf)

theorem State.ringOk_sendProbe (j : Nat) (hf : s.ringFree = true) : (s.sendProbe j n).RingOk :=
  State.ringOk_sendOwn _ _ _ _ _ _ _ hf

theorem State.ringOk_sendReply (j : Nat) (node : NodeId) (b : BufIx) (hf : s.ringFree = true) :
    (s.sendReply j n node b).RingOk :=
  State.ringOk_sendOwn _ _ _ _ _ _ _ hf

theorem State.RingOk.beaconSlot (j : Nat) (h : s.RingOk) : (s.beaconSlot j).1.RingOk := by
  unfold State.beaconSlot
  dsimp only
  split
  · rename_i hfree
    exact State.ringOk_sendOwn (s := { s with routes := s.routes.afterBeacon }) _ _ _ _ _ _ _
      (Bool.and_eq_true_iff.mp hfree).2
  · exact h

theorem State.RingOk.serveReply (j : Nat) (h : s.RingOk) : (s.serveReply j).1.RingOk := by
  unfold State.serveReply
  split
  · exact h
  · split
    · exact h
    · split
      · exact h
      · split
        · rename_i hfree
          exact (State.ringOk_sendReply _ _ _ hfree).congr (State.popReply_sched _)
        · exact h

/-- R136: the link that gets the slot's probe has its buffer and a ring position free. -/
theorem State.probeCandidate_canProbe (h : s.probeCandidate = some n) : s.canProbe n = true := by
  unfold State.probeCandidate at h
  have hn := List.find?_some h
  exact (Bool.and_eq_true_iff.mp hn).2

theorem State.RingOk.sharedSlot (j : Nat) (h : s.RingOk) : (s.sharedSlot j).RingOk := by
  have hr := h.serveReply j
  unfold State.sharedSlot
  dsimp only
  split
  · exact hr
  · split
    · exact hr
    · rename_i hn
      exact State.ringOk_sendProbe (s := (s.serveReply j).1) j
        (State.canProbe_ringFree (State.probeCandidate_canProbe hn))

theorem State.fits_ringFree {f : Frame} {left : Nat} (h : s.fits p f left = true) : s.ringFree = true :=
  (Bool.and_eq_true_iff.mp h).2

theorem State.ringOk_takeFrame (g : Tag) (f : Frame) (hf : s.ringFree = true) : (s.takeFrame p g f).RingOk :=
  (State.ringOk_writeDescriptor _ _ _ _ _ _ _ _ hf).inner (Inner.takeToRing _ _ _ _ _)

theorem State.RingOk.takeClass (ts : List Tag) (left : Nat) (h : s.RingOk) :
    (State.takeClass p ts (s, left)).1.RingOk := by
  induction ts generalizing s left with
  | nil => exact h
  | cons g ts ih =>
    unfold State.takeClass
    split
    · exact h
    · split
      · rename_i hfits
        exact ih _ (State.ringOk_takeFrame _ _ (State.fits_ringFree hfits))
      · exact h

/-- R139: the head that a list gives fits. -/
theorem State.fittingHead_fits {left : Nat} {ts : List Tag} {g : Tag} {f : Frame}
    (h : s.fittingHead p left ts = some (g, f)) : s.fits p f left = true := by
  cases ts with
  | nil => cases h
  | cons u us =>
    simp only [State.fittingHead] at h
    cases hu : s.frame u with
    | none => simp [hu] at h
    | some f' =>
      simp only [hu, Option.ite_none_right_eq_some, Option.some.injEq, Prod.mk.injEq] at h
      obtain ⟨hfits, -, rfl⟩ := h
      exact hfits

theorem State.RingOk.takeShared (fuel left : Nat) (h : s.RingOk) : (State.takeShared p fuel s left).RingOk := by
  induction fuel generalizing s left with
  | zero => exact h
  | succ fuel ih =>
    unfold State.takeShared
    dsimp only
    split
    · rename_i g f hsome
      obtain ⟨ts, -, hfit⟩ := List.exists_of_findSome?_eq_some hsome
      exact ih _ ((State.ringOk_takeFrame g f (State.fits_ringFree (State.fittingHead_fits hfit))).inner
        (Inner.setLink ..))
    · exact h

theorem State.RingOk.txSlot (j : Nat) (h : s.RingOk) : (s.txSlot j n).RingOk := by
  have hburst : (s.burst j n).RingOk := ((h.takeClass _ _).takeClass _ _).takeShared _ _
  unfold State.txSlot
  split
  · exact hburst
  · exact hburst
  · split
    · rename_i hfree
      exact State.ringOk_sendProbe j (State.canProbe_ringFree hfree)
    · exact h
  · exact h

theorem State.RingOk.slotAction (j : SlotIx) (h : s.RingOk) : (s.slotAction j).1.RingOk := by
  unfold State.slotAction
  split
  · split
    · exact h.beaconSlot _
    · exact h.sharedSlot _
    · exact h.txSlot _
    · exact h
  · exact h

theorem State.RingOk.startSlot (h : s.RingOk) : s.startSlot.RingOk := by
  unfold State.startSlot
  split
  · exact h
  · split
    · exact h
    · rename_i j _ _
      exact State.RingOk.slotAction (s := s.enterSlot j) j h

/-! ### Records that leave the table or change in it (R143 to R146) -/

/-- R15: freeing a buffer leaves the in-flight table and the ring size. -/
theorem Scheduler.freeBuffer_inFlight (d : Scheduler) (c : Carried) : (d.freeBuffer c).inFlight = d.inFlight := by
  unfold Scheduler.freeBuffer; split <;> rfl

theorem Scheduler.freeBuffer_ringSize (d : Scheduler) (c : Carried) : (d.freeBuffer c).ringSize = d.ringSize := by
  unfold Scheduler.freeBuffer; split <;> rfl

/-- R146: a retired record leaves the table. -/
theorem State.RingOk.retire (r : InFlight) (h : s.RingOk) : (s.retire r).RingOk := by
  have hle : (s.sched.inFlight.filter fun x => x.pos != r.pos).length ≤ s.sched.ringSize.getD 0 :=
    (List.length_filter_le ..).trans h
  unfold State.retire
  rw [State.RingOk, State.setMark_sched, Scheduler.freeBuffer_inFlight, Scheduler.freeBuffer_ringSize]
  exact hle

theorem Inner.drainAfter (s : State) (c : Carried) : Inner s (s.drainAfter c) := by
  unfold State.drainAfter
  split
  · exact Inner.drainTest _ _
  · exact Inner.refl s

theorem State.RingOk.takeCompletion (h : s.RingOk) : s.takeCompletion.RingOk := by
  unfold State.takeCompletion
  split
  · exact h
  · rename_i c cs _
    have hs : State.RingOk { s with completion := { s.completion with queue := cs } } := h
    dsimp only
    split
    · exact hs
    · exact ((hs.inner (Inner.handleOutcome _ _ _ _)).retire _).inner (Inner.drainAfter _ _)

/-- R145: the records given up leave an empty table. -/
theorem State.ringOk_giveUp (s : State) : s.giveUp.RingOk := by
  have hempty (l : List InFlight) : ∀ d : Scheduler, d.inFlight = [] →
      (l.foldl (fun d r => d.freeBuffer r.carried) d).inFlight = [] := by
    induction l with
    | nil => exact fun _ hd => hd
    | cons r l ih => exact fun d hd => ih _ ((d.freeBuffer_inFlight r.carried).trans hd)
  have hnone : s.giveUp.sched.inFlight = [] := hempty _ _ rfl
  rw [State.RingOk, hnone]
  exact Nat.zero_le _

/-- R143, R144: a change of the records' flags keeps their number. -/
theorem State.RingOk.mapInFlight (f : InFlight → InFlight) (h : s.RingOk) :
    State.RingOk { s with sched := { s.sched with inFlight := s.sched.inFlight.map f } } := by
  simpa [State.RingOk] using h

theorem State.RingOk.recall (which : InFlight → Bool) (h : s.RingOk) : (s.recall which).RingOk :=
  (h.mapInFlight _).congr rfl

theorem State.RingOk.reportFetch (q : Nat) (h : s.RingOk) : (s.reportFetch q).RingOk := by
  unfold State.reportFetch
  split
  · exact h
  · split
    · exact h
    · dsimp only
      split
      · exact (h.mapInFlight _).inner (Inner.markFetched _ _)
      · exact h.mapInFlight _

theorem State.RingOk.writeTaken (what : Writer) (a : Nat) (d : List Byte) (h : s.RingOk) :
    (s.writeTaken what a d).RingOk := by
  unfold State.writeTaken State.skipTaken State.clearRecalled
  split
  · exact State.RingOk.congr h (by simp)
  · split
    · exact h.mapInFlight _
    · exact h
  · exact h
  · exact h

/-! ### Boundaries and consequences (R132, R151) -/

theorem State.RingOk.advanceStage (h : s.RingOk) : s.advanceStage.RingOk := by
  unfold State.advanceStage
  split <;> exact h

theorem State.RingOk.takeBoundary (b : Block) (h : s.RingOk) : (s.takeBoundary b).1.RingOk := by
  cases b with
  | framePool => exact State.RingOk.congr (t := s.raisePoolAges) h (by rw [State.raisePoolAges])
  | linkTable =>
    unfold State.takeBoundary State.linkBoundary
    dsimp only
    split <;> exact h
  | routeTable =>
    unfold State.takeBoundary State.routeBoundary
    dsimp only
    split <;> exact h
  | slotScheduler =>
    unfold State.takeBoundary State.schedulerBoundary
    dsimp only
    split
    · exact h.advanceStage.slotAction 0
    · exact h
  | engine =>
    unfold State.takeBoundary State.engineBoundary
    dsimp only
    split <;> exact h

theorem Inner.loseBeacons (s : State) (n : LinkIx) : Inner s (s.loseBeacons n) := by
  unfold State.loseBeacons
  split
  · exact Inner.enterFailed _ _ _
  · exact Inner.refl s

theorem Inner.expireOpen (s : State) (n : LinkIx) : Inner s (s.expireOpen n) := by
  unfold State.expireOpen
  split
  · exact Inner.enterFailed _ _ _
  · exact Inner.refl s

theorem Inner.expireBlock (s : State) (n : LinkIx) : Inner s (s.expireBlock n) := by
  unfold State.expireBlock
  split
  · exact Inner.enterFailed _ _ _
  · exact Inner.refl s

theorem State.RingOk.enterHoldover (h : s.RingOk) : s.enterHoldover.RingOk := by
  unfold State.enterHoldover
  split <;> exact h

theorem State.RingOk.endHoldover (h : s.RingOk) : s.endHoldover.RingOk := by
  unfold State.endHoldover
  split <;> exact h

theorem State.RingOk.giveUpParent (h : s.RingOk) : s.giveUpParent.RingOk := by
  unfold State.giveUpParent
  split <;> exact h

theorem State.RingOk.perform (c : Consequence) (h : s.RingOk) : (s.perform c).RingOk := by
  cases c with
  | agedRelease g => exact h.inner (Inner.releaseAged s g)
  | holdTimeout g => exact h.inner (Inner.releaseTimedOut s g)
  | beaconLoss n => exact h.inner (Inner.loseBeacons s n)
  | openTimeout n => exact h.inner (Inner.expireOpen s n)
  | blockHoldExpiry n => exact h.inner (Inner.expireBlock s n)
  | quiesceLimit => exact s.ringOk_giveUp
  | routeStale p => exact h
  | routeAgePoison p => exact h
  | poisonCountExpiry p => exact h
  | ownSequenceAdvance => exact h
  | silenceLimit => exact h.enterHoldover
  | holdoverTimeout => exact h.endHoldover
  | outlierLimit => exact h.giveUpParent

theorem State.RingOk.advance (ws : List Work) (h : s.RingOk) : (State.advance ws s).RingOk := by
  induction ws generalizing s with
  | nil => exact h
  | cons w ws ih =>
    cases w with
    | due c => exact h
    | take b =>
      have hb := h.takeBoundary b
      unfold State.advance
      split
      · rename_i hr; exact ih (by rwa [hr] at hb)
      · rename_i hr; rwa [hr] at hb

theorem State.RingOk.finish (ws : List Work) (h : s.RingOk) : (State.finish ws s).RingOk := by
  induction ws generalizing s with
  | nil => exact h
  | cons w ws ih =>
    cases w with
    | due c => exact ih (h.perform c)
    | take b => exact ih ((h.takeBoundary b).foldl (fun _ c h => h.perform c) _)

theorem State.RingOk.resolve (kind : Consequence → Bool) (h : s.RingOk) : (s.resolve kind).RingOk := by
  unfold State.resolve
  split
  · split
    · exact (h.perform _).advance _
    · exact h
  · exact h

theorem State.RingOk.applyPendingRoot (h : s.RingOk) : s.applyPendingRoot.RingOk := by
  unfold State.applyPendingRoot
  split <;> exact h

theorem State.RingOk.countSilence (h : s.RingOk) : s.countSilence.RingOk := by
  unfold State.countSilence
  split
  · split
    · exact h
    · split <;> exact h
  · split <;> exact h
  · exact h

theorem State.RingOk.boundary (order : List Block) (h : s.RingOk) : (s.boundary order).RingOk :=
  (State.RingOk.countSilence (State.RingOk.applyPendingRoot (s := s.newSuperframe _) h)).advance _

theorem State.RingOk.expireBudget (h : s.RingOk) : s.expireBudget.RingOk := by
  unfold State.expireBudget
  split <;> exact h

/-! ### The Receive Classifier and the Local Intake (R112 to R127) -/

theorem State.RingOk.headerAnswered (bs : List Byte) (last : Bool) (h : s.RingOk) :
    (s.headerAnswered bs last).RingOk := by
  unfold State.headerAnswered State.headerGathered
  split
  · split
    · split
      · split
        · split <;> exact h
        · exact h
      · exact h
    · exact h
  · exact h

theorem State.RingOk.bodyAnswered (bs : List Byte) (last : Bool) (h : s.RingOk) : (s.bodyAnswered bs last).RingOk := by
  unfold State.bodyAnswered
  split
  · split
    · split <;> exact h
    · exact h
  · exact h

theorem State.RingOk.linkBeacon (source : NodeId) (x : TimingPair) (y : PlanPair) (h : s.RingOk) :
    (s.linkBeacon source x y).RingOk := by
  unfold State.linkBeacon
  split
  · exact h
  · split <;> exact h

theorem State.RingOk.learnBeacon (source : NodeId) (es : List Advert) (h : s.RingOk) :
    (s.learnBeacon source es).RingOk := by
  unfold State.learnBeacon
  split
  · exact h
  · dsimp only
    split
    · exact State.RingOk.reevaluate h
    · exact h

theorem State.RingOk.timingBeacon (source : NodeId) (x : Sighting) (h : s.RingOk) :
    (s.timingBeacon source x).RingOk := by
  cases hn : s.usableLinkOf source with
  | none => simpa only [State.timingBeacon, hn] using h
  | some n =>
    obtain ⟨T, L, F, ht, -⟩ := State.timingBeacon_frame (x := x) hn
    rw [ht]
    exact h

theorem State.RingOk.takeBeacon (r hd b : List Byte) (h : s.RingOk) : (s.takeBeacon r hd b).RingOk := by
  unfold State.takeBeacon
  dsimp only
  split
  · exact ((h.linkBeacon _ _ _).learnBeacon _ _).timingBeacon _ _
  · exact h

theorem State.RingOk.probeReceived (source : NodeId) (h : s.RingOk) : (s.probeReceived source).RingOk := by
  unfold State.probeReceived
  split
  · split
    · exact (h.inner (Inner.enterActive s _ _)).congr rfl
    · exact h
    · exact h
    · exact h
    · exact h
  · split
    · split
      · exact ((h.inner (Inner.setLink ..)).inner (Inner.enterActive _ _ _)).congr rfl
      · exact h
    · exact h

theorem State.RingOk.replyReceived (source : NodeId) (h : s.RingOk) : (s.replyReceived source).RingOk := by
  unfold State.replyReceived
  split
  · split
    · exact h.inner (Inner.enterActive s _ _)
    · exact h
  · exact h

theorem State.RingOk.admitQueue {r : Request} {g : Tag} (h : s.RingOk) (ha : s.admitQueue r n = some (t, g)) :
    t.RingOk := by
  unfold State.admitQueue at ha
  split at ha
  · obtain ⟨u, -, e⟩ := Option.map_eq_some_iff.mp ha
    cases e
    exact h
  · cases ha

theorem State.RingOk.admitHeld {r : Request} {g : Tag} (h : s.RingOk) (ha : s.admitHeld r = some (t, g)) :
    t.RingOk := by
  unfold State.admitHeld at ha
  split at ha
  · obtain ⟨u, -, e⟩ := Option.map_eq_some_iff.mp ha
    cases e
    exact h
  · cases ha

theorem State.RingOk.admitForward (b l : Nat) (hd : List Byte) (h : s.RingOk) : (s.admitForward b l hd).1.RingOk := by
  unfold State.admitForward
  dsimp only
  split
  · exact h
  · split
    · rename_i ha; exact (h.admitHeld ha).congr rfl
    · exact h
  · split
    · rename_i ha; exact (h.admitQueue ha).congr rfl
    · exact h

theorem State.RingOk.judgeData (b l : Nat) (hd : List Byte) (h : s.RingOk) : (s.judgeData b l hd).1.RingOk := by
  unfold State.judgeData
  split
  · exact h
  · split
    · exact h
    · split
      · exact h
      · split
        · exact h
        · split
          · exact h
          · exact h.admitForward _ _ _

theorem State.RingOk.judge (r : List Byte) (b l : Nat) (hd bd : List Byte) (h : s.RingOk) :
    (s.judge r b l hd bd).1.RingOk := by
  unfold State.judge
  split
  · exact h.takeBeacon _ _ _
  · split
    · dsimp only
      split
      · exact h.probeReceived _
      · exact h
    · split
      · dsimp only
        split
        · exact h.replyReceived _
        · exact h
      · exact h.judgeData _ _ _

theorem State.RingOk.nameRelease (a : Nat) (r : List Byte) (v : Verdict) (h : s.RingOk) :
    (s.nameRelease a r v).RingOk := by
  unfold State.nameRelease
  split <;> exact h

theorem State.RingOk.claim (h : s.RingOk) : s.claim.RingOk := by
  unfold State.claim
  split
  · split
    · split
      · exact h.nameRelease _ _ _
      · exact State.RingOk.nameRelease _ _ _ (h.judge _ _ _ _ _)
      · exact h
    · exact h
  · exact h

theorem State.RingOk.releaseTagless (e : LocalEntry) (hd : List Byte) (st : ReleaseStatus) (h : s.RingOk) :
    (s.releaseTagless e hd st).RingOk := by
  unfold State.releaseTagless
  split <;> exact h

theorem State.RingOk.entryAnswered (bs : List Byte) (h : s.RingOk) : (s.entryAnswered bs).RingOk := by
  unfold State.entryAnswered
  dsimp only
  split
  · exact h.releaseTagless _ _ _
  · split
    · exact h
    · exact h.releaseTagless _ _ _

theorem State.RingOk.localHeaderAnswered (bs : List Byte) (last : Bool) (h : s.RingOk) :
    (s.localHeaderAnswered bs last).RingOk := by
  unfold State.localHeaderAnswered
  split
  · split
    · exact h
    · split
      · exact h.releaseTagless _ _ _
      · split
        · exact h
        · exact h.releaseTagless _ _ _
  · exact h

theorem State.RingOk.admitLocal (e : LocalEntry) (hd : List Byte) (h : s.RingOk) : (s.admitLocal e hd).RingOk := by
  unfold State.admitLocal
  dsimp only
  split
  · exact h.releaseTagless _ _ _
  · split
    · rename_i ha; exact (h.admitHeld ha).congr rfl
    · exact h.releaseTagless _ _ _
  · split
    · rename_i ha; exact (h.admitQueue ha).congr rfl
    · exact h

theorem State.RingOk.intakeQuiesce (h : s.RingOk) : s.intakeQuiesce.RingOk := by
  unfold State.intakeQuiesce
  split
  · exact h.releaseTagless _ _ _
  · exact h.releaseTagless _ _ _
  · exact h

theorem State.RingOk.localAdmission (h : s.RingOk) : s.localAdmission.RingOk := by
  unfold State.localAdmission
  split
  · split
    · exact h.admitLocal _ _
    · exact h
  · exact h

theorem State.RingOk.intakeRetry (h : s.RingOk) : s.intakeRetry.RingOk := by
  unfold State.intakeRetry
  split
  · split
    · exact h.admitLocal _ _
    · exact h
  · exact h

theorem State.RingOk.handOver (h : s.RingOk) : s.handOver.RingOk := by
  unfold State.handOver
  split
  · split <;> exact h
  · exact h

theorem State.RingOk.fetchEntry (h : s.RingOk) : s.fetchEntry.RingOk := by
  unfold State.fetchEntry
  split
  · split <;> exact h
  · exact h

end Blocks

end Sys2Proof.Machine
end

section
/-!
PROOF. Every step keeps the in-flight table within the transmit ring (R142): the software commands, resets and the anchor
commit, reports, the port and the accesses that wait, and then the rows.
-/

namespace Sys2Proof.Machine

section Steps
variable {s t : State}

/-! ### Software commands -/

theorem State.RingOk.commandLinkOpen (seq : BitVec 16) (link : Byte) (node : NodeId) (fl ce at' : Byte)
    (h : s.RingOk) : (s.commandLinkOpen seq link node fl ce at').RingOk := by
  unfold State.commandLinkOpen
  split
  · exact h
  · split
    · exact h
    · split <;> exact h

theorem State.RingOk.commandLinkTune (seq : BitVec 16) (link : Byte) (sel : BitVec 16) (v : TuneValues)
    (h : s.RingOk) : (s.commandLinkTune seq link sel v).RingOk := by
  unfold State.commandLinkTune
  split
  · exact h
  · split <;> exact h

theorem State.RingOk.commandLinkDrain (seq : BitVec 16) (link : Byte) (h : s.RingOk) :
    (s.commandLinkDrain seq link).RingOk := by
  unfold State.commandLinkDrain
  split
  · exact h
  · split
    · exact ((h.inner (Inner.enterDraining s _)).inner (Inner.drainTest _ _)).congr rfl
    · exact h

theorem State.RingOk.commandLinkCut (seq : BitVec 16) (link : Byte) (h : s.RingOk) :
    (s.commandLinkCut seq link).RingOk := by
  unfold State.commandLinkCut
  split
  · exact h
  · split
    · exact h
    · exact h
    · exact ((h.inner (Inner.enterSilent s _)).recall _).setCommand _

theorem State.RingOk.commandLinkClear (seq : BitVec 16) (link : Byte) (h : s.RingOk) :
    (s.commandLinkClear seq link).RingOk := by
  unfold State.commandLinkClear
  split
  · exact h
  · dsimp only
    split
    · exact h
    · split <;> exact h

theorem State.RingOk.commandLinkQuery (seq : BitVec 16) (link : Byte) (h : s.RingOk) :
    (s.commandLinkQuery seq link).RingOk := by
  unfold State.commandLinkQuery
  split <;> exact h

theorem State.RingOk.commandLinkClimb (seq : BitVec 16) (link act : Byte) (h : s.RingOk) :
    (s.commandLinkClimb seq link act).RingOk := by
  unfold State.commandLinkClimb
  split
  · exact h
  · exact h
  · dsimp only
    split
    · exact h
    · split <;> exact h

theorem State.RingOk.commandRoutePin (seq : BitVec 16) (dest : NodeId) (link : Byte) (metric : BitVec 16)
    (h : s.RingOk) : (s.commandRoutePin seq dest link metric).RingOk := by
  unfold State.commandRoutePin
  split
  · exact h
  · split
    · exact h
    · split
      · exact h
      · rename_i rt _
        exact (State.RingOk.reevaluate (s := { s with routes := rt }) h).congr (State.respond_sched ..)

theorem State.RingOk.commandRouteUnpin (seq : BitVec 16) (dest : NodeId) (h : s.RingOk) :
    (s.commandRouteUnpin seq dest).RingOk := by
  unfold State.commandRouteUnpin
  split
  · exact h
  · split <;> exact h

theorem State.RingOk.commandRouteQuery (seq : BitVec 16) (sel : Byte) (v : BitVec 16) (h : s.RingOk) :
    (s.commandRouteQuery seq sel v).RingOk := by
  unfold State.commandRouteQuery
  split
  · exact h
  · split
    · exact h
    · split <;> exact h
  · exact h

/-- R130: a plan that is written leaves the in-flight table and the ring. -/
theorem State.RingOk.setPlan (c : PlanContext) (p : Plan) (h : s.RingOk) :
    State.RingOk { s with sched := s.sched.setPlan c p } := by
  cases c <;> exact h

theorem State.RingOk.commandPlanWrite (seq : BitVec 16) (c first count : Byte) (es : List Byte) (h : s.RingOk) :
    (s.commandPlanWrite seq c first count es).RingOk := by
  unfold State.commandPlanWrite
  dsimp only
  split
  · exact h
  · exact h
  · split
    · exact h
    · exact (h.setPlan _ _).congr rfl

theorem State.RingOk.commandPlanSwitch (seq : BitVec 16) (c : Byte) (h : s.RingOk) :
    (s.commandPlanSwitch seq c).RingOk := by
  unfold State.commandPlanSwitch
  split
  · exact h
  · split
    · exact h
    · split
      · exact h
      · split <;> exact h

theorem State.RingOk.commandPlanCancel (seq : BitVec 16) (h : s.RingOk) : (s.commandPlanCancel seq).RingOk := by
  unfold State.commandPlanCancel
  split <;> exact h

theorem State.RingOk.commandTimingSet (seq : BitVec 16) (role prop : Byte) (h : s.RingOk) :
    (s.commandTimingSet seq role prop).RingOk := by
  unfold State.commandTimingSet State.askRole
  split
  · exact h
  · split <;> exact h

theorem State.RingOk.releaseHeld (h : s.RingOk) : s.releaseHeld.RingOk := by
  unfold State.releaseHeld
  split <;> exact h

theorem State.RingOk.enterQuiescing (m : ResetMode) (h : s.RingOk) : (s.enterQuiescing m).RingOk := by
  have hs : State.RingOk { s with path := { s.path with engine := .quiescing m 0 } } := h
  exact (hs.releaseHeld.intakeQuiesce.inner (Inner.quiesceRelease _)).recall _

theorem State.RingOk.commandEngineReset (seq : BitVec 16) (mode : Byte) (h : s.RingOk) :
    (s.commandEngineReset seq mode).RingOk := by
  unfold State.commandEngineReset
  split
  · exact h
  · exact (h.enterQuiescing _).setCommand _

theorem State.RingOk.apply (c : Instr) (h : s.RingOk) : (s.apply c).RingOk := by
  cases c
  case linkOpen => exact h.commandLinkOpen _ _ _ _ _ _
  case linkTune => exact h.commandLinkTune _ _ _ _
  case linkDrain => exact h.commandLinkDrain _ _
  case linkCut => exact h.commandLinkCut _ _
  case linkClear => exact h.commandLinkClear _ _
  case linkQuery => exact h.commandLinkQuery _ _
  case linkClimb => exact h.commandLinkClimb _ _ _
  case routePin => exact h.commandRoutePin _ _ _ _
  case routeUnpin => exact h.commandRouteUnpin _ _
  case routeQuery => exact h.commandRouteQuery _ _ _
  case planWrite => exact h.commandPlanWrite _ _ _ _ _
  case planSwitch => exact h.commandPlanSwitch _ _
  case planCancel => exact h.commandPlanCancel _
  case timingSet => exact h.commandTimingSet _ _ _
  case engineReset => exact h.commandEngineReset _ _
  all_goals exact h

/-! ### The anchor commit and the reports -/

/-- R150: a commit leaves no descriptor in flight. -/
theorem State.RingOk.validateAnchor (sel : BitVec 2) (h : s.RingOk) : (s.validateAnchor sel).RingOk := by
  have hcommit : s.commit.RingOk := Nat.zero_le _
  unfold State.validateAnchor
  dsimp only
  split
  · exact hcommit.congr rfl
  · exact h

theorem State.RingOk.captureAnchor (o : Nat) (d : List Byte) (h : s.RingOk) : (s.captureAnchor o d).RingOk := by
  unfold State.captureAnchor
  split
  · exact h
  · dsimp only
    split
    · exact State.RingOk.validateAnchor _ h
    · exact h

theorem State.RingOk.signalFreed (h : s.RingOk) : s.signalFreed.RingOk := by
  unfold State.signalFreed
  split <;> exact h

theorem State.RingOk.leaveQuiesce (h : s.RingOk) : s.leaveQuiesce.RingOk := by
  unfold State.leaveQuiesce
  split <;> exact h

theorem State.RingOk.reported (w : Waiting) (h : s.RingOk) : (s.reported w).RingOk := by
  cases w with
  | response code seq st p => exact State.RingOk.leaveQuiesce h
  | release i =>
    cases i with
    | tagless a b => exact h
    | entry g => exact State.RingOk.signalFreed h
  | attention n => exact h
  | planActive p => exact h
  | timing t => exact h

theorem State.RingOk.writeReport (h : s.RingOk) : s.writeReport.RingOk := by
  unfold State.writeReport
  split
  · split
    · split
      · exact State.RingOk.reported _ h
      · exact h
    · exact h
  · exact h

/-! ### The port (R170 to R172) -/

theorem State.RingOk.answered (who : Reader) (bs : List Byte) (last : Bool) (h : s.RingOk) :
    (s.answered who bs last).RingOk := by
  cases who with
  | classifierHeader => exact h.headerAnswered bs last
  | classifierBody => exact h.bodyAnswered bs last
  | intakeEntry => exact h.entryAnswered bs
  | intakeHeader => exact h.localHeaderAnswered bs last
  | command => exact State.RingOk.apply (s := s.takeRecord bs) _ h

theorem State.RingOk.takeHead (h : s.RingOk) : s.takeHead.RingOk := by
  have hd : s.dropHead.RingOk := h
  unfold State.takeHead
  split
  · exact h
  · split
    · exact hd.answered _ _ _
    · exact hd
  · exact hd.writeTaken _ _ _

theorem State.RingOk.yieldFor (fuel : Nat) (h : s.RingOk) : (State.yieldFor fuel s).RingOk := by
  induction fuel generalizing s with
  | zero => exact h
  | succ fuel ih =>
    unfold State.yieldFor
    split
    · exact ih h.takeHead
    · exact h

theorem State.RingOk.yieldPort (h : s.RingOk) : s.yieldPort.RingOk := h.yieldFor _

theorem State.RingOk.takeRun (who : Reader) (fuel : Nat) (h : s.RingOk) : (State.takeRun who fuel s).RingOk := by
  induction fuel generalizing s with
  | zero => exact h
  | succ fuel ih =>
    unfold State.takeRun
    split
    · split
      · split
        · exact h.takeHead
        · exact ih h.takeHead
      · exact h
    · exact h

theorem State.RingOk.answerRun (who : Reader) (h : s.RingOk) : (s.answerRun who).RingOk := h.takeRun _ _

/-! ### System-side accesses (R164, R166 to R168) -/

theorem State.RingOk.copyWrite (a : Nat) (d : List Byte) (p : Nat) (h : s.RingOk) : (s.copyWrite a d p).RingOk := by
  unfold State.copyWrite
  split
  · exact h.yieldPort
  · exact h

theorem State.RingOk.holdRecord (a : Nat) (d : List Byte) (h : s.RingOk) : (s.holdRecord a d).RingOk := by
  unfold State.holdRecord State.beginDecision
  split <;> exact h

theorem State.RingOk.capture (w : PostWord) (v : Nat) (h : s.RingOk) : (s.capture w v).RingOk := by
  unfold State.capture
  split
  · exact h
  · split
    · split <;> exact h
    · split <;> exact h
    · split <;> exact h

theorem State.RingOk.takeWrite (a : Nat) (d : List Byte) (h : s.RingOk) : (s.takeWrite a d).RingOk := by
  have hs : (s.yieldPort.store a d).RingOk := h.yieldPort
  unfold State.takeWrite
  split
  · exact hs
  · exact h
  · exact h.holdRecord _ _
  · exact h.copyWrite _ _ _
  · exact hs.capture _ _
  · exact hs.captureAnchor _ _

theorem State.RingOk.fetchPosition (p : Nat) (h : s.RingOk) : (s.fetchPosition p).RingOk := by
  unfold State.fetchPosition
  split
  · exact State.RingOk.reportFetch _ (h.congr (by simp))
  · exact h

theorem State.RingOk.takeAccess (x : Access) (h : s.RingOk) : (s.takeAccess x).RingOk := by
  cases x with
  | write a d => exact h.takeWrite _ _
  | read a n => exact h.yieldPort.foldl (fun _ p h => h.fetchPosition p) _

theorem State.RingOk.proceedFor (fuel : Nat) (h : s.RingOk) : (State.proceedFor fuel s).RingOk := by
  induction fuel generalizing s with
  | zero => exact h
  | succ fuel ih =>
    unfold State.proceedFor
    split
    · exact h
    · exact ih (State.RingOk.takeAccess _ (h.congr rfl))

theorem State.RingOk.proceed (h : s.RingOk) : s.proceed.RingOk := h.proceedFor _

theorem State.RingOk.access (x : Access) (h : s.RingOk) : (s.access x).RingOk := by
  unfold State.access
  split
  · exact h
  · exact (h.takeAccess x).proceed

theorem State.RingOk.takeHeld (h : s.RingOk) : s.takeHeld.RingOk := by
  have hs (a : Nat) (d : List Byte) : ((s.yieldPort.store a d).setSlot .empty).RingOk := h.yieldPort
  unfold State.takeHeld
  split
  · exact (hs _ _).proceed
  · exact (hs _ _).proceed
  · exact h

theorem State.RingOk.refillCompletion (h : s.RingOk) : s.refillCompletion.RingOk := by
  have he : (s.setSlot .empty).RingOk := h
  unfold State.refillCompletion
  split
  · split
    · exact State.RingOk.proceed (he.yieldPort.congr rfl)
    · exact h
  · exact h

theorem State.RingOk.processCompletion (h : s.RingOk) : s.processCompletion.RingOk := by
  unfold State.processCompletion
  split
  · exact h
  · exact h.takeCompletion.refillCompletion

theorem State.RingOk.fetchCommand (h : s.RingOk) : s.fetchCommand.RingOk := by
  unfold State.fetchCommand
  split
  · split <;> exact h
  · exact h

/-! ### The end of a quiesce and the settling of an event -/

theorem State.RingOk.releaseWaiting (m : ResetMode) (h : s.RingOk) : (s.releaseWaiting m).RingOk := by
  have he : (s.setSlot .empty).RingOk := h
  unfold State.releaseWaiting
  split
  · split <;> exact he.yieldPort
  · exact h

theorem State.RingOk.readyReset (h : s.RingOk) : s.readyReset.RingOk := by
  unfold State.readyReset
  split <;> exact h

theorem State.RingOk.endQuiesce (h : s.RingOk) : s.endQuiesce.RingOk :=
  have hs : (s.clearBlocks s.quiesceMode).RingOk := h
  (hs.releaseWaiting _).readyReset.proceed

theorem State.RingOk.letPass (h : s.RingOk) : s.letPass.RingOk :=
  State.RingOk.proceed (State.RingOk.releaseWaiting
    (s := { s with completion := { s.completion with queue := [] } }) .unanchor h)

theorem State.RingOk.reportWrite (h : s.RingOk) : s.reportWrite.RingOk := by
  unfold State.reportWrite
  dsimp only
  split
  · exact h.writeReport.letPass
  · exact h.writeReport

theorem State.RingOk.finishWork (h : s.RingOk) : s.finishWork.RingOk := h.finish _

theorem State.RingOk.settle (h : s.RingOk) : s.settle.RingOk := by
  unfold State.settle
  dsimp only
  split
  · exact h.finishWork.endQuiesce
  · exact h.finishWork

theorem State.RingOk.idle (h : s.RingOk) : s.idle.RingOk := by
  have hs := h.settle
  unfold State.idle
  dsimp only
  split
  · exact hs
  · split <;> exact hs

/-! ### The rows -/

/-- The in-flight table is within the ring in the next state, if there is one. -/
def OutcomeRingOk (o : Host.Outcome State Fault Refusal) : Prop := ∀ t, o = .next t → t.RingOk

theorem OutcomeRingOk.next (h : s.RingOk) : OutcomeRingOk (.next s) := by
  rintro _ ⟨⟩
  exact h

theorem OutcomeRingOk.fault (r : Fault) : OutcomeRingOk (.fault r) := fun _ h => nomatch h

/-- A software command's row has the command's effect, or none. -/
theorem State.RingOk.onCommand {effect : State → State} (c : Instr)
    (he : ∀ s : State, s.RingOk → (effect s).RingOk) (h : s.RingOk) :
    OutcomeRingOk (.next (s.settle.onCommand c effect)) := by
  refine .next ?_
  unfold State.onCommand
  split
  · exact he _ (h.settle.congr rfl)
  · exact h.settle

theorem State.RingOk.systemSideWrite (a : BitVec 32) (d : List Byte) (h : s.RingOk) :
    OutcomeRingOk (systemSideWrite a d s) := by
  unfold Sys2Proof.Machine.systemSideWrite
  split
  · exact .next (h.settle.access _)
  · exact .fault _

/-- A row that takes the head of the injection queue in some cases, and otherwise changes nothing. -/
theorem State.RingOk.takeHead_or (h : s.RingOk) (ht : t = s ∨ t = s.takeHead ∨ t = s.takeHead.proceed) :
    OutcomeRingOk (.next t) := by
  obtain rfl | rfl | rfl := ht
  exacts [.next h, .next h.takeHead, .next h.takeHead.proceed]

theorem State.RingOk.exec (i : Instr) (h : s.RingOk) : OutcomeRingOk (exec i s) := by
  have hs := h.settle
  cases i
  case pinReset => exact .next (Nat.zero_le _)
  case resetNRelease sel =>
    refine .next ?_
    split <;> exact h
  -- The system-side accesses.
  case anchorWrite a d => exact h.systemSideWrite a d
  case anchorCommit a d => exact h.systemSideWrite a d
  case systemWrite a d => exact h.systemSideWrite a d
  case droppedWrite a d => exact h.systemSideWrite a d
  case receiveCompletionWrite a d => exact h.systemSideWrite a d
  case transmitCompletionWrite a d => exact h.systemSideWrite a d
  case commandPostWord a d => exact h.systemSideWrite a d
  case localPostWord a d => exact h.systemSideWrite a d
  case reportConsumedWord a d => exact h.systemSideWrite a d
  case descriptorFetch a n =>
    unfold Machine.exec execDescriptorFetch
    dsimp only
    split
    · exact .next (hs.access _)
    · exact .fault _
  -- The port.
  case heldWriteTaken => exact .next hs.takeHeld
  case rewriteTaken => exact hs.takeHead_or (by split <;> simp)
  case descriptorWriteTaken => exact hs.takeHead_or (by split <;> simp)
  case skipWriteTaken => exact hs.takeHead_or (by split <;> simp)
  case injectedWriteTaken => exact hs.takeHead_or (by split <;> simp)
  -- Reception and the Local Intake.
  case headerReadDone => exact .next (hs.answerRun _)
  case beaconBodyReadDone => exact .next (hs.answerRun _)
  case claim => exact .next hs.claim
  case holdBudgetExpiry => exact .next hs.expireBudget
  case localEntryFetch => exact .next hs.fetchEntry
  case localEntryReadDone => exact .next (hs.answerRun _)
  case localHeaderReadDone => exact .next (hs.answerRun _)
  case localAdmission => exact .next hs.localAdmission
  case localIntakeRetry => exact .next hs.intakeRetry
  case taglessHandover => exact .next hs.handOver
  -- The software commands.
  case commandFetch => exact .next hs.fetchCommand
  case nop => exact h.onCommand _ fun _ h => h
  case unknownCommand => exact h.onCommand _ fun _ h => h
  case linkOpen => exact h.onCommand _ fun _ h => h.commandLinkOpen _ _ _ _ _ _
  case linkTune => exact h.onCommand _ fun _ h => h.commandLinkTune _ _ _ _
  case linkDrain => exact h.onCommand _ fun _ h => h.commandLinkDrain _ _
  case linkCut => exact h.onCommand _ fun _ h => h.commandLinkCut _ _
  case linkClear => exact h.onCommand _ fun _ h => h.commandLinkClear _ _
  case linkQuery => exact h.onCommand _ fun _ h => h.commandLinkQuery _ _
  case linkClimb => exact h.onCommand _ fun _ h => h.commandLinkClimb _ _ _
  case routePin => exact h.onCommand _ fun _ h => h.commandRoutePin _ _ _ _
  case routeUnpin => exact h.onCommand _ fun _ h => h.commandRouteUnpin _ _
  case routeQuery => exact h.onCommand _ fun _ h => h.commandRouteQuery _ _ _
  case planWrite => exact h.onCommand _ fun _ h => h.commandPlanWrite _ _ _ _ _
  case planSwitch => exact h.onCommand _ fun _ h => h.commandPlanSwitch _ _
  case planCancel => exact h.onCommand _ fun _ h => h.commandPlanCancel _
  case timingSet => exact h.onCommand _ fun _ h => h.commandTimingSet _ _ _
  case engineReset => exact h.onCommand _ fun _ h => h.commandEngineReset _ _
  -- The rows that follow the timebase, and the completions and reports.
  case completionProcess => exact .next hs.processCompletion
  case reportWrite => exact .next hs.reportWrite
  case slotStart => exact .next hs.startSlot
  case superframeBoundary order =>
    unfold Machine.exec execSuperframeBoundary
    refine .next ?_
    split
    · exact hs
    · exact hs.boundary order
  case quiesceEnd =>
    unfold Machine.exec execQuiesceEnd
    refine .next ?_
    split
    · exact h.finishWork.endQuiesce
    · exact h.finishWork
  -- The consequences.
  all_goals exact .next (h.resolve _)

theorem State.RingOk.step (h : s.RingOk) : OutcomeRingOk (step s) := by
  unfold Machine.step
  split
  · exact .next h.idle
  · exact State.RingOk.exec _ (h.congr rfl)

end Steps

/-- Settles O11: `State.RingOk.step`. A descriptor is written only where a ring position is free, and the ring's size
changes only at a commit and at a reset, which empty the table. -/
theorem stepKeepsInFlightBound : Obligations.StepKeepsInFlightBound := fun _ t hs ht => State.RingOk.step hs t ht

end Sys2Proof.Machine
end

section
/-!
PROOF. The plan commands (R130, R131, R133): each status of PLAN_WRITE, PLAN_SWITCH and PLAN_CANCEL, by the context named,
the switch stage and the plan.
-/

namespace Sys2Proof.Machine

section Rows
variable {s : State} {seq : BitVec 16} {x first count : Byte} {entries : List Byte}

theorem exec_planWrite_read (hq : s.quiet = true)
    (hc : s.fetchedCommand = some (.planWrite seq x first count entries)) :
    exec (.planWrite seq x first count entries) s =
      .next (s.commandRead.commandPlanWrite seq x first count entries) :=
  congrArg Host.Outcome.next (State.settle_onCommand hq hc _)

theorem exec_planSwitch_read (hq : s.quiet = true) (hc : s.fetchedCommand = some (.planSwitch seq x)) :
    exec (.planSwitch seq x) s = .next (s.commandRead.commandPlanSwitch seq x) :=
  congrArg Host.Outcome.next (State.settle_onCommand hq hc _)

theorem exec_planCancel_read (hq : s.quiet = true) (hc : s.fetchedCommand = some (.planCancel seq)) :
    exec (.planCancel seq) s = .next (s.commandRead.commandPlanCancel seq) :=
  congrArg Host.Outcome.next (State.settle_onCommand hq hc _)

end Rows

/-! ### The context a command names -/

theorem contextArg_code (c : PlanContext) : contextArg c.code = some c := by cases c <;> rfl

theorem contextArg_none {y : Byte} (h : 2 ≤ y.toNat) : contextArg y = none := by
  unfold contextArg
  split
  · omega
  · omega
  · rfl

theorem SwitchStage.pending_iff {g : SwitchStage} {c : PlanContext} :
    g.pending = some c ↔ g = .accepted c ∨ g = .announced c := by
  cases g <;> simp [SwitchStage.pending]

theorem SwitchStage.pending_isSome {g : SwitchStage} : g.pending.isSome = true ↔ g ≠ .none := by
  cases g <;> simp [SwitchStage.pending]

/-! ### The statuses -/

section Plans
variable {s : State} {seq : BitVec 16} {x first count : Byte} {entries : List Byte} {c : PlanContext}

theorem State.commandPlanWrite_of_badContext (h : contextArg x = none) :
    s.commandPlanWrite seq x first count entries = s.respond 0x30 seq .badArgument := by
  simp [State.commandPlanWrite, h]

/-- R130: the range is clamped and cut before the entries are read. -/
theorem State.commandPlanWrite_of_context (h : contextArg x = some c) :
    s.commandPlanWrite seq x first count entries =
      match slotEntries (entries.take (min (max 1 (min 16 count.toNat)) (64 - min 63 first.toNat))) with
      | none => s.respond 0x30 seq .badArgument
      | some es =>
        if c = s.sched.active ∨ s.sched.stage.pending = some c then s.respond 0x30 seq .refusedState
        else State.respond { s with
          sched := s.sched.setPlan c
            ⟨writeSlots (s.sched.plan c).slots (min 63 first.toNat) es, (s.sched.plan c).generation + 1⟩ }
          0x30 seq .done := by
  unfold State.commandPlanWrite
  simp only [h, clamp]
  split <;> simp_all

theorem State.commandPlanSwitch_of_badContext (h : contextArg x = none) :
    s.commandPlanSwitch seq x = s.respond 0x31 seq .badArgument := by
  simp [State.commandPlanSwitch, h]

theorem State.commandPlanSwitch_of_context (h : contextArg x = some c) : s.commandPlanSwitch seq x =
    if s.sched.stage ≠ .none then s.respond 0x31 seq .refusedBusy
    else if c = s.sched.active then s.respond 0x31 seq .refusedState
    else if (s.sched.plan c).valid = false then s.respond 0x31 seq .badPlan
    else State.respond { s with sched := { s.sched with stage := .accepted c } } 0x31 seq .done := by
  simp only [State.commandPlanSwitch, h, SwitchStage.pending_isSome, Bool.not_eq_true']

theorem State.commandPlanCancel_of_accepted (h : s.sched.stage = .accepted c) : s.commandPlanCancel seq =
    State.respond { s with sched := { s.sched with stage := .none } } 0x32 seq .done := by
  simp [State.commandPlanCancel, h]

theorem State.commandPlanCancel_of_not (h : s.sched.stage = .none ∨ s.sched.stage = .announced c) :
    s.commandPlanCancel seq = s.respond 0x32 seq .refusedState := by
  obtain h | h := h <;> simp [State.commandPlanCancel, h]

end Plans

/-- Settles O58: each clause is one branch of its command, after the record has been read. -/
theorem planCommandsMoveTheStage : Obligations.PlanCommandsMoveTheStage := by
  rintro s seq x first count entries c hq rfl
  have hctx := contextArg_code c
  refine ⟨fun hc es hes => ⟨fun hbusy => ?refused, fun ha hacc hann => ?written⟩,
    fun hc => ⟨fun hs => ?busy, fun hs ha => ?active, fun hs ha hv => ?badPlan, fun hs ha hv => ?switched⟩,
    fun hc => ⟨fun hs => ?cancelled, fun hs => ?notCancelled⟩,
    fun y hy => ⟨fun hc => ?badWrite, fun hc => ?badSwitch⟩, fun hc hes => ?badEntry⟩
  case refused =>
    have hor : c = s.sched.active ∨ s.sched.stage.pending = some c := by rwa [SwitchStage.pending_iff]
    rw [exec_planWrite_read hq hc, State.commandPlanWrite_of_context hctx]
    simp only [hes]
    rw [State.commandRead_sched, if_pos hor]
  case written =>
    have hnot : ¬ (c = s.sched.active ∨ s.sched.stage.pending = some c) := by
      rw [SwitchStage.pending_iff]; exact not_or.mpr ⟨ha, not_or.mpr ⟨hacc, hann⟩⟩
    rw [exec_planWrite_read hq hc, State.commandPlanWrite_of_context hctx]
    simp only [hes]
    rw [State.commandRead_sched, if_neg hnot]
  case badEntry =>
    rw [exec_planWrite_read hq hc, State.commandPlanWrite_of_context hctx]
    simp only [hes]
  case busy =>
    rw [exec_planSwitch_read hq hc, State.commandPlanSwitch_of_context hctx]
    simp [hs]
  case active =>
    rw [exec_planSwitch_read hq hc, State.commandPlanSwitch_of_context hctx]
    simp [hs, ha]
  case badPlan =>
    rw [exec_planSwitch_read hq hc, State.commandPlanSwitch_of_context hctx]
    simp [hs, ha, hv]
  case switched =>
    rw [exec_planSwitch_read hq hc, State.commandPlanSwitch_of_context hctx]
    simp [hs, ha, hv]
  case cancelled => rw [exec_planCancel_read hq hc, State.commandPlanCancel_of_accepted (s := s.commandRead) hs]; rfl
  case notCancelled => rw [exec_planCancel_read hq hc, State.commandPlanCancel_of_not (s := s.commandRead) hs]
  case badWrite => rw [exec_planWrite_read hq hc, State.commandPlanWrite_of_badContext (contextArg_none hy)]
  case badSwitch => rw [exec_planSwitch_read hq hc, State.commandPlanSwitch_of_badContext (contextArg_none hy)]

end Sys2Proof.Machine
end

section
/-!
PROOF. The slots that write nothing (R135, R136, R138, R151).
-/

namespace Sys2Proof.Machine

/-! ### What each kind of slot leaves as it is -/

section Idle
variable {s : State}

theorem State.canProbe_of_ring (n : LinkIx) (hf : s.ringFree = false) : s.canProbe n = false := by
  simp [State.canProbe, hf]

theorem State.fits_of_ring (p : BurstPlan) (f : Frame) (left : Nat) (hf : s.ringFree = false) :
    s.fits p f left = false := by simp [State.fits, hf]

/-- No frame is taken in phase 1 while the ring is full. -/
theorem State.takeClass_of_ring (p : BurstPlan) (ts : List Tag) (left : Nat) (hf : s.ringFree = false) :
    State.takeClass p ts (s, left) = (s, left) := by
  cases ts with
  | nil => rfl
  | cons t ts =>
    rw [State.takeClass]
    cases s.frame t <;> simp [State.fits_of_ring p _ left hf]

theorem State.fittingHead_of_ring (p : BurstPlan) (left : Nat) (ts : List Tag) (hf : s.ringFree = false) :
    s.fittingHead p left ts = none := by
  cases ts with
  | nil => rfl
  | cons t ts =>
    rw [State.fittingHead]
    cases s.frame t <;> simp [State.fits_of_ring p _ left hf]

/-- Phase 2 ends when neither shared queue has a head that fits. -/
theorem State.takeShared_of_none {p : BurstPlan} {left : Nat}
    (h : ∀ ts ∈ [(s.queuesOf p.link).bulk, (s.queuesOf p.link).background], s.fittingHead p left ts = none)
    (fuel : Nat) : State.takeShared p fuel s left = s := by
  simp only [List.mem_cons, List.not_mem_nil, or_false, forall_eq_or_imp, forall_eq] at h
  obtain ⟨hbulk, hback⟩ := h
  cases fuel with
  | zero => rfl
  | succ fuel =>
    rw [State.takeShared]
    split_ifs <;> simp [hbulk, hback]

/-- No frame is taken while the ring is full (R139). -/
theorem State.burst_of_ring (j : Nat) (n : LinkIx) (hf : s.ringFree = false) : s.burst j n = s := by
  simp only [State.burst, State.takeClass_of_ring _ _ _ hf]
  exact State.takeShared_of_none (fun ts _ => State.fittingHead_of_ring _ _ ts hf) _

/-- A link with nothing queued has no burst. -/
theorem State.burst_of_nil (j : Nat) (n : LinkIx) (hc : s.queuedCount n = 0) : s.burst j n = s := by
  have hall : (s.queuesOf n).all = [] := List.eq_nil_of_length_eq_zero hc
  simp only [ClassQueues.all, List.append_eq_nil_iff] at hall
  obtain ⟨⟨⟨hexp, hint⟩, hbulk⟩, hback⟩ := hall
  simp [State.burst, hexp, hint, hbulk, hback, State.takeClass, State.takeShared]

theorem State.txSlot_of_closed (j : Nat) {n : LinkIx} (hc : (s.link n).closed = true) : s.txSlot j n = s := by
  unfold State.txSlot
  unfold LinkRec.closed at hc
  cases h : (s.link n).state <;> simp [h] at hc ⊢

theorem State.txSlot_of_probing (j : Nat) {n : LinkIx} {k : Nat} (hp : (s.link n).state = .probing k) :
    s.txSlot j n = s := by simp [State.txSlot, hp]

theorem State.txSlot_of_ring (j : Nat) (n : LinkIx) (hf : s.ringFree = false) : s.txSlot j n = s := by
  unfold State.txSlot
  cases (s.link n).state <;> simp [State.burst_of_ring j n hf, State.canProbe_of_ring n hf]

theorem State.txSlot_of_carries (j : Nat) {n : LinkIx}
    (hs : (s.link n).state = .active ∨ (s.link n).state = .draining) : s.txSlot j n = s.burst j n := by
  obtain hs | hs := hs <;> simp [State.txSlot, hs]

theorem State.txSlot_of_blocked (j : Nat) {n : LinkIx} (hb : (s.link n).isBlocked = true) :
    s.txSlot j n = if s.canProbe n then s.sendProbe j n else s := by
  unfold State.txSlot
  unfold LinkRec.isBlocked at hb
  cases h : (s.link n).state <;> simp [h] at hb ⊢

theorem State.beaconSlot_of_busy (j : Nat)
    (h : s.bufferFree s.sched.beaconBuffer = false ∨ s.ringFree = false) : s.beaconSlot j = (s, []) := by
  have hand : (s.bufferFree s.sched.beaconBuffer && s.ringFree) = false := Bool.and_eq_false_iff.mpr h
  simp [State.beaconSlot, hand]

theorem State.probeCandidate_eq_none
    (h : ∀ n k, (s.link n).state = .probing k → (s.link n).probeSent = true ∨ s.canProbe n = false) :
    s.probeCandidate = none := by
  refine List.find?_eq_none.mpr fun n _ => ?_
  cases hk : (s.link n).state with
  | probing k => obtain h | h := h n k hk <;> simp [h]
  | _ => simp

theorem State.sharedSlot_of_none (j : Nat) (hr : s.linkTable.pendingReplies = []) (hp : s.probeCandidate = none) :
    s.sharedSlot j = s := by simp [State.sharedSlot, State.serveReply, hr, hp]

/-- A slot whose action changes nothing lets time pass up to its start, and the next slot number rises. -/
theorem exec_slotStart_of_unused {j : SlotIx} (hq : s.quiet = true) (hj : s.timing.nextSlot = j.val)
    (he : s.path.engine ≠ .unanchored) (ht : s.slotTime j.val < s.superframeEnd)
    (h : (s.enterSlot j).slotAction j = (s.enterSlot j, [])) : exec .slotStart s = .next (s.enterSlot j) := by
  have hw : (s.enterSlot j).work = [] := (State.quiet_iff.mp hq).1
  rw [exec_slotStart_of_due hq hj he ht, h, List.map_nil, ← hw]

/-- The slot's action of a RUNNING engine, by the entry of the active plan. -/
theorem State.slotAction_of_running (j : SlotIx) (hr : s.isRunning = true) :
    s.slotAction j = match bankGet s.sched.activePlan.slots j with
      | .beacon => s.beaconSlot j.val
      | .shared => (s.sharedSlot j.val, [])
      | .tx n => (s.txSlot j.val n, [])
      | .idle => (s, []) := if_pos hr

theorem State.slotAction_of_not_running (j : SlotIx) (hr : s.isRunning = false) : s.slotAction j = (s, []) := by
  simp [State.slotAction, hr]

end Idle

/-! ### The obligation -/

/-- Settles O37: in each listed case the action of the slot leaves the state in which it acts as it is. -/
theorem unusedSlotsWriteNothing : Obligations.UnusedSlotsWriteNothing := by
  intro s j hq hj he ht hcase
  have hunused : (s.enterSlot j).slotAction j = (s.enterSlot j, []) := by
    cases hr : (s.enterSlot j).isRunning with
    | false => exact State.slotAction_of_not_running j hr
    | true =>
      rw [State.slotAction_of_running j hr]
      have hplan : bankGet (s.enterSlot j).sched.activePlan.slots j = bankGet s.sched.activePlan.slots j := rfl
      rw [hplan]
      obtain hquiesce | hidle | ⟨n, htx, hcase⟩ | ⟨hbeacon, hbusy⟩ | ⟨hshared, hnone, hprobe⟩ := hcase
      · have hrun : s.path.engine = .running := by
          simpa [State.isRunning] using (s.enterSlot_isRunning j).symm.trans hr
        simp [State.isQuiescing_of_running hrun] at hquiesce
      · simp [hidle]
      · have hslot : (s.enterSlot j).txSlot j.val n = s.enterSlot j := by
          obtain hclosed | ⟨k, hk⟩ | hfull | ⟨hcarries, hcount⟩ | ⟨hblocked, hbuf⟩ := hcase
          · exact State.txSlot_of_closed (s := s.enterSlot j) _ hclosed
          · exact State.txSlot_of_probing (s := s.enterSlot j) _ hk
          · exact State.txSlot_of_ring (s := s.enterSlot j) _ _ hfull
          · exact (State.txSlot_of_carries (s := s.enterSlot j) _ hcarries).trans
              (State.burst_of_nil (s := s.enterSlot j) _ _ hcount)
          · have hcan : (s.enterSlot j).canProbe n = false := congrArg (· && s.ringFree) hbuf
            rw [State.txSlot_of_blocked (s := s.enterSlot j) _ hblocked, hcan, if_neg Bool.false_ne_true]
        simp [htx, hslot]
      · rw [hbeacon]
        exact State.beaconSlot_of_busy (s := s.enterSlot j) _ hbusy
      · have hcand : (s.enterSlot j).probeCandidate = none :=
          State.probeCandidate_eq_none (s := s.enterSlot j) fun n k hk => (hprobe n k hk).imp_right fun h =>
            (Bool.and_eq_false_iff (x := s.bufferFree (probeBuffer n)) (y := s.ringFree)).mpr h
        have hslot := State.sharedSlot_of_none (s := s.enterSlot j) j.val hnone hcand
        simp [hshared, hslot]
  exact exec_slotStart_of_unused hq hj he ht hunused

end Sys2Proof.Machine
end

section
/-!
PROOF. The quiesce limit (R145, R190): the frames in flight are released ABANDONED in ascending tag order, and every
record of the table is given up.
-/

namespace Sys2Proof.Machine

/-! ### The frames given up -/

theorem State.releaseInFlight_of_inFlight {s : State} {g : Tag} (st : ReleaseStatus)
    (hi : (s.frame g).any Frame.inFlight = true) :
    s.releaseInFlight g st = (s.setFrame g (asReleased st (s.frame g))).pushBacklog (.entry g) := by
  obtain ⟨f, hf, hi⟩ := (Option.any_eq_true ..).mp hi
  rw [State.releaseInFlight, hf]
  simp only [hi, if_true]
  exact State.release_of_inFlight st hf hi

theorem State.releaseInFlight_of_not {s : State} {g : Tag} (st : ReleaseStatus)
    (hi : (s.frame g).any Frame.inFlight = false) : s.releaseInFlight g st = s := by
  unfold State.releaseInFlight
  cases hf : s.frame g with
  | none => rfl
  | some f =>
    rw [hf] at hi
    exact if_neg (by simpa using hi)

/-- What the release of several tags in flight has done: those in flight are RELEASING and behind what the release
backlog held, and nothing else has changed. -/
structure State.GivenUp (s u : State) (ts : List Tag) : Prop where
  state : ∃ entries, u = { s with pool := { s.pool with
    entries := entries
    backlog := s.pool.backlog ++ (ts.filter fun g => (s.frame g).any Frame.inFlight).map ReleaseItem.entry } }
  frame : ∀ g, u.frame g =
    if g ∈ ts ∧ (s.frame g).any Frame.inFlight = true then asReleased .abandoned (s.frame g) else s.frame g

theorem State.givenUp_foldl (ts : List Tag) : ∀ s : State, ts.Nodup →
    s.GivenUp (ts.foldl (fun s g => s.releaseInFlight g .abandoned) s) ts := by
  induction ts with
  | nil => exact fun s _ => ⟨⟨s.pool.entries, by simp⟩, fun g => by simp⟩
  | cons g ts ih =>
    intro s hd
    obtain ⟨hg, hd⟩ := List.nodup_cons.mp hd
    rw [List.foldl_cons]
    cases hi : (s.frame g).any Frame.inFlight with
    | false =>
      rw [State.releaseInFlight_of_not _ hi]
      obtain ⟨hstate, hframe⟩ := ih s hd
      refine ⟨by simpa [hi] using hstate, fun x => ?_⟩
      rw [hframe x]
      by_cases hx : x = g <;> simp [hx, hi]
    | true =>
      rw [State.releaseInFlight_of_inFlight _ hi]
      obtain ⟨hstate, hframe⟩ := ih ((s.setFrame g (asReleased .abandoned (s.frame g))).pushBacklog (.entry g)) hd
      have hother (x : Tag) : ((s.setFrame g (asReleased .abandoned (s.frame g))).pushBacklog (.entry g)).frame x =
          if x = g then asReleased .abandoned (s.frame g) else s.frame x := by
        by_cases hx : x = g
        · rw [if_pos hx, hx]; exact State.frame_setFrame_same ..
        · rw [if_neg hx]; exact State.frame_setFrame_other _ _ (Ne.symm hx)
      refine ⟨?_, fun x => ?_⟩
      · have hkept : (ts.filter fun x =>
            (((s.setFrame g (asReleased .abandoned (s.frame g))).pushBacklog (.entry g)).frame x).any
              Frame.inFlight) = ts.filter fun x => (s.frame x).any Frame.inFlight :=
          List.filter_congr fun x hx => by rw [hother, if_neg (ne_of_mem_of_not_mem hx hg)]
        obtain ⟨entries, hstate⟩ := hstate
        exact ⟨entries, hstate.trans (by rw [hkept]; simp [State.setFrame, State.pushBacklog, hi])⟩
      · rw [hframe x, hother]
        by_cases hx : x = g
        · subst hx; simp [hg, hi]
        · simp [hx]

/-! ### The marks and the buffers given up -/

/-- What setting the marks of several records has done. -/
structure State.MarksCleared (s u : State) (l : List InFlight) : Prop where
  state : ∃ marks, u = { s with path := { s.path with marks := marks } }
  cleared : ∀ r ∈ l, u.mark r.pos = .none
  others : ∀ p, (∀ r ∈ l, r.pos ≠ p) → u.mark p = s.mark p

theorem State.setMark_state (s : State) (p : Nat) (m : Mark) :
    ∃ marks, s.setMark p m = { s with path := { s.path with marks := marks } } := by
  unfold State.setMark
  split
  · exact ⟨_, rfl⟩
  · exact ⟨s.path.marks, rfl⟩

/-- A position outside the ring has no mark. -/
theorem State.mark_setMark_none (s : State) (p : Nat) : (s.setMark p .none).mark p = .none := by
  by_cases hp : p < 256
  · exact s.mark_setMark_same _ hp
  · simp [State.mark, index?, hp]

theorem State.marksCleared_foldl (l : List InFlight) : ∀ s : State,
    s.MarksCleared (l.foldl (fun s r => s.setMark r.pos .none) s) l := by
  induction l with
  | nil => exact fun s => ⟨⟨s.path.marks, rfl⟩, nofun, fun _ _ => rfl⟩
  | cons r l ih =>
    intro s
    obtain ⟨hstate, hcleared, hothers⟩ := ih (s.setMark r.pos .none)
    rw [List.foldl_cons]
    refine ⟨?_, fun x hx => ?_, fun p hp => ?_⟩
    · obtain ⟨marks, hmarks⟩ := s.setMark_state r.pos .none
      obtain ⟨marks', hstate⟩ := hstate
      exact ⟨marks', hstate.trans (by rw [hmarks])⟩
    · by_cases hin : ∃ y ∈ l, y.pos = x.pos
      · obtain ⟨y, hy, hpos⟩ := hin
        exact hpos ▸ hcleared y hy
      · rw [hothers _ fun y hy hpos => hin ⟨y, hy, hpos⟩]
        obtain rfl | hx := List.mem_cons.mp hx
        · exact s.mark_setMark_none _
        · exact absurd ⟨x, hx, rfl⟩ hin
    · rw [hothers p fun y hy => hp y (List.mem_cons_of_mem _ hy)]
      exact s.mark_setMark_other _ (hp r List.mem_cons_self)

/-- What freeing the buffers of several records has done. -/
structure Scheduler.BuffersFreed (d e : Scheduler) (l : List InFlight) : Prop where
  scheduler : ∃ buffers, e = { d with buffers := buffers }
  freed : ∀ r ∈ l, ∀ b, r.carried.buffer? = some b → bankGet e.buffers b = none
  others : ∀ b, (∀ r ∈ l, r.carried.buffer? ≠ some b) → bankGet e.buffers b = bankGet d.buffers b

theorem Scheduler.freeBuffer_state (d : Scheduler) (c : Carried) :
    ∃ buffers, d.freeBuffer c = { d with buffers := buffers } := by
  unfold Scheduler.freeBuffer
  split
  · exact ⟨_, rfl⟩
  · exact ⟨d.buffers, rfl⟩

theorem Scheduler.freeBuffer_get (d : Scheduler) (c : Carried) (b : BufIx) :
    bankGet (d.freeBuffer c).buffers b = if c.buffer? = some b then none else bankGet d.buffers b := by
  unfold Scheduler.freeBuffer
  cases hc : c.buffer? with
  | none => simp
  | some x =>
    by_cases hx : x = b
    · simp [hx]
    · simp [bankGet_bankPut, hx]

theorem Scheduler.buffersFreed_foldl (l : List InFlight) : ∀ d : Scheduler,
    d.BuffersFreed (l.foldl (fun d r => d.freeBuffer r.carried) d) l := by
  induction l with
  | nil => exact fun d => ⟨⟨d.buffers, rfl⟩, nofun, fun _ _ => rfl⟩
  | cons r l ih =>
    intro d
    obtain ⟨hsched, hfreed, hothers⟩ := ih (d.freeBuffer r.carried)
    rw [List.foldl_cons]
    refine ⟨?_, fun x hx b hb => ?_, fun b hb => ?_⟩
    · obtain ⟨buffers, hbuffers⟩ := d.freeBuffer_state r.carried
      obtain ⟨buffers', hsched⟩ := hsched
      exact ⟨buffers', hsched.trans (by rw [hbuffers])⟩
    · by_cases hin : ∃ y ∈ l, y.carried.buffer? = some b
      · obtain ⟨y, hy, hyb⟩ := hin
        exact hfreed y hy b hyb
      · rw [hothers b fun y hy hyb => hin ⟨y, hy, hyb⟩, d.freeBuffer_get]
        obtain rfl | hx := List.mem_cons.mp hx
        · exact if_pos hb
        · exact absurd ⟨x, hx, hb⟩ hin
    · rw [hothers b fun y hy => hb y (List.mem_cons_of_mem _ hy), d.freeBuffer_get,
        if_neg (hb r List.mem_cons_self)]

/-! ### The limit -/

/-- What the quiesce limit does (R145): the frames of the table's data records are given up, the marks of its records
are NONE, their buffers free, and the table is empty. -/
structure State.FlightGivenUp (s u : State) : Prop where
  state : ∃ marks entries buffers, u = { s with
    path := { s.path with marks := marks }
    pool := { s.pool with
      entries := entries
      backlog := s.pool.backlog ++
        (s.tagsInFlight.filter fun g => (s.frame g).any Frame.inFlight).map ReleaseItem.entry }
    sched := { s.sched with inFlight := [], buffers := buffers }
    completion := { s.completion with consumer := s.sched.producer } }
  frame : ∀ g, u.frame g = if g ∈ s.tagsInFlight ∧ (s.frame g).any Frame.inFlight = true
    then asReleased .abandoned (s.frame g) else s.frame g
  cleared : ∀ r ∈ s.sched.inFlight, u.mark r.pos = .none
  marks : ∀ p, (∀ r ∈ s.sched.inFlight, r.pos ≠ p) → u.mark p = s.mark p
  freed : ∀ r ∈ s.sched.inFlight, ∀ b, r.carried.buffer? = some b → bankGet u.sched.buffers b = none
  buffers : ∀ b, (∀ r ∈ s.sched.inFlight, r.carried.buffer? ≠ some b) →
    bankGet u.sched.buffers b = bankGet s.sched.buffers b

theorem State.flightGivenUp_giveUp (s : State) : s.FlightGivenUp s.giveUp := by
  have hgiven := State.givenUp_foldl s.tagsInFlight s ((List.nodup_finRange 512).filter _)
  have hmarks := State.marksCleared_foldl s.sched.inFlight
    (s.tagsInFlight.foldl (fun s g => s.releaseInFlight g .abandoned) s)
  have hbuffers := Scheduler.buffersFreed_foldl s.sched.inFlight { s.sched with inFlight := [] }
  unfold State.giveUp
  dsimp only
  generalize s.tagsInFlight.foldl _ s = released at hgiven hmarks ⊢
  generalize s.sched.inFlight.foldl _ released = cleared at hmarks ⊢
  obtain ⟨⟨entries, rfl⟩, hframe⟩ := hgiven
  obtain ⟨⟨marks, rfl⟩, hcleared, hothers⟩ := hmarks
  obtain ⟨⟨buffers, hsched⟩, hfreed, hkept⟩ := hbuffers
  exact ⟨⟨marks, entries, buffers, by simp only [hsched]⟩, hframe, hcleared, hothers, hfreed, hkept⟩

theorem exec_quiesceLimit_of_due {s : State} {ws : List Work} (hws : ∀ w ∈ ws, ∃ x, w = .due x)
    (hw : s.work = .due .quiesceLimit :: ws) : exec .quiesceLimit s = .next { s.giveUp with work := ws } := by
  rw [← State.advance_dues _ hws]
  exact congrArg Host.Outcome.next (State.resolve_head hw rfl)

theorem State.mem_tagsInFlight {s : State} {g : Tag} :
    g ∈ s.tagsInFlight ↔ ∃ r ∈ s.sched.inFlight, ∃ n, r.carried = .data g n := by
  have htag (r : InFlight) : r.tag? = some g ↔ ∃ n, r.carried = .data g n := by
    unfold InFlight.tag?
    cases r.carried <;> simp
  simp [State.tagsInFlight, htag]

/-! ### The obligation -/

/-- Settles O45: the limit's row gives up the flight, and the parts of the table's records do not touch each other. -/
theorem quiesceLimitGivesUpTheFlight : Obligations.QuiesceLimitGivesUpTheFlight := by
  intro s ws hws hw _
  obtain ⟨⟨marks, entries, buffers, hstate⟩, hframe, hcleared, hmarks, hfreed, hbuffers⟩ := s.flightGivenUp_giveUp
  refine ⟨_, exec_quiesceLimit_of_due hws hw, ?state, fun b => ?free, hbuffers, hcleared, hmarks,
    fun r hr g n f hc hf hi => ?given, fun g hg => ?kept⟩
  case state =>
    have hlist : (s.tagsInFlight.filter fun g => (s.frame g).any Frame.inFlight) =
        (List.finRange 512).filter fun g =>
          (s.sched.inFlight.any fun r => r.tag? == some g) && (s.frame g).any Frame.inFlight := by
      rw [State.tagsInFlight, List.filter_filter]
      exact List.filter_congr fun g _ => Bool.and_comm ..
    rw [hstate, hlist]
  case free =>
    have hiff (u : State) : u.bufferFree b = true ↔ bankGet u.sched.buffers b = none := Option.isNone_iff_eq_none
    rw [hiff, hiff]
    by_cases hin : ∃ r ∈ s.sched.inFlight, r.carried.buffer? = some b
    · obtain ⟨r, hr, hb⟩ := hin
      exact iff_of_true (hfreed r hr b hb) (.inr ⟨r, hr, hb⟩)
    · rw [hbuffers b fun r hr hb => hin ⟨r, hr, hb⟩]
      simp [hin]
  case given =>
    refine (hframe g).trans ((if_pos ⟨State.mem_tagsInFlight.mpr ⟨r, hr, n, hc⟩, by simp [hf, hi]⟩).trans ?_)
    rw [hf]; rfl
  case kept =>
    refine (hframe g).trans (if_neg fun ⟨hmem, hany⟩ => ?_)
    obtain hg | hg := hg
    · obtain ⟨r, hr, n, hc⟩ := State.mem_tagsInFlight.mp hmem
      exact hg r hr n hc
    · obtain ⟨f, hf, hi⟩ := (Option.any_eq_true ..).mp hany
      rw [hg f hf] at hi
      exact Bool.false_ne_true hi

end Sys2Proof.Machine
end

section
/-!
PROOF. What taking a frame for a burst does (R25, R140, R142): its descriptor's access, its record at the producer index,
and its move to the ring position.
-/

namespace Sys2Proof.Machine

/-- A place that is given what it holds. -/
theorem bankPut_bankGet {α : Type} {n : Nat} (b : Bank α n) (i : Fin n) : bankPut b i (bankGet b i) = b :=
  bank_ext fun j => by
    rw [bankGet_bankPut]
    split
    · rename_i h; rw [h]
    · rfl

section Take
variable {s : State} {p : BurstPlan} {g : Tag} {f : Frame}

/-- The access of a frame's descriptor in a burst (R137, R140). -/
def State.frameAccess (s : State) (p : BurstPlan) (pos : Nat) (lap : Bool) (f : Frame) : Injected :=
  .write (.descriptor pos) (s.txAddress pos) (descriptorBytes {
    lap := lap, rate := p.rate, attempts := (s.link p.link).attempts, launchSuperframe := s.timing.number
    buffer := f.buffer, length := f.length, dest := (s.link p.link).node, launch := s.slotTime p.slot + 10
    deadline := s.slotTime p.slot + 10 + p.budget - airtime p.rate f.length })

/-- R140, R25: a frame that is taken is in flight before its queued count falls, so the link's drain is not over. -/
theorem State.takeFrame_eq : s.takeFrame p g f = { s with
    path := s.path.fill (s.path.queue ++ s.path.tails ++ [s.frameAccess p s.sched.producer s.sched.lap f])
    intake := { s.intake with stage := s.intake.stage.afterFall p.link }
    pool := { s.pool with
      entries := bankPut s.pool.entries g (some { f with place := .inRing p.link s.sched.producer })
      queues := bankPut s.pool.queues p.link ((s.unqueue p.link g).queuesOf p.link) }
    sched := s.sched.record (.data g p.link) } := by
  have hqueues : (s.unqueue p.link g).pool.queues =
      bankPut s.pool.queues p.link ((s.unqueue p.link g).queuesOf p.link) :=
    congrArg (bankPut s.pool.queues p.link) (bankGet_bankPut_same ..).symm
  have hflight (t : State) (ht : t.sched = s.sched.record (.data g p.link)) : t.inFlightCount p.link ≠ 0 := by
    rw [State.inFlightCount, ht, Scheduler.record_eq]
    simp [InFlight.dataOf]
  unfold State.takeFrame State.takeToRing State.countFell
  dsimp only
  rw [State.signalIntake_eq, State.drainTest_of_not _ _ (.inr (.inr (.inr (hflight _ rfl)))), ← hqueues]
  rfl

theorem State.takeFrame_frame (u : Tag) : (s.takeFrame p g f).frame u =
    if g = u then some { f with place := .inRing p.link s.sched.producer } else s.frame u := by
  rw [State.takeFrame_eq]
  exact bankGet_bankPut s.pool.entries g u _

theorem State.takeFrame_get (c : TrafficClass) : ((s.takeFrame p g f).queuesOf p.link).get c =
    ((s.queuesOf p.link).get c).filter fun x => x != g := by
  have hqueues : (s.takeFrame p g f).queuesOf p.link = (s.unqueue p.link g).queuesOf p.link := by
    rw [State.takeFrame_eq]
    exact bankGet_bankPut_same ..
  rw [hqueues, State.unqueue_get, if_pos rfl]

theorem State.takeFrame_inFlight :
    (s.takeFrame p g f).sched.inFlight.length = s.sched.inFlight.length + 1 := by
  rw [State.takeFrame_eq, Scheduler.record_eq]
  simp

theorem State.takeFrame_ringSize : (s.takeFrame p g f).sched.ringSize = s.sched.ringSize := by
  rw [State.takeFrame_eq, Scheduler.record_eq]

end Take

/-! ### A burst that has sent some frames -/

/-- The frames of `sent` are taken one after another. -/
def State.takeFrames (p : BurstPlan) (s : State) (sent : List (Tag × Frame)) : State :=
  sent.foldl (fun s x => s.takeFrame p x.1 x.2) s

/-- The airtime of the frames of `sent`. -/
def sentAirtime (rate : Nat) (sent : List (Tag × Frame)) : Nat :=
  (sent.map fun x : Tag × Frame => airtime rate x.2.length).sum

section Phase
variable {s : State} {p : BurstPlan}

theorem State.fits_iff {f : Frame} {left : Nat} : s.fits p f left = true ↔
    airtime p.rate f.length ≤ left ∧ s.sched.inFlight.length < s.sched.ringSize.getD 0 := by
  simp [State.fits, State.ringFree]

/-- R139, phase 1: frames that all fit are taken from the head of a class one after another. -/
theorem State.takeClass_append (sent : List (Tag × Frame)) (rest : List Tag) : ∀ (s : State) (left : Nat),
    (sent.map Prod.fst).Nodup → (∀ x ∈ sent, s.frame x.1 = some x.2) →
    s.sched.inFlight.length + sent.length ≤ s.sched.ringSize.getD 0 → sentAirtime p.rate sent ≤ left →
    State.takeClass p (sent.map Prod.fst ++ rest) (s, left) =
      State.takeClass p rest (s.takeFrames p sent, left - sentAirtime p.rate sent) := by
  induction sent with
  | nil => exact fun _ _ _ _ _ _ => rfl
  | cons x sent ih =>
    intro s left hd hf hring hair
    obtain ⟨hx, hd⟩ := List.nodup_cons.mp hd
    have hair' : airtime p.rate x.2.length + sentAirtime p.rate sent ≤ left := by
      simpa [sentAirtime] using hair
    rw [List.length_cons] at hring
    have hfit : s.fits p x.2 left = true := State.fits_iff.mpr ⟨by omega, by omega⟩
    rw [List.map_cons, List.cons_append, State.takeClass, hf x List.mem_cons_self]
    simp only [hfit, if_true]
    rw [ih _ _ hd (fun y hy => ?frames) ?ring (by omega)]
    case frames =>
      have hne : y.1 ≠ x.1 := ne_of_mem_of_not_mem (List.mem_map_of_mem hy) hx
      rw [State.takeFrame_frame, if_neg hne.symm, hf y (List.mem_cons_of_mem _ hy)]
    case ring => rw [State.takeFrame_inFlight, State.takeFrame_ringSize]; omega
    have hleft : left - airtime p.rate x.2.length - sentAirtime p.rate sent =
        left - sentAirtime p.rate (x :: sent) := by
      rw [Nat.sub_sub]; simp [sentAirtime]
    rw [hleft]
    rfl

end Phase

end Sys2Proof.Machine
end

section
/-!
PROOF. A burst that has sent some frames (R139, R140, R142): where each frame, each record and each access stands.
-/

namespace Sys2Proof.Machine

/-- The ring position `i` descriptors ahead of the producer index. -/
def Scheduler.posAhead (d : Scheduler) (N i : Nat) : Nat := (d.producer + i) % N

/-- The lap flag of that position. -/
def Scheduler.lapAhead (d : Scheduler) (N i : Nat) : Bool := if d.producer + i < N then d.lap else !d.lap

/-- The records of the frames sent to link `n`. -/
def Scheduler.sentRecords (d : Scheduler) (N : Nat) (n : LinkIx) (sent : List (Tag × Frame)) : List InFlight :=
  sent.mapIdx fun (i : Nat) (x : Tag × Frame) => ⟨d.posAhead N i, .data x.1 n, d.lapAhead N i, false, false⟩

/-- The accesses of the descriptors of the frames sent. -/
def State.sentAccesses (s : State) (p : BurstPlan) (N : Nat) (sent : List (Tag × Frame)) : List Injected :=
  sent.mapIdx fun (i : Nat) (x : Tag × Frame) => s.frameAccess p (s.sched.posAhead N i) (s.sched.lapAhead N i) x.2

/-- The burst of plan `p`, begun in `s`, has sent the frames of `sent` and has come to `u`, with the interleave
counter at `counter`. -/
structure State.Sent (s u : State) (p : BurstPlan) (N : Nat) (sent : List (Tag × Frame)) (counter : Nat) : Prop where
  state : u = { s with
    path := u.path, intake := u.intake, pool := u.pool, linkTable := u.linkTable, sched := u.sched }
  path : u.path = { s.path with queue := u.path.queue, tails := u.path.tails }
  intake : u.intake = { s.intake with
    stage := if sent.isEmpty then s.intake.stage else s.intake.stage.afterFall p.link }
  pool : u.pool = { s.pool with
    entries := u.pool.entries, queues := bankPut s.pool.queues p.link (u.queuesOf p.link) }
  links : u.linkTable = { s.linkTable with
    links := bankPut s.linkTable.links p.link { s.link p.link with interleave := counter } }
  sched : u.sched = { s.sched with
    inFlight := s.sched.inFlight ++ s.sched.sentRecords N p.link sent
    producer := s.sched.posAhead N sent.length
    lap := s.sched.lapAhead N sent.length }
  moved : ∀ (i : Nat) (x : Tag × Frame), sent[i]? = some x →
    u.frame x.1 = some { x.2 with place := .inRing p.link (s.sched.posAhead N i) }
  stayed : ∀ g, g ∉ sent.map Prod.fst → u.frame g = s.frame g
  left : ∀ c, (u.queuesOf p.link).get c = ((s.queuesOf p.link).get c).filter fun g => !(sent.map Prod.fst).contains g
  accesses : u.path.queue ++ u.path.tails = s.path.queue ++ s.path.tails ++ s.sentAccesses p N sent

section Sent
variable {s u : State} {p : BurstPlan} {N c : Nat} {sent : List (Tag × Frame)}

theorem State.Sent.nil (s : State) (p : BurstPlan) (hP : s.sched.producer < N) :
    s.Sent s p N [] (s.link p.link).interleave where
  state := rfl
  path := rfl
  intake := rfl
  pool := by rw [State.queuesOf, bankPut_bankGet]
  links := by
    have hlinks := bankPut_bankGet s.linkTable.links p.link
    exact congrArg (fun l => { s.linkTable with links := l }) hlinks.symm
  sched := by simp [Scheduler.sentRecords, Scheduler.posAhead, Scheduler.lapAhead, hP, Nat.mod_eq_of_lt]
  moved := by simp
  stayed := fun _ _ => rfl
  left := by simp
  accesses := by simp [State.sentAccesses]

theorem State.Sent.with_parts (h : s.Sent u p N sent c) (a : MemoryPath) (i : Intake) (o : Pool)
    (l : LinkTable) (d : Scheduler) : { u with path := a, intake := i, pool := o, linkTable := l, sched := d } =
      { s with path := a, intake := i, pool := o, linkTable := l, sched := d } :=
  congrArg (fun v : State => { v with path := a, intake := i, pool := o, linkTable := l, sched := d }) h.state

theorem State.Sent.link (h : s.Sent u p N sent c) : u.link p.link = { s.link p.link with interleave := c } := by
  rw [State.link, h.links]
  exact bankGet_bankPut_same ..

/-- R142: the record made at the producer index moves the index and the lap flag one position on. -/
theorem Scheduler.record_ahead {d e : Scheduler} {k : Nat} (hN : d.ringSize = some N) (hP : d.producer < N)
    (hk : k < N) (carried : Carried) (he : e = { d with
      inFlight := e.inFlight, producer := d.posAhead N k, lap := d.lapAhead N k }) :
    e.record carried = { d with
      inFlight := e.inFlight ++ [⟨d.posAhead N k, carried, d.lapAhead N k, false, false⟩]
      producer := d.posAhead N (k + 1)
      lap := d.lapAhead N (k + 1) } := by
  have hproducer : e.producer = d.posAhead N k := by rw [he]
  have hlap : e.lap = d.lapAhead N k := by rw [he]
  have hring : e.ringSize.getD 0 = N := by rw [he]; simp [hN]
  rw [Scheduler.record_eq, hproducer, hlap, hring]
  have hnext : (if d.posAhead N k + 1 < N then d.posAhead N k + 1 else 0) = d.posAhead N (k + 1) := by
    unfold Scheduler.posAhead
    by_cases hw : d.producer + k < N
    · rw [Nat.mod_eq_of_lt hw]
      split
      · rw [← Nat.add_assoc, Nat.mod_eq_of_lt ‹_›]
      · rw [show d.producer + (k + 1) = N by omega, Nat.mod_self]
    · have hmod (i : Nat) (hi : N ≤ d.producer + i) (hlt : d.producer + i < 2 * N) :
          (d.producer + i) % N = d.producer + i - N := by
        rw [Nat.mod_eq_sub_mod hi, Nat.mod_eq_of_lt (by omega)]
      rw [hmod k (by omega) (by omega), hmod (k + 1) (by omega) (by omega), if_pos (by omega)]
      omega
  have hflip : (if d.posAhead N k + 1 < N then d.lapAhead N k else !d.lapAhead N k) = d.lapAhead N (k + 1) := by
    unfold Scheduler.posAhead Scheduler.lapAhead
    by_cases hw : d.producer + k < N
    · rw [Nat.mod_eq_of_lt hw, if_pos hw]
      rfl
    · rw [Nat.mod_eq_sub_mod (by omega), Nat.mod_eq_of_lt (by omega), if_neg hw, if_pos (by omega),
        if_neg (by omega)]
  rw [hnext, hflip]
  conv_lhs => rw [he]

/-- The next frame of the burst. -/
theorem State.Sent.take (h : s.Sent u p N sent c) (hN : s.sched.ringSize = some N) (hP : s.sched.producer < N)
    (hlen : sent.length < N) {g : Tag} {f : Frame} (hg : g ∉ sent.map Prod.fst) :
    s.Sent (u.takeFrame p g f) p N (sent ++ [(g, f)]) c where
  state := by
    rw [State.takeFrame_eq]
    exact h.with_parts _ _ _ _ _
  path := by
    rw [State.takeFrame_eq]
    dsimp only
    rw [MemoryPath.fill, h.path]
  intake := by
    rw [State.takeFrame_eq]
    dsimp only
    rw [h.intake]
    cases sent <;> simp
  pool := by
    have hq : (u.takeFrame p g f).queuesOf p.link = (u.unqueue p.link g).queuesOf p.link := by
      rw [State.takeFrame_eq]; exact bankGet_bankPut_same ..
    rw [hq, State.takeFrame_eq]
    dsimp only
    rw [h.pool, bankPut_bankPut]
  links := by rw [State.takeFrame_eq]; exact h.links
  sched := by
    have hs := h.sched
    rw [State.takeFrame_eq]
    refine (Scheduler.record_ahead hN hP hlen _ ?_).trans ?_
    · conv_lhs => rw [hs]
      rw [hs]
    · rw [hs]
      simp [Scheduler.sentRecords, List.mapIdx_append]
  moved := fun i x hx => by
    obtain hi | hi := Nat.lt_or_ge i sent.length
    · rw [List.getElem?_append_left hi] at hx
      have hmem : x.1 ∈ sent.map Prod.fst := List.mem_map_of_mem (List.mem_of_getElem? hx)
      rw [State.takeFrame_frame, if_neg (ne_of_mem_of_not_mem hmem hg).symm, h.moved i x hx]
    · obtain ⟨rfl, rfl⟩ : i = sent.length ∧ (g, f) = x := by
        rw [List.getElem?_append_right hi, List.getElem?_singleton] at hx
        split at hx
        · exact ⟨by omega, Option.some.inj hx⟩
        · cases hx
      rw [State.takeFrame_frame, if_pos rfl, h.sched]
  stayed := fun x hx => by
    simp only [List.map_append, List.mem_append, List.map_cons, List.map_nil, List.mem_singleton, not_or] at hx
    obtain ⟨hx, hxg⟩ := hx
    rw [State.takeFrame_frame, if_neg (Ne.symm hxg), h.stayed x hx]
  left := fun k => by
    rw [State.takeFrame_get, h.left, List.filter_filter]
    exact List.filter_congr fun x _ => by
      rw [List.map_append, List.contains_eq_mem, List.contains_eq_mem]
      by_cases hx : x = g
      · simp [hx]
      · simp [hx, bne_iff_ne.mpr hx]
  accesses := by
    have haccess : u.frameAccess p u.sched.producer u.sched.lap f =
        s.frameAccess p (s.sched.posAhead N sent.length) (s.sched.lapAhead N sent.length) f := by
      have hw : u.path.windows = s.path.windows := by rw [h.path]
      have ht : u.timing = s.timing := by rw [h.state]
      unfold State.frameAccess State.txAddress State.slotTime State.slotLength
      rw [hw, ht, h.link, h.sched]
      rfl
    have hall : (u.takeFrame p g f).path.queue ++ (u.takeFrame p g f).path.tails =
        u.path.queue ++ u.path.tails ++ [u.frameAccess p u.sched.producer u.sched.lap f] := by
      rw [State.takeFrame_eq]
      exact MemoryPath.fill_all ..
    rw [hall, h.accesses, haccess]
    simp [State.sentAccesses, List.mapIdx_append]

/-- The interleave counter is given another value. -/
theorem State.Sent.setInterleave (h : s.Sent u p N sent c) (k : Nat) :
    s.Sent (u.setLink p.link { u.link p.link with interleave := k }) p N sent k where
  state := h.with_parts _ _ _ _ _
  path := h.path
  intake := h.intake
  pool := h.pool
  links := by
    rw [State.setLink, h.link]
    dsimp only
    rw [h.links, bankPut_bankPut]
  sched := h.sched
  moved := h.moved
  stayed := h.stayed
  left := h.left
  accesses := h.accesses

/-- The frames of `more`, taken after those of `sent`. -/
theorem State.Sent.takeFrames (hN : s.sched.ringSize = some N) (hP : s.sched.producer < N)
    (more : List (Tag × Frame)) : ∀ (u : State) (sent : List (Tag × Frame)), s.Sent u p N sent c →
    sent.length + more.length ≤ N → ((sent ++ more).map Prod.fst).Nodup →
    s.Sent (u.takeFrames p more) p N (sent ++ more) c := by
  induction more with
  | nil => intro u sent h _ _; rwa [List.append_nil]
  | cons x more ih =>
    intro u sent h hlen hd
    rw [List.length_cons] at hlen
    have hx : x.1 ∉ sent.map Prod.fst := fun hmem => by
      rw [List.map_append, List.map_cons] at hd
      exact (List.nodup_append.mp hd).2.2 _ hmem _ List.mem_cons_self rfl
    rw [List.append_cons] at hd ⊢
    exact ih _ _ (h.take hN hP (by omega) hx) (by simp; omega) hd

end Sent

end Sys2Proof.Machine
end

section
/-!
PROOF. The order in which a burst takes its frames (R138, R139): the classes from their heads, then the shared classes by
the interleave counter.
-/

namespace Sys2Proof.Machine

section Burst
variable {s : State} {p : BurstPlan} {g h : Tag} {f fh : Frame} {left : Nat}

/-- The plan of the burst of slot `j` for link `n` with a budget. -/
def State.plan (s : State) (j : SlotIx) (n : LinkIx) (budget : Nat) : BurstPlan := ⟨j.val, n, (s.link n).rate, budget⟩

theorem State.fittingHead_of_fits {ts : List Tag} (hf : s.frame g = some f) (hfit : s.fits p f left = true) :
    s.fittingHead p left (g :: ts) = some (g, f) := by simp [State.fittingHead, hf, hfit]

/-- R139, phase 1 ends at the first head that does not fit. -/
theorem State.takeClass_of_not_fits {ts : List Tag} (hf : s.frame g = some f) (hfit : s.fits p f left = false) :
    State.takeClass p (g :: ts) (s, left) = (s, left) := by
  simp [State.takeClass, hf, hfit]

/-- The queue that phase 2 looks at first and the one it looks at next (R139). -/
def State.sharedOrder (s : State) (n : LinkIx) : List (List Tag) :=
  if (s.link n).interleave = 3 then [(s.queuesOf n).background, (s.queuesOf n).bulk]
  else [(s.queuesOf n).bulk, (s.queuesOf n).background]

/-- R139, phase 2: the first head that fits is taken. -/
theorem State.takeShared_of_some {fuel : Nat}
    (hs : (s.sharedOrder p.link).findSome? (s.fittingHead p left) = some (g, f)) :
    State.takeShared p (fuel + 1) s left =
      State.takeShared p fuel (s.takeInterleaved p g f) (left - airtime p.rate f.length) := by
  rw [State.takeShared]
  unfold State.sharedOrder at hs
  rw [hs]

/-- One frame is all the shared queues hold. -/
theorem State.sharedOrder_single {n : LinkIx}
    (hq : (s.queuesOf n).bulk = [g] ∧ (s.queuesOf n).background = [] ∨
      (s.queuesOf n).bulk = [] ∧ (s.queuesOf n).background = [g])
    (hf : s.frame g = some f) (hfit : s.fits p f left = true) :
    (s.sharedOrder n).findSome? (s.fittingHead p left) = some (g, f) := by
  have hhead := State.fittingHead_of_fits (ts := []) hf hfit
  have hnil : s.fittingHead p left [] = none := rfl
  unfold State.sharedOrder
  obtain ⟨hb, hk⟩ | ⟨hb, hk⟩ := hq <;> split_ifs <;> simp [hb, hk, hhead, hnil]

theorem ClassQueues.of_all_singleton {q : ClassQueues} (h : q.all = [g]) :
    q = ⟨[g], [], [], []⟩ ∨ q = ⟨[], [g], [], []⟩ ∨ q = ⟨[], [], [g], []⟩ ∨ q = ⟨[], [], [], [g]⟩ := by
  obtain ⟨x, i, b, k⟩ := q
  simp only [ClassQueues.all, List.append_eq_singleton_iff, List.append_eq_nil_iff] at h
  obtain ⟨⟨⟨rfl, rfl⟩, rfl⟩, rfl⟩ | ⟨⟨⟨rfl, rfl⟩, rfl⟩ | ⟨⟨rfl, rfl⟩ | ⟨rfl, rfl⟩, rfl⟩, rfl⟩ := h <;> simp

/-- A burst is phase 1 over the EXPEDITED and the INTERACTIVE queue and then phase 2 (R139). -/
theorem State.burst_eq {j : SlotIx} {n : LinkIx} {budget : Nat} {q : ClassQueues} (hq : s.queuesOf n = q)
    (hb : s.burstBudget j.val n = budget) : s.burst j.val n =
      State.takeShared (s.plan j n budget) (q.bulk.length + q.background.length)
        (State.takeClass (s.plan j n budget) q.interactive
          (State.takeClass (s.plan j n budget) q.expedited (s, budget))).1
        (State.takeClass (s.plan j n budget) q.interactive
          (State.takeClass (s.plan j n budget) q.expedited (s, budget))).2 := by
  subst hq hb
  rfl

/-- The burst of a link with one frame queued (R138, R139). -/
theorem State.burst_single {j : SlotIx} {n : LinkIx} {budget : Nat} (hq : (s.queuesOf n).all = [g])
    (hf : s.frame g = some f) (hb : s.burstBudget j.val n = budget)
    (hair : airtime (s.link n).rate f.length ≤ budget) (hr : s.ringFree = true) :
    s.burst j.val n = if (s.queuesOf n).bulk = [] ∧ (s.queuesOf n).background = []
      then s.takeFrame (s.plan j n budget) g f else s.takeInterleaved (s.plan j n budget) g f := by
  have hfit : s.fits (s.plan j n budget) f budget = true := Bool.and_eq_true_iff.mpr ⟨decide_eq_true hair, hr⟩
  have hshared (hq : (s.queuesOf n).bulk = [g] ∧ (s.queuesOf n).background = [] ∨
      (s.queuesOf n).bulk = [] ∧ (s.queuesOf n).background = [g]) :
      State.takeShared (s.plan j n budget) 1 s budget = s.takeInterleaved (s.plan j n budget) g f :=
    State.takeShared_of_some (State.sharedOrder_single hq hf hfit)
  obtain hq | hq | hq | hq := ClassQueues.of_all_singleton hq <;> rw [State.burst_eq hq hb, hq]
  · simp [hf, hfit, State.takeClass, State.takeShared]
  · simp [hf, hfit, State.takeClass, State.takeShared]
  · simpa [State.takeClass] using hshared (by simp [hq])
  · simpa [State.takeClass] using hshared (by simp [hq])

/-- Phase 1 takes the frames of the two queues, which all fit, and nothing is left for phase 2. -/
theorem State.burst_classes {j : SlotIx} {n : LinkIx} {budget : Nat} {exp int : List (Tag × Frame)}
    (hq : s.queuesOf n = ⟨exp.map Prod.fst, int.map Prod.fst, [], []⟩) (hb : s.burstBudget j.val n = budget)
    (hd : ((exp ++ int).map Prod.fst).Nodup) (hf : ∀ x ∈ exp ++ int, s.frame x.1 = some x.2)
    (hring : s.sched.inFlight.length + (exp ++ int).length ≤ s.sched.ringSize.getD 0)
    (hair : sentAirtime (s.link n).rate (exp ++ int) ≤ budget) :
    s.burst j.val n = s.takeFrames (s.plan j n budget) (exp ++ int) := by
  have hsum : sentAirtime (s.link n).rate (exp ++ int) =
      sentAirtime (s.link n).rate exp + sentAirtime (s.link n).rate int := by simp [sentAirtime]
  have hlen : (exp ++ int).length = exp.length + int.length := List.length_append
  have hexp (rest : List Tag) := State.takeClass_append (p := s.plan j n budget) exp rest s budget
    (hd.sublist ((List.sublist_append_left exp int).map _)) (fun x hx => hf x (List.mem_append_left _ hx))
    (by omega) (show sentAirtime (s.link n).rate exp ≤ budget by omega)
  have hboth := State.takeClass_append (p := s.plan j n budget) (exp ++ int) [] s budget hd hf hring hair
  rw [List.map_append, List.append_nil, hexp] at hboth
  have hfirst := hexp []
  rw [List.append_nil] at hfirst
  rw [State.burst_eq hq hb]
  dsimp only
  rw [hfirst]
  simp only [State.takeClass, hboth]
  rfl

/-- The first frame fits and the second no longer does. -/
theorem State.burst_kept {j : SlotIx} {n : LinkIx} {budget : Nat} (hq : s.queuesOf n = ⟨[g], [h], [], []⟩)
    (hb : s.burstBudget j.val n = budget) (hne : g ≠ h) (hf : s.frame g = some f) (hfh : s.frame h = some fh)
    (hr : s.ringFree = true) (hair : airtime (s.link n).rate f.length ≤ budget)
    (hover : budget < airtime (s.link n).rate f.length + airtime (s.link n).rate fh.length) :
    s.burst j.val n = s.takeFrame (s.plan j n budget) g f := by
  have hfit : s.fits (s.plan j n budget) f budget = true := Bool.and_eq_true_iff.mpr ⟨decide_eq_true hair, hr⟩
  have hfh' : (s.takeFrame (s.plan j n budget) g f).frame h = some fh := by
    rw [State.takeFrame_frame, if_neg hne, hfh]
  have hnot : ¬ airtime (s.link n).rate fh.length ≤ budget - airtime (s.link n).rate f.length := by omega
  have hno : (s.takeFrame (s.plan j n budget) g f).fits (s.plan j n budget) fh
      (budget - airtime (s.plan j n budget).rate f.length) = false :=
    Bool.and_eq_false_imp.mpr fun hle => absurd (of_decide_eq_true hle) hnot
  rw [State.burst_eq hq hb]
  simp [State.takeClass, State.takeShared, hf, hfit, hfh', hno]

/-- The two shared queues hold one frame each and both fit: the one taken first leaves the other alone. -/
theorem State.takeShared_two {x y : Tag} {fx fy : Frame}
    (hq : (s.queuesOf p.link).bulk = [x] ∧ (s.queuesOf p.link).background = [y] ∨
      (s.queuesOf p.link).bulk = [y] ∧ (s.queuesOf p.link).background = [x])
    (hfirst : (s.sharedOrder p.link).findSome? (s.fittingHead p left) = some (x, fx)) (hne : x ≠ y)
    (hfy : s.frame y = some fy) (hring : s.sched.inFlight.length + 2 ≤ s.sched.ringSize.getD 0)
    (hair : airtime p.rate fx.length + airtime p.rate fy.length ≤ left) :
    State.takeShared p 2 s left = (s.takeInterleaved p x fx).takeInterleaved p y fy := by
  have hget (c : TrafficClass) : ((s.takeInterleaved p x fx).queuesOf p.link).get c =
      ((s.queuesOf p.link).get c).filter fun u => u != x := State.takeFrame_get c
  have hqueues : ((s.takeInterleaved p x fx).queuesOf p.link).bulk = [y] ∧
        ((s.takeInterleaved p x fx).queuesOf p.link).background = [] ∨
      ((s.takeInterleaved p x fx).queuesOf p.link).bulk = [] ∧
        ((s.takeInterleaved p x fx).queuesOf p.link).background = [y] := by
    have hbulk := hget .bulk
    have hback := hget .background
    simp only [ClassQueues.get] at hbulk hback
    rw [hbulk, hback]
    obtain ⟨hb, hk⟩ | ⟨hb, hk⟩ := hq <;> simp [hb, hk, hne.symm]
  have hframe : (s.takeInterleaved p x fx).frame y = some fy :=
    (State.takeFrame_frame y).trans ((if_neg hne).trans hfy)
  have hfit : (s.takeInterleaved p x fx).fits p fy (left - airtime p.rate fx.length) = true := by
    have hflight : (s.takeInterleaved p x fx).sched.inFlight.length = s.sched.inFlight.length + 1 :=
      State.takeFrame_inFlight
    have hsize : (s.takeInterleaved p x fx).sched.ringSize = s.sched.ringSize := State.takeFrame_ringSize
    rw [State.fits_iff, hflight, hsize]
    omega
  rw [State.takeShared_of_some hfirst,
    State.takeShared_of_some (State.sharedOrder_single hqueues hframe hfit)]
  rfl

/-- BULK and BACKGROUND with one frame each: the counter says which goes first (R139). -/
theorem State.burst_shared {j : SlotIx} {n : LinkIx} {budget : Nat} {b k : Tag} {fb fk : Frame}
    (hq : s.queuesOf n = ⟨[], [], [b], [k]⟩) (hb : s.burstBudget j.val n = budget) (hne : b ≠ k)
    (hfb : s.frame b = some fb) (hfk : s.frame k = some fk)
    (hring : s.sched.inFlight.length + 2 ≤ s.sched.ringSize.getD 0)
    (hair : airtime (s.link n).rate fb.length + airtime (s.link n).rate fk.length ≤ budget) :
    s.burst j.val n = if (s.link n).interleave = 3
      then (s.takeInterleaved (s.plan j n budget) k fk).takeInterleaved (s.plan j n budget) b fb
      else (s.takeInterleaved (s.plan j n budget) b fb).takeInterleaved (s.plan j n budget) k fk := by
  have hfits (x : Frame) (hx : airtime (s.link n).rate x.length ≤ budget) :
      s.fits (s.plan j n budget) x budget = true :=
    State.fits_iff.mpr ⟨hx, by omega⟩
  have hheadb := State.fittingHead_of_fits (ts := []) hfb (hfits fb (by omega))
  have hheadk := State.fittingHead_of_fits (ts := []) hfk (hfits fk (by omega))
  have hburst : s.burst j.val n = State.takeShared (s.plan j n budget) 2 s budget := State.burst_eq hq hb
  have hlink : (s.plan j n budget).link = n := rfl
  rw [hburst]
  split_ifs with hc
  · have horder : s.sharedOrder n = [[k], [b]] := by simp [State.sharedOrder, hc, hq]
    refine State.takeShared_two (.inr (by simp [hlink, hq])) ?_ hne.symm hfb hring (by rw [Nat.add_comm]; exact hair)
    rw [hlink, horder, List.findSome?_cons, hheadk]
  · have horder : s.sharedOrder n = [[b], [k]] := by simp [State.sharedOrder, hc, hq]
    refine State.takeShared_two (.inl (by simp [hlink, hq])) ?_ hne hfk hring hair
    rw [hlink, horder, List.findSome?_cons, hheadb]

/-- A frame that fits the slot's own budget needs no slot after it (R138). -/
theorem State.burstBudget_of_fits {j : SlotIx} {n : LinkIx} {ts : List Tag} (hq : (s.queuesOf n).all = g :: ts)
    (hf : s.frame g = some f) (hair : airtime (s.link n).rate f.length ≤ s.slotBudget) :
    s.burstBudget j.val n = s.slotBudget := by
  have hext : s.extends j.val n = false := by
    unfold State.extends
    rw [hq]
    cases index? 64 (j.val + 1) with
    | none => rfl
    | some next => simp [State.frameAirtime, hf, Nat.not_lt.mpr hair]
  simp [State.burstBudget, hext]

/-- R138: the IDLE slot after it extends a burst whose first frame needs it. -/
theorem State.burstBudget_of_extends {j k : SlotIx} {n : LinkIx} {ts : List Tag}
    (hq : (s.queuesOf n).all = g :: ts) (hf : s.frame g = some f)
    (hover : s.slotBudget < airtime (s.link n).rate f.length)
    (hair : airtime (s.link n).rate f.length ≤ s.slotBudget + s.slotLength)
    (hk : k.val = j.val + 1) (hidle : bankGet s.sched.activePlan.slots k = .idle) :
    s.burstBudget j.val n = s.slotBudget + s.slotLength := by
  have hext : s.extends j.val n = true := by
    have hix : index? 64 (j.val + 1) = some k := by simp [index?, ← hk]
    unfold State.extends
    rw [hq, hix]
    simp [State.frameAirtime, hf, hidle, hover, hair]
  simp [State.burstBudget, hext]

end Burst

end Sys2Proof.Machine
end

section
/-!
PROOF. TX and SHARED slots (R135, R136, R138 to R140, R13, R14): the row's next state from the slot's action.
-/

namespace Sys2Proof.Machine

section Slot
variable {s : State} {j : SlotIx} {n : LinkIx}

/-- The row of a slot whose action makes nothing due. -/
theorem exec_slotStart_of_action {t : State} (hq : s.quiet = true) (hr : s.path.engine = .running)
    (hj : s.timing.nextSlot = j.val) (ht : s.slotTime j.val < s.superframeEnd)
    (h : (s.enterSlot j).slotAction j = (t, [])) (hw : t.work = []) : exec .slotStart s = .next t := by
  rw [exec_slotStart_of_due hq hj (by simp [hr]) ht, h, List.map_nil, ← hw]

theorem State.enterSlot_slotAction (hr : s.path.engine = .running) : (s.enterSlot j).slotAction j =
    match bankGet s.sched.activePlan.slots j with
      | .beacon => (s.enterSlot j).beaconSlot j.val
      | .shared => ((s.enterSlot j).sharedSlot j.val, [])
      | .tx n => ((s.enterSlot j).txSlot j.val n, [])
      | .idle => (s.enterSlot j, []) :=
  State.slotAction_of_running j ((s.enterSlot_isRunning j).trans (State.isRunning_of_running hr))

theorem State.enterSlot_tx (hr : s.path.engine = .running) (hs : bankGet s.sched.activePlan.slots j = .tx n) :
    (s.enterSlot j).slotAction j = ((s.enterSlot j).txSlot j.val n, []) := by
  rw [State.enterSlot_slotAction hr, hs]

theorem State.enterSlot_shared (hr : s.path.engine = .running) (hs : bankGet s.sched.activePlan.slots j = .shared) :
    (s.enterSlot j).slotAction j = ((s.enterSlot j).sharedSlot j.val, []) := by
  rw [State.enterSlot_slotAction hr, hs]

theorem State.enterSlot_frameAccess (p : BurstPlan) (pos : Nat) (lap : Bool) (f : Frame) :
    (s.enterSlot j).frameAccess p pos lap f = s.frameAccess p pos lap f := by
  unfold State.frameAccess State.txAddress
  rw [State.enterSlot_windows]
  rfl

/-! ### One frame -/

theorem State.unqueue_single {g : Tag} (h : (s.queuesOf n).all = [g]) :
    (s.unqueue n g).queuesOf n = ⟨[], [], [], []⟩ :=
  ClassQueues.ext_get fun c => by
    rw [State.unqueue_get, if_pos rfl]
    have hnil : (⟨[], [], [], []⟩ : ClassQueues).get c = [] := by cases c <;> rfl
    rw [hnil, List.filter_eq_nil_iff]
    intro x hx
    have hmem : x ∈ (s.queuesOf n).all := ClassQueues.mem_all.mpr ⟨c, hx⟩
    rw [h, List.mem_singleton] at hmem
    simp [hmem]

/-- A burst of one frame, with its counter written out. -/
theorem State.burst_one {g : Tag} {f : Frame} {budget : Nat} (hq : (s.queuesOf n).all = [g])
    (hf : s.frame g = some f) (hb : s.burstBudget j.val n = budget)
    (hair : airtime (s.link n).rate f.length ≤ budget) (hr : s.ringFree = true) :
    s.burst j.val n = { s.takeFrame (s.plan j n budget) g f with
      linkTable := { s.linkTable with
        links := bankPut s.linkTable.links n { s.link n with
          interleave :=
            if (s.queuesOf n).bulk = [] ∧ (s.queuesOf n).background = [] then (s.link n).interleave
            else ((s.link n).interleave + 1) % 4 } } } := by
  have htable : (s.takeFrame (s.plan j n budget) g f).linkTable = s.linkTable := by rw [State.takeFrame_eq]
  rw [State.burst_single hq hf hb hair hr]
  split_ifs
  · have hlinks := bankPut_bankGet s.linkTable.links n
    have hsame : { s.link n with interleave := (s.link n).interleave } = s.link n := rfl
    rw [hsame, State.link, hlinks, ← htable]
  · have hlink : (s.takeFrame (s.plan j n budget) g f).link n = s.link n :=
      congrArg (fun t : LinkTable => bankGet t.links n) htable
    unfold State.takeInterleaved
    change (s.takeFrame (s.plan j n budget) g f).setLink n _ = _
    rw [State.setLink, show (s.plan j n budget).link = n from rfl, hlink, htable]

/-! ### Own frames -/

/-- What an own frame leaves behind (R11, R142), with its accesses behind those that wait. -/
structure State.OwnSent (s t : State) (xs : List Injected) (b : BufIx) (c : Carried) : Prop where
  state : t = { s with
    path := { s.path with queue := t.path.queue, tails := t.path.tails }
    sched := { s.sched with
      inFlight := s.sched.inFlight ++ [⟨s.sched.producer, c, s.sched.lap, false, false⟩]
      producer := if s.sched.producer + 1 < s.sched.ringSize.getD 0 then s.sched.producer + 1 else 0
      lap := if s.sched.producer + 1 < s.sched.ringSize.getD 0 then s.sched.lap else !s.sched.lap
      buffers := bankPut s.sched.buffers b (some s.sched.producer) } }
  accesses : t.path.queue ++ t.path.tails = s.path.queue ++ s.path.tails ++ xs

theorem State.ownSent_sendOwn (s : State) (j rate attempts : Nat) (b : BufIx) (frame : List Byte) (dest : NodeId)
    (c : Carried) : s.OwnSent (s.sendOwn j rate attempts b frame dest c)
      (s.ownAccesses j rate attempts b frame dest) b c := by
  rw [State.sendOwn_eq]
  constructor
  · rw [Scheduler.record_eq]
    rfl
  · exact MemoryPath.fill_all ..

/-- A TX slot of a BLOCKED link with its probe buffer free sends the probe (R135, R13). -/
theorem State.txSlot_probe (hb : (s.link n).isBlocked = true) (hf : s.bufferFree (probeBuffer n) = true)
    (hr : s.ringFree = true) (i : Nat) : s.txSlot i n = s.sendProbe i n := by
  have hcan : s.canProbe n = true := Bool.and_eq_true_iff.mpr ⟨hf, hr⟩
  rw [State.txSlot_of_blocked i hb, if_pos hcan]

theorem State.probe_ownSent (s : State) (j : SlotIx) (n : LinkIx) :
    (s.enterSlot j).OwnSent ((s.enterSlot j).sendProbe j.val n)
      (s.ownAccesses j.val (s.link n).floor (s.link n).attempts (probeBuffer n)
        (ownHeader 3 s.path.ownId (s.link n).node 0) (s.link n).node)
      (probeBuffer n) (.probe (probeBuffer n) n (s.link n).node) := by
  rw [← State.enterSlot_ownAccesses s j, ← State.enterSlot_ownId s j]
  exact State.ownSent_sendOwn ..

theorem State.reply_ownSent (s : State) (j : SlotIx) (n : LinkIx) (node : NodeId) (b : BufIx) :
    (s.enterSlot j).OwnSent ((s.enterSlot j).sendReply j.val n node b)
      (s.ownAccesses j.val (s.link n).floor (s.link n).attempts b (ownHeader 4 s.path.ownId node 0) node)
      b (.reply b n node) := by
  rw [← State.enterSlot_ownAccesses s j, ← State.enterSlot_ownId s j]
  exact State.ownSent_sendOwn ..

/-! ### The SHARED slot -/

/-- R136, R14: the oldest pending reply whose node a link holds is served from the lowest free reply buffer. -/
theorem State.sharedSlot_reply {node : NodeId} {replies : List NodeId} {b : BufIx} (i : Nat)
    (hp : s.linkTable.pendingReplies = node :: replies) (hn : s.linkOf node = some n) (hb : 18 ≤ b.val)
    (hf : s.bufferFree b = true) (hfirst : ∀ x : BufIx, 18 ≤ x.val → x < b → s.bufferFree x = false)
    (hr : s.ringFree = true) : s.sharedSlot i = (s.sendReply i n node b).popReply := by
  have hbuf : s.freeReplyBuffer = some b := by
    refine bankFind_of_first (by simp only [hb, decide_true, Bool.true_and]; exact hf) fun x hx => ?_
    by_cases h18 : 18 ≤ x.val
    · simp only [h18, decide_true, Bool.true_and]
      exact hfirst x h18 hx
    · simp [h18]
  have hserve : s.serveReply i = ((s.sendReply i n node b).popReply, true) := by
    simp [State.serveReply, hp, hn, hbuf, hr]
  simp [State.sharedSlot, hserve]

/-- R136: a pending reply whose node no link holds is removed, and the slot goes to a probe. -/
theorem State.serveReply_of_none {replies : List NodeId} (i : Nat)
    (h : s.linkTable.pendingReplies = [] ∧ replies = [] ∨
      ∃ gone, s.linkTable.pendingReplies = gone :: replies ∧ s.linkOf gone = none) :
    s.serveReply i = ({ s with linkTable := { s.linkTable with pendingReplies := replies } }, false) := by
  obtain ⟨hp, rfl⟩ | ⟨gone, hp, hn⟩ := h
  · have hsame : { s with linkTable := { s.linkTable with pendingReplies := [] } } = s := by rw [← hp]
    simp [State.serveReply, hp, hsame]
  · simp [State.serveReply, hp, hn, State.popReply]

/-- The link asks for a probe that can be written (R136). -/
def State.asksProbe (s : State) (m : LinkIx) : Prop :=
  (∃ timer, (s.link m).state = .probing timer) ∧ (s.link m).probeSent = false ∧
    s.bufferFree (probeBuffer m) = true

/-- R136: the first link after the rotation pointer that asks for a probe. -/
theorem State.probeCandidate_of_first {i : Nat} (hr : s.ringFree = true) (hi : i < 16)
    (hn : n.val = (s.sched.probePointer.val + 1 + i) % 16)
    (hfirst : ∀ m : LinkIx, (∃ x, x < 16 ∧ m.val = (s.sched.probePointer.val + 1 + x) % 16 ∧ x ≤ i) →
      (s.asksProbe m ↔ m = n)) : s.probeCandidate = some n := by
  have htest (m : LinkIx) : ((match (s.link m).state with
      | .probing _ => true
      | _ => false) && !(s.link m).probeSent && s.canProbe m) = true ↔ s.asksProbe m := by
    unfold State.asksProbe State.canProbe
    rw [hr]
    cases (s.link m).state <;> simp
  have hlink (x : Nat) (hx : x < 16) : (Fin.ofNat 16 (s.sched.probePointer.val + 1 + x) : LinkIx).val =
      (s.sched.probePointer.val + 1 + x) % 16 := rfl
  refine List.find?_eq_some_iff_getElem.mpr ⟨(htest n).mpr ((hfirst n ⟨i, hi, hn, le_rfl⟩).mpr rfl), i, ?_, ?_,
    fun x hx => ?_⟩
  · simpa [Scheduler.probeOrder] using hi
  · simp only [Scheduler.probeOrder, List.getElem_map, List.getElem_range]
    exact Fin.ext hn.symm
  · simp only [Scheduler.probeOrder, List.getElem_map, List.getElem_range, Bool.not_eq_true', ← Bool.not_eq_true]
    refine mt (htest _).mp fun hask => ?_
    have heq := (hfirst _ ⟨x, by omega, hlink x (by omega), by omega⟩).mp hask
    have hval := congrArg Fin.val heq
    rw [hlink x (by omega), hn] at hval
    omega

/-- The probe of link `n` is sent and the rotation pointer stands at it (R136). -/
def State.probed (n : LinkIx) (u : State) : State :=
  { u.setLink n { u.link n with probeSent := true } with sched := { u.sched with probePointer := n } }

theorem State.sharedSlot_probe {replies : List NodeId} {t : State} (i : Nat)
    (h : s.linkTable.pendingReplies = [] ∧ replies = [] ∨
      ∃ gone, s.linkTable.pendingReplies = gone :: replies ∧ s.linkOf gone = none)
    (ht : t = { s with linkTable := { s.linkTable with pendingReplies := replies } })
    (hc : t.probeCandidate = some n) : s.sharedSlot i = State.probed n (t.sendProbe i n) := by
  subst ht
  simp only [State.sharedSlot, State.serveReply_of_none i h, hc]
  rfl

end Slot

end Sys2Proof.Machine
end

section
/-!
PROOF. The slots that send, as the statement has them.
-/

namespace Sys2Proof.Machine

/-- R139: a frame of phase 2 raises the counter. -/
theorem State.Sent.takeInterleaved {s u : State} {p : BurstPlan} {N c : Nat} {sent : List (Tag × Frame)}
    (h : s.Sent u p N sent c) (hN : s.sched.ringSize = some N) (hP : s.sched.producer < N) (hlen : sent.length < N)
    {g : Tag} {f : Frame} (hg : g ∉ sent.map Prod.fst) :
    s.Sent (u.takeInterleaved p g f) p N (sent ++ [(g, f)]) ((c + 1) % 4) := by
  have ht := h.take (f := f) hN hP hlen hg
  have hc : ((u.takeFrame p g f).link p.link).interleave = c := by rw [ht.link]
  rw [← hc]
  exact ht.setInterleave _

section Clauses
variable {s : State} {j : SlotIx} {n : LinkIx}

/-- One frame queued that fits the burst's budget. -/
theorem exec_slotStart_one {g : Tag} {f : Frame} {budget : Nat} (hq : s.quiet = true) (hr : s.path.engine = .running)
    (hj : s.timing.nextSlot = j.val) (ht : s.slotTime j.val < s.superframeEnd) (hring : s.ringFree = true)
    (hs : bankGet s.sched.activePlan.slots j = .tx n)
    (hst : (s.link n).state = .active ∨ (s.link n).state = .draining) (hall : (s.queuesOf n).all = [g])
    (hf : s.frame g = some f) (hb : s.burstBudget j.val n = budget)
    (hair : airtime (s.link n).rate f.length ≤ budget) :
    exec .slotStart s = .next { s.enterSlot j with
      path := (s.enterSlot j).path.fill ((s.enterSlot j).path.queue ++ (s.enterSlot j).path.tails ++
        [s.frameAccess (s.plan j n budget) s.sched.producer s.sched.lap f])
      intake := { s.intake with stage := s.intake.stage.afterFall n }
      pool := { s.pool with
        entries := bankPut s.pool.entries g (some { f with place := .inRing n s.sched.producer })
        queues := bankPut s.pool.queues n ⟨[], [], [], []⟩ }
      linkTable := { s.linkTable with
        links := bankPut s.linkTable.links n { s.link n with
          interleave :=
            if (s.queuesOf n).bulk = [] ∧ (s.queuesOf n).background = [] then (s.link n).interleave
            else ((s.link n).interleave + 1) % 4 } }
      sched := s.sched.record (.data g n) } := by
  have hw : (s.enterSlot j).work = [] := (State.quiet_iff.mp hq).1
  have hburst := State.burst_one (s := s.enterSlot j) (j := j) hall hf hb hair hring
  rw [State.takeFrame_eq, State.enterSlot_frameAccess] at hburst
  have hunqueue := State.unqueue_single (s := s.enterSlot j) hall
  have haction : (s.enterSlot j).slotAction j = ((s.enterSlot j).burst j.val n, []) := by
    rw [State.enterSlot_tx hr hs, State.txSlot_of_carries (s := s.enterSlot j) j.val hst]
  have hexec := exec_slotStart_of_action hq hr hj ht haction (by rw [hburst]; exact hw)
  rw [hexec, hburst, ← hunqueue]
  rfl

/-- A burst that has sent its frames by the slot's end. -/
theorem exec_slotStart_sent {u : State} {p : BurstPlan} {N c : Nat} {sent : List (Tag × Frame)} {left : ClassQueues}
    (hq : s.quiet = true) (hr : s.path.engine = .running)
    (hj : s.timing.nextSlot = j.val) (ht : s.slotTime j.val < s.superframeEnd)
    (hs : bankGet s.sched.activePlan.slots j = .tx n)
    (hst : (s.link n).state = .active ∨ (s.link n).state = .draining) (hne : sent ≠ [])
    (hp : p.link = n) (hu : (s.enterSlot j).burst j.val n = u) (h : (s.enterSlot j).Sent u p N sent c)
    (hleft : ∀ k, left.get k = ((s.queuesOf n).get k).filter fun g => !(sent.map Prod.fst).contains g) :
    exec .slotStart s = .next u ∧
    u = { s.enterSlot j with
      path := { (s.enterSlot j).path with queue := u.path.queue, tails := u.path.tails }
      intake := { s.intake with stage := s.intake.stage.afterFall n }
      pool := { s.pool with entries := u.pool.entries, queues := bankPut s.pool.queues n left }
      linkTable := { s.linkTable with
        links := bankPut s.linkTable.links n { s.link n with interleave := c } }
      sched := { s.sched with
        inFlight := s.sched.inFlight ++ s.sched.sentRecords N n sent
        producer := s.sched.posAhead N sent.length
        lap := s.sched.lapAhead N sent.length } } := by
  subst hp
  have hw : u.work = [] := by rw [h.state]; exact (State.quiet_iff.mp hq).1
  have haction : (s.enterSlot j).slotAction j = (u, []) := by
    rw [State.enterSlot_tx hr hs, State.txSlot_of_carries (s := s.enterSlot j) j.val hst, hu]
  refine ⟨exec_slotStart_of_action hq hr hj ht haction hw, ?_⟩
  have hqueues : u.queuesOf p.link = left := ClassQueues.ext_get fun k => (h.left k).trans (hleft k).symm
  have hfall : sent.isEmpty = false := by simpa [List.isEmpty_eq_false_iff] using hne
  have hintake := h.intake
  have hpool := h.pool
  rw [hfall] at hintake
  rw [hqueues] at hpool
  conv_lhs => rw [h.state, h.path, hintake, hpool, h.links, h.sched]
  rfl

/-- The three bursts of several frames: the frames sent, the frame kept, and the counter. -/
theorem State.sent_burst {N counter : Nat} {sent kept : List (Tag × Frame)} {left : ClassQueues} (hok : s.PoolOk)
    (hN : s.sched.ringSize = some N) (hP : s.sched.producer < N)
    (hlen : s.sched.inFlight.length + sent.length ≤ N)
    (hf : ∀ x : Tag × Frame, x ∈ sent ++ kept → s.frame x.1 = some x.2)
    (hair : sentAirtime (s.link n).rate sent ≤ s.slotBudget)
    (hcase : kept = [] ∧ counter = (s.link n).interleave ∧ left = ⟨[], [], [], []⟩ ∧ sent ≠ [] ∧
          (∃ i, s.queuesOf n = ⟨(sent.take i).map Prod.fst, (sent.drop i).map Prod.fst, [], []⟩) ∨
        (∃ g f h fh, s.queuesOf n = ⟨[g], [h], [], []⟩ ∧ sent = [(g, f)] ∧ kept = [(h, fh)] ∧
          counter = (s.link n).interleave ∧ left = ⟨[], [h], [], []⟩ ∧
          s.slotBudget < airtime (s.link n).rate f.length + airtime (s.link n).rate fh.length) ∨
        (∃ g f h fh, s.queuesOf n = ⟨[], [], [g], [h]⟩ ∧ kept = [] ∧
          sent = (if (s.link n).interleave = 3 then [(h, fh), (g, f)] else [(g, f), (h, fh)]) ∧
          counter = ((s.link n).interleave + 2) % 4 ∧ left = ⟨[], [], [], []⟩)) :
    sent ≠ [] ∧ s.Sent (s.burst j.val n) (s.plan j n s.slotBudget) N sent counter ∧
      ∀ k, left.get k = ((s.queuesOf n).get k).filter fun g => !(sent.map Prod.fst).contains g := by
  have hd := hok.nodup_all n
  have hnil := State.Sent.nil s (s.plan j n s.slotBudget) hP
  obtain ⟨rfl, rfl, rfl, hne, i, hqueues⟩ | ⟨g, f, h, fh, hqueues, rfl, rfl, rfl, rfl, hover⟩ |
    ⟨g, f, h, fh, hqueues, rfl, hsent, rfl, rfl⟩ := hcase
  · obtain ⟨x, rest, rfl⟩ := List.exists_cons_of_ne_nil hne
    have hall : (s.queuesOf n).all = ((x :: rest).map Prod.fst) := by
      simp [ClassQueues.all, hqueues, List.take_append_drop]
    rw [hall] at hd
    rw [List.append_nil] at hf
    have hfirst : airtime (s.link n).rate x.2.length ≤ s.slotBudget := by
      simp only [sentAirtime, List.map_cons, List.sum_cons] at hair
      omega
    have hb := State.burstBudget_of_fits (j := j) hall (hf x List.mem_cons_self) hfirst
    have hsplit := List.take_append_drop i (x :: rest)
    have hburst := State.burst_classes hqueues hb (hsplit.symm ▸ hd) (hsplit.symm ▸ hf)
      (by rw [hsplit, hN]; exact hlen) (hsplit.symm ▸ hair)
    rw [hsplit] at hburst
    rw [hburst]
    refine ⟨hne, State.Sent.takeFrames hN hP (x :: rest) s [] hnil (by rw [List.length_nil]; omega) hd, fun k => ?_⟩
    have hgone : ((s.queuesOf n).get k).filter (fun g => !((x :: rest).map Prod.fst).contains g) = [] := by
      refine List.filter_eq_nil_iff.mpr fun g hg => ?_
      have hmem : g ∈ (s.queuesOf n).all := ClassQueues.mem_all.mpr ⟨k, hg⟩
      rw [hall] at hmem
      rw [List.contains_iff_mem.mpr hmem]
      exact Bool.false_ne_true
    rw [hgone]
    cases k <;> rfl
  · have hgh : g ≠ h := by simpa [ClassQueues.all, hqueues] using hd
    have hg : s.frame g = some f := hf (g, f) (by simp)
    have hh : s.frame h = some fh := hf (h, fh) (by simp)
    have hfirst : airtime (s.link n).rate f.length ≤ s.slotBudget := by simpa [sentAirtime] using hair
    have hring : s.ringFree = true := State.ringFree_iff.mpr (by rw [hN]; exact hlen)
    have hb := State.burstBudget_of_fits (j := j) (ts := [h]) (by simp [ClassQueues.all, hqueues]) hg hfirst
    rw [State.burst_kept hqueues hb hgh hg hh hring hfirst hover]
    refine ⟨by simp, hnil.take hN hP (by simp; omega) (by simp), fun k => ?_⟩
    cases k <;> simp [ClassQueues.get, hqueues, hgh.symm]
  · have hgh : g ≠ h := by simpa [ClassQueues.all, hqueues] using hd
    have hg : s.frame g = some f := hf (g, f) (by rw [hsent]; split_ifs <;> simp)
    have hh : s.frame h = some fh := hf (h, fh) (by rw [hsent]; split_ifs <;> simp)
    have hboth : airtime (s.link n).rate f.length + airtime (s.link n).rate fh.length ≤ s.slotBudget := by
      rw [hsent] at hair
      split_ifs at hair <;> simp [sentAirtime] at hair <;> omega
    have htwo : sent.length = 2 := by rw [hsent]; split_ifs <;> rfl
    have hb := State.burstBudget_of_fits (j := j) (n := n) (ts := [h]) (by simp [ClassQueues.all, hqueues]) hg
      (by omega)
    have hcount (c : Nat) : ((c + 1) % 4 + 1) % 4 = (c + 2) % 4 := by omega
    rw [State.burst_shared hqueues hb hgh hg hh (by rw [hN]; exact htwo ▸ hlen) hboth, ← hcount]
    split_ifs at hsent ⊢ with hc
    · subst hsent
      refine ⟨by simp, (hnil.takeInterleaved hN hP (by simp; omega) (by simp)).takeInterleaved hN hP
        (by simp at hlen ⊢; omega) (by simpa using hgh), fun k => ?_⟩
      cases k <;> simp [ClassQueues.get, hqueues]
    · subst hsent
      refine ⟨by simp, (hnil.takeInterleaved hN hP (by simp; omega) (by simp)).takeInterleaved hN hP
        (by simp at hlen ⊢; omega) (by simpa using hgh.symm), fun k => ?_⟩
      cases k <;> simp [ClassQueues.get, hqueues]

end Clauses

/-! ### The obligation -/

/-- Settles O39: each clause is the slot's action in the state in which it acts. -/
theorem txSlotsSendFramesOrProbes : Obligations.TxSlotsSendFramesOrProbes := by
  intro s e j n hq hr hj ht hring he
  subst he
  have hw : (s.enterSlot j).work = [] := (State.quiet_iff.mp hq).1
  refine ⟨fun g f budget hs hst hall hf hfits => ?one,
    fun N counter sent kept left hs hst hok hN hP hlen hf hair hcase => ?burst,
    fun hs hb hbuf => ?probe, fun b kind node carried replies links pointer hs hcase => ?shared⟩
  case one =>
    have hbudget : s.burstBudget j.val n = budget ∧ airtime (s.link n).rate f.length ≤ budget := by
      obtain ⟨hair, rfl⟩ | ⟨hover, hair, rfl, k, hk, hidle⟩ := hfits
      · exact ⟨State.burstBudget_of_fits hall hf hair, hair⟩
      · exact ⟨State.burstBudget_of_extends hall hf hover hair hk hidle, hair⟩
    obtain ⟨hb, hair⟩ := hbudget
    refine ⟨_, exec_slotStart_one hq hr hj ht hring hs hst hall hf hb hair, ?_, MemoryPath.fill_all ..⟩
    rw [Scheduler.record_eq]
    rfl
  case burst =>
    have hok' : (s.enterSlot j).PoolOk := hok.congr rfl
    obtain ⟨hne, hsent, hleft⟩ := State.sent_burst (s := s.enterSlot j) (j := j) hok' hN hP hlen hf hair hcase
    obtain ⟨hexec, hstate⟩ := exec_slotStart_sent hq hr hj ht hs hst hne rfl rfl hsent hleft
    refine ⟨_, hexec, hstate, hsent.moved, hsent.stayed, hsent.accesses.trans ?_⟩
    unfold State.sentAccesses
    simp only [State.enterSlot_frameAccess]
    rfl
  case probe =>
    have haction : (s.enterSlot j).slotAction j = ((s.enterSlot j).sendProbe j.val n, []) := by
      rw [State.enterSlot_tx hr hs, State.txSlot_probe (s := s.enterSlot j) hb hbuf hring]
    obtain ⟨hstate, haccess⟩ := s.probe_ownSent j n
    refine ⟨_, exec_slotStart_of_action hq hr hj ht haction (by rw [hstate]; exact hw), hstate,
      haccess.trans (List.append_assoc ..).symm⟩
  case shared =>
    obtain ⟨hp, hn, h18, hbuf, hfirst, rfl, rfl, rfl, rfl⟩ | ⟨hreply, rfl, rfl, rfl, rfl, rfl, rfl, i, hi, hix, hask⟩ :=
      hcase
    · have haction : (s.enterSlot j).slotAction j = (((s.enterSlot j).sendReply j.val n node b).popReply, []) := by
        rw [State.enterSlot_shared hr hs,
          State.sharedSlot_reply (s := s.enterSlot j) j.val hp hn h18 hbuf hfirst hring]
      obtain ⟨hstate, haccess⟩ := s.reply_ownSent j n node b
      obtain rfl : s.linkTable.pendingReplies.tail = replies := by rw [hp]; rfl
      exact ⟨_, exec_slotStart_of_action hq hr hj ht haction (by rw [State.popReply, hstate]; exact hw),
        congrArg State.popReply hstate, haccess.trans (List.append_assoc ..).symm⟩
    · have hcand := State.probeCandidate_of_first (s := State.enterSlot
        { s with linkTable := { s.linkTable with pendingReplies := replies } } j) hring hi hix hask
      have haction := (State.enterSlot_shared hr hs).trans
        (congrArg (fun t : State => (t, [])) (State.sharedSlot_probe (s := s.enterSlot j) j.val hreply rfl hcand))
      obtain ⟨hstate, haccess⟩ := State.probe_ownSent
        { s with linkTable := { s.linkTable with pendingReplies := replies } } j pointer
      exact ⟨_, exec_slotStart_of_action hq hr hj ht haction ((congrArg State.work hstate).trans hw),
        congrArg (State.probed pointer) hstate, haccess.trans (List.append_assoc ..).symm⟩

end Sys2Proof.Machine
end

section
/-!
PROOF. COMPLETION_PROCESS (R146): the record taken, the matched in-flight record's handling, its retirement and the drain
test at the end.
-/

namespace Sys2Proof.Machine

/-! ### The row -/

/-- The state without the head of its completion queue. -/
def State.dequeued (s : State) (cs : List CompletionItem) : State :=
  { s with completion := { s.completion with queue := cs } }

section Row
variable {s : State} {c : CompletionItem} {cs : List CompletionItem} {r : InFlight}

/-- The state once a matched record has been handled and retired, and its link's drain tested. -/
def State.completed (s : State) (c : CompletionItem) (cs : List CompletionItem) (r : InFlight) : State :=
  ((((s.dequeued cs).handleOutcome r (txcOutcome c.record) (txcAttempts c.record)).retire r).drainAfter r.carried)

theorem State.pos_of_inFlightAt {p : Nat} (h : s.inFlightAt p = some r) : r.pos = p := by
  simpa using List.find?_some h

theorem State.matched_of (hp : c.pos = s.completion.consumer) (hi : txcIndex c.record = c.pos)
    (hr : s.inFlightAt c.pos = some r) (hl : r.lap = txcLap c.record) : s.matched c = some r := by
  simp only [State.matched, hp, hi, and_self, if_true]
  rw [hp] at hr
  simp [hr, hl]

theorem State.matched_none (h : c.pos ≠ s.completion.consumer ∨ txcIndex c.record ≠ c.pos ∨
    s.inFlightAt c.pos = none ∨ ∃ r, s.inFlightAt c.pos = some r ∧ r.lap ≠ txcLap c.record) :
    s.matched c = none := by
  unfold State.matched
  split
  · rename_i hm
    obtain h | h | h | ⟨r, hr, hl⟩ := h
    · exact absurd hm.1 h
    · exact absurd hm.2 h
    · simp [h]
    · simp [hr, hl]
  · rfl

theorem State.takeCompletion_of_matched (hq : s.completion.queue = c :: cs) (hm : s.matched c = some r) :
    s.takeCompletion = s.completed c cs r := by
  have hm' : (s.dequeued cs).matched c = some r := hm
  unfold State.takeCompletion
  rw [hq]
  dsimp only
  rw [show State.matched { s with completion := { s.completion with queue := cs } } c = some r from hm']
  rfl

theorem State.takeCompletion_of_unmatched (hq : s.completion.queue = c :: cs) (hm : s.matched c = none) :
    s.takeCompletion = s.dequeued cs := by
  unfold State.takeCompletion
  rw [hq]
  dsimp only
  rw [show State.matched { s with completion := { s.completion with queue := cs } } c = none from hm]
  rfl

theorem State.refillCompletion_of_not_waiting (h : ∀ a d p, s.path.slot ≠ .waiting a d p) :
    s.refillCompletion = s := by
  unfold State.refillCompletion
  split
  · exact absurd ‹_› (h _ _ _)
  · rfl

/-- R146: outside UNANCHORED the row takes the head of the completion queue and lets a WAITING write in. -/
theorem exec_completionProcess_eq (hq : s.quiet = true) (he : s.path.engine ≠ .unanchored) :
    exec .completionProcess s = .next s.takeCompletion.refillCompletion := by
  have hun : s.isUnanchored = false := by simpa [State.isUnanchored] using he
  change Host.Outcome.next s.settle.processCompletion = _
  rw [State.settle_of_quiet hq, State.processCompletion, hun]
  rfl

end Row

/-! ### What the handling leaves alone -/

/-- `t` differs from `s` at most in the pool's entries and lists, the link records and pending replies, the Route Table,
the Timing Unit with its latch, and the Intake's stage. -/
structure State.Handled (s t : State) : Prop where
  state : t = { s with
    linkTable := { s.linkTable with links := t.linkTable.links, pendingReplies := t.linkTable.pendingReplies }
    routes := t.routes
    timing := t.timing
    reports := { s.reports with timingLatch := t.reports.timingLatch }
    pool := { s.pool with entries := t.pool.entries, queues := t.pool.queues,
                          heldList := t.pool.heldList, backlog := t.pool.backlog }
    intake := { s.intake with stage := t.intake.stage } }

section Handled
variable {s t u : State}

theorem State.Handled.refl (s : State) : s.Handled s := ⟨rfl⟩

theorem State.Handled.trans (h : s.Handled t) (k : t.Handled u) : s.Handled u :=
  ⟨k.state.trans (congrArg (fun x : State => { x with
    linkTable := { x.linkTable with links := u.linkTable.links, pendingReplies := u.linkTable.pendingReplies }
    routes := u.routes
    timing := u.timing
    reports := { x.reports with timingLatch := u.reports.timingLatch }
    pool := { x.pool with entries := u.pool.entries, queues := u.pool.queues,
                          heldList := u.pool.heldList, backlog := u.pool.backlog }
    intake := { x.intake with stage := u.intake.stage } }) h.state)⟩

theorem State.Handled.setLink (s : State) (n : LinkIx) (l : LinkRec) : s.Handled (s.setLink n l) := ⟨rfl⟩

theorem State.Handled.path (h : s.Handled t) : t.path = s.path := by rw [h.state]
theorem State.Handled.sched (h : s.Handled t) : t.sched = s.sched := by rw [h.state]
theorem State.Handled.completion (h : s.Handled t) : t.completion = s.completion := by rw [h.state]

theorem State.Handled.drainTest (s : State) (n : LinkIx) : s.Handled (s.drainTest n) := by
  have hintake : (s.drainTest n).intake = s.intake := by rw [State.drainTest_frame]
  constructor
  conv_lhs => rw [State.drainTest_frame]
  rw [State.drainTest_pool, hintake]

end Handled

/-! ### The record leaves the table (R146, R15, R170) -/

/-- `t` is `s` after a completion: the record at position `p` has left the table, with `buffers` as its buffer left them,
the consumer index has advanced, the position's mark is NONE, and the handling is within `State.Handled`. -/
structure State.Retired (s t : State) (cs : List CompletionItem) (p : Nat) (buffers : Bank (Option Nat) 22) : Prop where
  state : t = { s with
    linkTable := { s.linkTable with links := t.linkTable.links, pendingReplies := t.linkTable.pendingReplies }
    routes := t.routes
    timing := t.timing
    reports := { s.reports with timingLatch := t.reports.timingLatch }
    pool := { s.pool with entries := t.pool.entries, queues := t.pool.queues,
                          heldList := t.pool.heldList, backlog := t.pool.backlog }
    intake := { s.intake with stage := t.intake.stage }
    path := { s.path with marks := t.path.marks }
    sched := { s.sched with
      inFlight := s.sched.inFlight.filter fun x => x.pos != p
      buffers := buffers }
    completion := {
      queue := cs
      consumer := if s.completion.consumer + 1 < s.sched.ringSize.getD 0 then s.completion.consumer + 1 else 0 } }
  mark : t.mark p = .none
  marks : ∀ q, q ≠ p → t.mark q = s.mark q

section Retired
variable {s t u : State} {cs : List CompletionItem} {p : Nat} {buffers : Bank (Option Nat) 22} {r : InFlight}

theorem Scheduler.freeBuffer_inFlight_eq (d : Scheduler) (l : List InFlight) (k : Carried) :
    Scheduler.freeBuffer { d with inFlight := l } k =
      { d with inFlight := l, buffers := (d.freeBuffer k).buffers } := by
  unfold Scheduler.freeBuffer; split <;> rfl

/-- The handled record is retired. -/
theorem State.retired_retire (hu : (s.dequeued cs).Handled u) :
    s.Retired (u.retire r) cs r.pos (s.sched.freeBuffer r.carried).buffers := by
  have hretire : u.retire r = State.setMark { u with
      sched := { s.sched with
        inFlight := s.sched.inFlight.filter fun x => x.pos != r.pos
        buffers := (s.sched.freeBuffer r.carried).buffers }
      completion := {
        queue := cs
        consumer := if s.completion.consumer + 1 < s.sched.ringSize.getD 0 then s.completion.consumer + 1 else 0 } }
      r.pos .none := by
    unfold State.retire
    rw [hu.sched, hu.completion]
    dsimp only
    rw [Scheduler.freeBuffer_inFlight_eq]
    rfl
  rw [hretire]
  have hmark (q : Nat) : s.mark q = u.mark q := by
    unfold State.mark
    rw [hu.path]
    rfl
  refine ⟨?_, State.mark_setMark_none .., fun q hq => (State.mark_setMark_other _ _ hq.symm).trans (hmark q).symm⟩
  obtain ⟨marks, hmarks⟩ := State.setMark_state { u with
      sched := { s.sched with
        inFlight := s.sched.inFlight.filter fun x => x.pos != r.pos
        buffers := (s.sched.freeBuffer r.carried).buffers }
      completion := {
        queue := cs
        consumer := if s.completion.consumer + 1 < s.sched.ringSize.getD 0 then s.completion.consumer + 1 else 0 } }
      r.pos .none
  rw [hmarks]
  exact congrArg (fun x : State => { x with
    path := { x.path with marks := marks }
    sched := { s.sched with
      inFlight := s.sched.inFlight.filter fun x => x.pos != r.pos
      buffers := (s.sched.freeBuffer r.carried).buffers }
    completion := {
      queue := cs
      consumer := if s.completion.consumer + 1 < s.sched.ringSize.getD 0 then s.completion.consumer + 1 else 0 } })
    hu.state

theorem State.Retired.handled (h : s.Retired t cs p buffers) (k : t.Handled u) : s.Retired u cs p buffers := by
  have hpath := k.path
  refine ⟨?_, ?_, fun q hq => ?_⟩
  · refine k.state.trans ?_
    have hstate := congrArg (fun x : State => { x with
      linkTable := { x.linkTable with links := u.linkTable.links, pendingReplies := u.linkTable.pendingReplies }
      routes := u.routes
      timing := u.timing
      reports := { x.reports with timingLatch := u.reports.timingLatch }
      pool := { x.pool with entries := u.pool.entries, queues := u.pool.queues,
                            heldList := u.pool.heldList, backlog := u.pool.backlog }
      intake := { x.intake with stage := u.intake.stage } }) h.state
    rw [hpath]
    exact hstate
  · rw [State.mark, hpath]; exact h.mark
  · rw [State.mark, hpath]; exact h.marks q hq

theorem State.Handled.drainAfter (s : State) (k : Carried) : s.Handled (s.drainAfter k) := by
  unfold State.drainAfter
  split
  · exact State.Handled.drainTest s _
  · exact State.Handled.refl s

theorem State.retired_drainAfter (hu : (s.dequeued cs).Handled u) :
    s.Retired ((u.retire r).drainAfter r.carried) cs r.pos (s.sched.freeBuffer r.carried).buffers :=
  (State.retired_retire hu).handled (State.Handled.drainAfter _ _)

end Retired

end Sys2Proof.Machine
end

section
/-!
PROOF. The drain test at the end of a completion (R61), and where a completed data frame goes (R17, R27, R28, R34, R148).
-/

namespace Sys2Proof.Machine

/-! ### The end of a completion -/

section End
variable {s u : State} {cs : List CompletionItem} {r : InFlight} {n : LinkIx}

@[simp] theorem State.retire_intake : (u.retire r).intake = u.intake := by simp [State.retire]
@[simp] theorem State.retire_linkTable : (u.retire r).linkTable = u.linkTable := by simp [State.retire]
@[simp] theorem State.retire_routes : (u.retire r).routes = u.routes := by simp [State.retire]
@[simp] theorem State.retire_timing : (u.retire r).timing = u.timing := by simp [State.retire]
@[simp] theorem State.retire_reports : (u.retire r).reports = u.reports := by simp [State.retire]
@[simp] theorem State.retire_engine : (u.retire r).path.engine = u.path.engine := by simp [State.retire]

theorem State.retire_link (m : LinkIx) : (u.retire r).link m = u.link m := by
  rw [State.link, State.retire_linkTable, State.link]

theorem State.retire_queuedCount (m : LinkIx) : (u.retire r).queuedCount m = u.queuedCount m := by
  rw [State.queuedCount, State.queuesOf, State.retire_pool]
  rfl

theorem State.retire_inFlightCount (hu : (s.dequeued cs).Handled u) (m : LinkIx) :
    (u.retire r).inFlightCount m = s.othersInFlight r.pos m := by
  rw [State.inFlightCount, (State.retired_retire hu).state]
  rfl

/-- The drain test leaves a link that is not DRAINING, or still holds something. -/
theorem State.retire_drainTest_of_not (hu : (s.dequeued cs).Handled u)
    (h : s.path.engine ≠ .running ∨ (u.link n).state ≠ .draining ∨ u.queuedCount n ≠ 0 ∨
      s.othersInFlight r.pos n ≠ 0) : (u.retire r).drainTest n = u.retire r := by
  refine State.drainTest_of_not _ n ?_
  rw [State.retire_engine, hu.path, State.retire_link, State.retire_queuedCount, State.retire_inFlightCount hu]
  exact h

/-- The drain test silences a DRAINING link that holds nothing any more. -/
theorem State.retire_drainTest_of_drained (hu : (s.dequeued cs).Handled u) (hr : s.path.engine = .running)
    (hd : (u.link n).state = .draining) (hq : u.queuedCount n = 0) (hi : s.othersInFlight r.pos n = 0) :
    (u.retire r).drainTest n = (u.retire r).enterDrained n :=
  State.drainTest_of_drained _ n (by rw [State.retire_engine, hu.path]; exact hr)
    (by rw [State.retire_link]; exact hd) (by rw [State.retire_queuedCount]; exact hq)
    (by rw [State.retire_inFlightCount hu]; exact hi)

/-- What the drain test at the end of a completion leaves of the handling. -/
theorem State.retire_drainTest_pool : ((u.retire r).drainTest n).pool = u.pool := by
  rw [State.drainTest_pool, State.retire_pool]

theorem State.retire_drainTest_intake : ((u.retire r).drainTest n).intake = u.intake := by
  rw [State.drainTest_frame, State.retire_intake]

theorem State.retire_drainTest_link_other {m : LinkIx} (hm : m ≠ n) :
    ((u.retire r).drainTest n).link m = u.link m := by
  rw [State.drainTest_link_other _ n hm, State.retire_link]

/-- A link that is kept keeps what the Route Table, the Timing Unit and the pending replies hold of it. -/
theorem State.LinksKept.retire {s u : State} (h : s.LinksKept u) : s.LinksKept (u.retire r) where
  routes := by rw [State.retire_routes]; exact h.routes
  replies := by rw [State.retire_linkTable]; exact h.replies
  timing := by rw [State.retire_timing]; exact h.timing
  notice := by rw [State.retire_reports]; exact h.notice

/-- A link that is lost at the end of a completion whose handling lost none. -/
theorem State.LinksKept.linkLost {s w : State} (h : s.LinksKept w)
    (hn : (w.link n).neighbour = (s.link n).neighbour) : s.LinkLost (w.enterDrained n) n := by
  obtain ⟨hroutes, hreplies, hparent, hothers⟩ := w.linkLost_enterDrained n
  rw [h.routes] at hroutes
  rw [h.replies, hn] at hreplies
  rw [h.timing] at hparent hothers
  rw [h.notice] at hothers
  exact ⟨hroutes, hreplies, hparent, hothers⟩

end End

/-! ### Where the Frame Pool puts a completed frame -/

section Placed
variable {s : State} {g : Tag} {f : Frame}

/-- `t` is `s` but for the entry of `g`, which is `f` now, the class queues, the held list and the backlog. -/
structure State.Moved (s t : State) (g : Tag) (f : Frame) : Prop where
  state : t = { s with pool := { s.pool with
    entries := bankPut s.pool.entries g (some f)
    queues := t.pool.queues, heldList := t.pool.heldList, backlog := t.pool.backlog } }

theorem State.Moved.handled {t : State} (h : s.Moved t g f) : s.Handled t :=
  ⟨by rw [h.state]⟩

theorem State.Moved.frame_same {t : State} (h : s.Moved t g f) : t.frame g = some f := by
  rw [h.state]; exact bankGet_bankPut_same ..

theorem State.Moved.frame_other {t : State} (h : s.Moved t g f) {x : Tag} (hx : x ≠ g) : t.frame x = s.frame x := by
  rw [h.state]; exact bankGet_bankPut_other _ _ hx.symm

/-- Releasing: the entry joins the backlog. -/
theorem State.releaseInFlight_eq (hf : s.frame g = some f) (hi : f.inFlight = true) (st : ReleaseStatus) :
    s.releaseInFlight g st = { s with pool := { s.pool with
      entries := bankPut s.pool.entries g (some { f with place := .releasing st })
      backlog := s.pool.backlog ++ [.entry g] } } := by
  rw [State.releaseInFlight_of_inFlight st (by rw [hf]; exact hi), hf]
  rfl

/-- R27: a frame that is returned, by its target: the head of a queue, the held list, or the backlog. -/
theorem State.placeReturned_queued (m : LinkIx) : s.placeReturned g f (some m) =
    { s with pool := { s.pool with
      entries := bankPut s.pool.entries g (some { f with place := .queued m })
      queues := (s.pushHead m f.cls g).pool.queues } } := rfl

theorem State.placeReturned_held (hm : f.mode = .table) (hr : s.pool.heldList.length < s.pool.heldLimit) :
    s.placeReturned g f none = { s with pool := { s.pool with
      entries := bankPut s.pool.entries g (some { f with place := .held, age := 0 })
      heldList := s.pool.heldList ++ [g] } } := by
  have hcond : (f.mode == .table && s.heldRoom) = true := by simp [hm, State.heldRoom, hr]
  simp only [State.placeReturned, hcond, if_true]
  rfl

theorem State.placeReturned_noRoute (hi : f.inFlight = true)
    (h : f.mode = .via ∨ s.pool.heldLimit ≤ s.pool.heldList.length) :
    s.placeReturned g f none = { s with pool := { s.pool with
      entries := bankPut s.pool.entries g (some { f with place := .releasing .noRoute })
      backlog := s.pool.backlog ++ [.entry g] } } := by
  have hcond : (f.mode == .table && s.heldRoom) = false := by
    obtain h | h := h <;> simp [h, State.heldRoom]
  simp only [State.placeReturned, hcond, Bool.false_eq_true, if_false]
  rw [State.release_of_inFlight .noRoute (State.frame_setFrame_same ..) hi]
  simp [State.setFrame, State.pushBacklog, bankPut_bankPut]

end Placed

end Sys2Proof.Machine
end

section
/-!
PROOF. The outcome of a data frame (R27, R28, R53, R73, R148): the link record's measures, and then the frame's place.
-/

namespace Sys2Proof.Machine

/-! ### The Metric Unit leaves the link what it is -/

/-- `k` is the record `l` after some measures: in the same state, with the same neighbour, count and threshold. -/
structure LinkRec.Measured (l k : LinkRec) : Prop where
  state : k.state = l.state
  neighbour : k.neighbour = l.neighbour
  undelivered : k.undelivered = l.undelivered
  blockThreshold : k.blockThreshold = l.blockThreshold

section Measured
variable (l : LinkRec)

theorem LinkRec.Measured.refl : l.Measured l := ⟨rfl, rfl, rfl, rfl⟩

theorem LinkRec.Measured.trans {a b c : LinkRec} (h : a.Measured b) (k : b.Measured c) : a.Measured c :=
  ⟨k.state.trans h.state, k.neighbour.trans h.neighbour, k.undelivered.trans h.undelivered,
    k.blockThreshold.trans h.blockThreshold⟩

theorem LinkRec.Measured.applySample (x : Nat) : l.Measured (l.applySample x) := ⟨rfl, rfl, rfl, rfl⟩

theorem LinkRec.Measured.markFloor : l.Measured l.markFloor := by
  unfold LinkRec.markFloor; split <;> exact ⟨rfl, rfl, rfl, rfl⟩

theorem LinkRec.Measured.paceDelivered (a : Nat) : l.Measured (l.paceDelivered a) := by
  unfold LinkRec.paceDelivered; split_ifs <;> exact ⟨rfl, rfl, rfl, rfl⟩

theorem LinkRec.Measured.paceUndelivered : l.Measured l.paceUndelivered :=
  LinkRec.Measured.trans (b := LinkRec.writeRate { l with pace := 0 } (max l.floor (l.rate - l.downStep)))
    ⟨rfl, rfl, rfl, rfl⟩ (.markFloor _)

theorem LinkRec.Measured.climbDelivered (a : Nat) : l.Measured (l.climbDelivered a) := by
  unfold LinkRec.climbDelivered
  split
  · exact .refl l
  · split_ifs <;> exact ⟨rfl, rfl, rfl, rfl⟩

theorem LinkRec.Measured.climbLost : l.Measured l.climbLost := by
  unfold LinkRec.climbLost
  split
  · exact .refl l
  · refine LinkRec.Measured.trans ?_ (.markFloor _)
    split <;> exact ⟨rfl, rfl, rfl, rfl⟩

theorem LinkRec.Measured.measureData (o : TxOutcome) (a : Nat) : l.Measured (l.measureData o a) := by
  cases o with
  | delivered =>
    refine (LinkRec.Measured.applySample l (deliverySample a)).trans ?_
    dsimp only [LinkRec.measureData]
    split
    · exact .climbDelivered _ a
    · exact .paceDelivered _ a
  | undelivered =>
    refine (LinkRec.Measured.applySample l 0).trans ?_
    dsimp only [LinkRec.measureData]
    split
    · exact .climbLost _
    · exact .paceUndelivered _
  | expired => exact .refl l
  | aborted => exact .refl l

theorem LinkRec.carrying_congr {k l : LinkRec} (h : k.state = l.state) : k.carrying = l.carrying := by
  simp only [LinkRec.carrying, LinkRec.usable, h]

end Measured

/-! ### The link's part -/

section Link
variable {s : State} {n : LinkIx} {o : TxOutcome} {a : Nat}

theorem State.setLink_setLink (s : State) (n : LinkIx) (k l : LinkRec) : (s.setLink n k).setLink n l = s.setLink n l := by
  simp [State.setLink, bankPut_bankPut]

theorem State.setLink_link (s : State) (n : LinkIx) : s.setLink n (s.link n) = s := by
  rw [State.setLink, State.link, bankPut_bankGet]

/-- An outcome that neither unblocks the link, blocks it nor breaks off its drain changes its record alone. -/
theorem State.linkOutcome_of_kept (data : Bool)
    (hund : (s.link n).state = .active ∨ (s.link n).state = .draining → o = .undelivered →
      min 255 ((s.link n).undelivered + 1) < (s.link n).blockThreshold)
    (hdel : (s.link n).isBlocked = true → o ≠ .delivered) :
    ∃ l, l.state = (s.link n).state ∧ l.neighbour = (s.link n).neighbour ∧
      s.linkOutcome n o a data = s.setLink n l := by
  unfold State.linkOutcome
  dsimp only
  split
  · exact ⟨s.link n, rfl, rfl, (s.setLink_link n).symm⟩
  · cases o with
    | delivered =>
      have hb : (s.link n).isBlocked = false := by simpa using fun h => hdel h rfl
      exact ⟨LinkRec.flagDelivered { s.link n with undelivered := 0 } a, rfl, rfl, by simp [hb]⟩
    | undelivered =>
      refine ⟨(s.link n).countUndelivered.flagUndelivered a, rfl, rfl, ?_⟩
      dsimp only
      split
      · rename_i hover
        have hnot (h : (s.link n).state = .active ∨ (s.link n).state = .draining) : False :=
          absurd (hund h rfl) (Nat.not_lt.mpr hover)
        have hact : (s.link n).isActive = false := by
          simpa [LinkRec.isActive] using fun h => hnot (.inl h)
        rw [hact, if_neg Bool.false_ne_true, if_neg fun h => hnot (.inr h)]
      · rfl
    | expired =>
      cases data
      · exact ⟨s.link n, rfl, rfl, (s.setLink_link n).symm⟩
      · exact ⟨(s.link n).flagExpired, rfl, rfl, rfl⟩
    | aborted => exact ⟨s.link n, rfl, rfl, (s.setLink_link n).symm⟩

/-- The Frame Pool's part of a data frame's outcome on a link that is not SILENT (R148). -/
def State.poolOutcome (s : State) (g : Tag) (o : TxOutcome) : State :=
  match o with
  | .delivered => s.releaseInFlight g .sent
  | .undelivered => s.requeue g
  | .expired => s.expiryReturn g
  | .aborted => s.releaseInFlight g .cut

theorem State.poolOutcome_undelivered (s : State) (g : Tag) : s.poolOutcome g .undelivered = s.requeue g := rfl
theorem State.poolOutcome_expired (s : State) (g : Tag) : s.poolOutcome g .expired = s.expiryReturn g := rfl

theorem State.carriedOutcome_eq (g : Tag) : s.carriedOutcome g n o a =
    ((s.setLink n ((s.link n).measureData o a)).linkOutcome n o a true).poolOutcome g o := by
  cases o <;> rfl

/-- R148: the outcome of a data frame whose link keeps its state. -/
theorem State.dataOutcome_of_kept (g : Tag) (hr : s.path.engine = .running) (hs : (s.link n).state ≠ .silent)
    (hund : (s.link n).state = .active ∨ (s.link n).state = .draining → o = .undelivered →
      min 255 ((s.link n).undelivered + 1) < (s.link n).blockThreshold)
    (hdel : (s.link n).usable = true → o ≠ .delivered) :
    ∃ l, l.state = (s.link n).state ∧ l.neighbour = (s.link n).neighbour ∧
      ((s.link n).carrying = false → l = s.link n) ∧ s.dataOutcome g n o a = (s.setLink n l).poolOutcome g o := by
  have hq := State.isQuiescing_of_running hr
  cases hc : (s.link n).carrying with
  | true =>
    have hcarried : s.dataOutcome g n o a = s.carriedOutcome g n o a := by
      obtain h | ⟨hold, h⟩ | h := LinkRec.carrying_iff.mp hc <;> simp [State.dataOutcome, hq, h]
    obtain ⟨hstate, hneigh, hcount, hthreshold⟩ := LinkRec.Measured.measureData (s.link n) o a
    have hlink := s.link_setLink_same n ((s.link n).measureData o a)
    obtain ⟨l, hl, hln, heq⟩ := State.linkOutcome_of_kept (s := s.setLink n ((s.link n).measureData o a)) (n := n)
      (o := o) (a := a) true (by rw [hlink, hstate, hcount, hthreshold]; exact hund) (by
        rw [hlink]
        refine fun hb => hdel ?_
        unfold LinkRec.isBlocked at hb
        rw [hstate] at hb
        unfold LinkRec.usable
        cases h : (s.link n).state <;> simp [h] at hb ⊢)
    rw [hlink] at hl hln
    refine ⟨l, hl.trans hstate, hln.trans hneigh, nofun, ?_⟩
    rw [hcarried, State.carriedOutcome_eq, heq, State.setLink_setLink]
  | false =>
    refine ⟨s.link n, rfl, rfl, fun _ => rfl, ?_⟩
    rw [State.setLink_link]
    have hnot : ¬ ((s.link n).state = .active ∨ (∃ hold, (s.link n).state = .blocked hold) ∨
        (s.link n).state = .draining) := fun h => by rw [LinkRec.carrying_iff.mpr h] at hc; cases hc
    cases h : (s.link n).state <;> simp [h] at hnot hs
    all_goals cases o <;> simp [State.dataOutcome, hq, h, State.poolOutcome]

end Link

/-! ### The frame's part -/

section Pool
variable {s t : State} {g : Tag} {f : Frame} {n : LinkIx}

theorem State.requeue_spent (hf : s.frame g = some f) (hi : f.inFlight = true) (hb : f.budget.getD 0 = 0) :
    s.requeue g = s.releaseInFlight g .undelivered := by
  simp [State.requeue, State.releaseInFlight, hf, hi, hb]

theorem State.requeue_left {b : Nat} (hf : s.frame g = some f) (hi : f.inFlight = true)
    (hb : f.budget = some (b + 1)) (hl : f.link? = some n) :
    s.requeue g = s.placeReturned g { f with budget := some b }
      (if f.mode = .table then s.lookup f.dest else if (s.link n).carrying = true then some n else none) := by
  cases hm : f.mode <;> simp [State.requeue, hf, hi, hb, hm, State.ownTarget, hl]

theorem State.expiryReturn_second (hf : s.frame g = some f) (hi : f.inFlight = true) (he : f.expiry ≠ 0) :
    s.expiryReturn g = s.releaseInFlight g .expired := by
  simp [State.expiryReturn, State.releaseInFlight, hf, hi, he]

theorem State.expiryReturn_first (hf : s.frame g = some f) (hi : f.inFlight = true) (he : f.expiry = 0)
    (hl : f.link? = some n) :
    s.expiryReturn g = s.placeReturned g { f with expiry := 1 }
      (if (s.link n).carrying = true then some n else if f.mode = .table then s.lookup f.dest else none) := by
  cases hc : (s.link n).carrying <;> cases hm : f.mode <;>
    simp [State.expiryReturn, hf, hi, he, hm, State.ownTarget, hl, hc]

/-- A frame that is returned is placed somewhere, whatever its target. -/
theorem State.moved_placeReturned (hi : f.inFlight = true) (target : Option LinkIx) :
    ∃ x, s.Moved (s.placeReturned g f target) g x := by
  cases target with
  | some m => exact ⟨_, ⟨State.placeReturned_queued m⟩⟩
  | none =>
    by_cases hroom : f.mode = .table ∧ s.pool.heldList.length < s.pool.heldLimit
    · exact ⟨_, ⟨by rw [State.placeReturned_held hroom.1 hroom.2]⟩⟩
    · have hfull : f.mode = .via ∨ s.pool.heldLimit ≤ s.pool.heldList.length := by
        cases hm : f.mode with
        | via => exact .inl rfl
        | table => exact .inr (Nat.not_lt.mp fun h => hroom ⟨hm, h⟩)
      exact ⟨_, ⟨by rw [State.placeReturned_noRoute hi hfull]⟩⟩

theorem State.moved_releaseInFlight (hf : s.frame g = some f) (hi : f.inFlight = true) (st : ReleaseStatus) :
    ∃ x, s.Moved (s.releaseInFlight g st) g x :=
  ⟨_, ⟨by rw [State.releaseInFlight_eq hf hi st]⟩⟩

theorem State.moved_poolOutcome (hf : s.frame g = some f) (hi : f.inFlight = true) (hl : f.link? = some n)
    (o : TxOutcome) : ∃ x, s.Moved (s.poolOutcome g o) g x := by
  cases o with
  | delivered => exact State.moved_releaseInFlight hf hi _
  | aborted => exact State.moved_releaseInFlight hf hi _
  | undelivered =>
    change ∃ x, s.Moved (s.requeue g) g x
    cases hb : f.budget.getD 0 with
    | zero => rw [State.requeue_spent hf hi hb]; exact State.moved_releaseInFlight hf hi _
    | succ b =>
      have hsome : f.budget = some (b + 1) := by
        cases hbud : f.budget <;> simp [hbud] at hb ⊢; exact hb
      rw [State.requeue_left hf hi hsome hl]
      exact State.moved_placeReturned (f := { f with budget := some b }) hi _
  | expired =>
    change ∃ x, s.Moved (s.expiryReturn g) g x
    by_cases he : f.expiry = 0
    · rw [State.expiryReturn_first hf hi he hl]; exact State.moved_placeReturned (f := { f with expiry := 1 }) hi _
    · rw [State.expiryReturn_second hf hi he]; exact State.moved_releaseInFlight hf hi _

/-! ### The two kinds of places -/

/-- The frame of `g` joined the release backlog with a status. -/
structure State.FrameReleased (s t : State) (g : Tag) (f : Frame) : Prop where
  entry : t.frame g = some f
  queues : t.pool.queues = s.pool.queues
  held : t.pool.heldList = s.pool.heldList
  backlog : t.pool.backlog = s.pool.backlog ++ [.entry g]

theorem State.frameReleased_releaseInFlight (hf : s.frame g = some f) (hi : f.inFlight = true) (st : ReleaseStatus) :
    s.FrameReleased (s.releaseInFlight g st) g { f with place := .releasing st } := by
  rw [State.releaseInFlight_eq hf hi st]
  exact ⟨bankGet_bankPut_same .., rfl, rfl, rfl⟩

/-- The frame of `g`, now `f`, was returned to a target: the head of its queue, the held list, or the backlog. -/
structure State.FrameReturned (s t : State) (g : Tag) (f : Frame) (target : Option LinkIx) : Prop where
  queued : ∀ m, target = some m →
    t.frame g = some { f with place := .queued m } ∧
    (t.queuesOf m).get f.cls = g :: (s.queuesOf m).get f.cls ∧
    (∀ k, k ≠ f.cls → (t.queuesOf m).get k = (s.queuesOf m).get k) ∧
    (∀ k, k ≠ m → t.queuesOf k = s.queuesOf k) ∧ t.pool.heldList = s.pool.heldList ∧
    t.pool.backlog = s.pool.backlog
  held : target = none → f.mode = .table → s.pool.heldList.length < s.pool.heldLimit →
    t.frame g = some { f with place := .held, age := 0 } ∧ t.pool.queues = s.pool.queues ∧
    t.pool.heldList = s.pool.heldList ++ [g] ∧ t.pool.backlog = s.pool.backlog
  released : target = none → (f.mode = .via ∨ s.pool.heldLimit ≤ s.pool.heldList.length) →
    t.frame g = some { f with place := .releasing .noRoute } ∧ t.pool.queues = s.pool.queues ∧
    t.pool.heldList = s.pool.heldList ∧ t.pool.backlog = s.pool.backlog ++ [.entry g]

theorem State.frameReturned_placeReturned (hi : f.inFlight = true) (target : Option LinkIx) :
    s.FrameReturned (s.placeReturned g f target) g f target where
  queued := by
    rintro m rfl
    have hget (k : LinkIx) (c : TrafficClass) : ((s.placeReturned g f (some m)).queuesOf k).get c =
        if m = k ∧ f.cls = c then g :: (s.queuesOf k).get c else (s.queuesOf k).get c := by
      rw [State.placeReturned_queued]
      exact State.pushHead_get ..
    refine ⟨?_, ?_, fun c hc => ?_, fun k hk => ClassQueues.ext_get fun c => ?_, rfl, rfl⟩
    · rw [State.placeReturned_queued]; exact bankGet_bankPut_same ..
    · rw [hget, if_pos ⟨rfl, rfl⟩]
    · rw [hget, if_neg fun h => hc h.2.symm]
    · rw [hget, if_neg fun h => hk h.1.symm]
  held := by
    rintro rfl hm hr
    rw [State.placeReturned_held hm hr]
    exact ⟨bankGet_bankPut_same .., rfl, rfl, rfl⟩
  released := by
    rintro rfl h
    rw [State.placeReturned_noRoute hi h]
    exact ⟨bankGet_bankPut_same .., rfl, rfl, rfl⟩

theorem State.FrameReleased.congr {s' t' : State} (h : s.FrameReleased t g f) (hs : s.pool = s'.pool)
    (ht : t'.pool = t.pool) : s'.FrameReleased t' g f where
  entry := (congrArg (fun p : Pool => bankGet p.entries g) ht).trans h.entry
  queues := by rw [ht, ← hs]; exact h.queues
  held := by rw [ht, ← hs]; exact h.held
  backlog := by rw [ht, ← hs]; exact h.backlog

theorem State.FrameReturned.congr {s' t' : State} {target : Option LinkIx} (h : s.FrameReturned t g f target)
    (hs : s.pool = s'.pool) (ht : t'.pool = t.pool) : s'.FrameReturned t' g f target := by
  obtain ⟨hqueued, hheld, hreleased⟩ := h
  unfold State.queuesOf State.frame at hqueued
  unfold State.frame at hheld hreleased
  rw [← ht, hs] at hqueued hheld hreleased
  exact ⟨hqueued, hheld, hreleased⟩

end Pool

end Sys2Proof.Machine
end

section
/-!
PROOF. Where a completed data frame goes, as the statement has it.
-/

namespace Sys2Proof.Machine

section Row
variable {s : State} {c : CompletionItem} {cs : List CompletionItem} {r : InFlight} {g : Tag} {n : LinkIx} {f : Frame}

/-- The row of a matched record while no completion write waits. -/
theorem exec_completionProcess_of_matched (hq : s.quiet = true) (he : s.path.engine ≠ .unanchored)
    (hw : ∀ a d p, s.path.slot ≠ .waiting a d p) (hqueue : s.completion.queue = c :: cs)
    (hp : c.pos = s.completion.consumer) (hi : txcIndex c.record = c.pos) (hr : s.inFlightAt c.pos = some r)
    (hl : r.lap = txcLap c.record) : exec .completionProcess s = .next (s.completed c cs r) := by
  rw [exec_completionProcess_eq hq he, State.takeCompletion_of_matched hqueue (State.matched_of hp hi hr hl),
    State.refillCompletion_of_not_waiting]
  have hpath : (s.completed c cs r).path.slot = s.path.slot := by
    have hin : Inner (s.dequeued cs) _ := Inner.handleOutcome (s.dequeued cs) r (txcOutcome c.record) (txcAttempts c.record)
    rw [State.completed, (Inner.drainAfter _ r.carried).path]
    simp only [State.retire, State.setMark_path_slot]
    rw [hin.path]
    rfl
  rwa [hpath]

/-- A data frame's completion ends with the drain test of its link. -/
theorem State.completed_of_data (hc : r.carried = .data g n) : s.completed c cs r =
    (((s.dequeued cs).dataOutcome g n (txcOutcome c.record) (txcAttempts c.record)).retire r).drainTest n := by
  simp only [State.completed, State.handleOutcome, State.drainAfter, Carried.link?, hc]

/-- A data frame's retirement frees no own-frame buffer. -/
theorem State.retire_of_data (hc : r.carried = .data g n) (u : State) : u.retire r = State.setMark { u with
    sched := { u.sched with inFlight := u.sched.inFlight.filter fun x => x.pos != r.pos }
    completion := { u.completion with
      consumer := if u.completion.consumer + 1 < u.sched.ringSize.getD 0 then u.completion.consumer + 1 else 0 } }
    r.pos .none := by
  simp only [State.retire, Scheduler.freeBuffer, Carried.buffer?, hc]

/-- R148, R190: a frame of a SILENT link, and every frame while QUIESCING, is released. -/
theorem State.dataOutcome_of_released {o : TxOutcome} {a : Nat} {st : ReleaseStatus}
    (h : s.path.engine = .running ∧ (s.link n).state = .silent ∧ st = (if o = .delivered then .sent else .cut) ∨
      s.isQuiescing = true ∧ st = (if o = .delivered then .sent else .quiesced)) :
    s.dataOutcome g n o a = s.releaseInFlight g st := by
  obtain ⟨hr, hs, rfl⟩ | ⟨hq, rfl⟩ := h
  · cases o <;> simp [State.dataOutcome, State.isQuiescing_of_running hr, hs]
  · simp [State.dataOutcome, hq]

/-- What the completion of a data frame has done, when its outcome left its link in its state: the frame of `g` has
moved within the pool, and the link may be drained by it. -/
structure State.DataKept (s t u : State) (c : CompletionItem) (cs : List CompletionItem) (g : Tag) (n : LinkIx) :
    Prop where
  retired : s.Retired t cs c.pos s.sched.buffers
  intake : t.intake = s.intake
  others : ∀ m, m ≠ n → t.link m = s.link m
  same : (s.link n).carrying = false → t.link n = s.link n
  kept : (s.link n).state ≠ .draining ∨ t.queuedCount n ≠ 0 ∨ s.othersInFlight c.pos n ≠ 0 →
    s.LinksKept t ∧ (t.link n).state = (s.link n).state
  drained : (s.link n).state = .draining → t.queuedCount n = 0 → s.othersInFlight c.pos n = 0 →
    s.LinkLost t n ∧ (t.link n).state = .silent ∧ (t.link n).attention ||| 32 = (t.link n).attention
  frames : ∀ x, x ≠ g → t.frame x = s.frame x
  pool : t.pool = u.pool

theorem State.dataKept {l : LinkRec} {o : TxOutcome} (hrun : s.path.engine = .running) (hpos : r.pos = c.pos)
    (hf : s.frame g = some f) (hfi : f.inFlight = true) (hlink : f.link? = some n) (hc : r.carried = .data g n)
    (hstate : l.state = (s.link n).state) (hneigh : l.neighbour = (s.link n).neighbour)
    (hsame : (s.link n).carrying = false → l = s.link n) :
    s.DataKept (((((s.dequeued cs).setLink n l).poolOutcome g o).retire r).drainTest n)
      (((s.dequeued cs).setLink n l).poolOutcome g o) c cs g n := by
  obtain ⟨x, hmoved⟩ := State.moved_poolOutcome (s := (s.dequeued cs).setLink n l) hf hfi hlink o
  generalize ((s.dequeued cs).setLink n l).poolOutcome g o = u at hmoved ⊢
  have hu : (s.dequeued cs).Handled u := (State.Handled.setLink _ n l).trans hmoved.handled
  have hlinks (m : LinkIx) : u.link m = if m = n then l else s.link m := by
    have hm : u.link m = ((s.dequeued cs).setLink n l).link m := by rw [hmoved.state]; rfl
    rw [hm]
    split
    · rename_i hmn; rw [hmn]; exact State.link_setLink_same ..
    · rename_i hmn; exact State.link_setLink_other _ _ (Ne.symm hmn)
  have hln : u.link n = l := by rw [hlinks, if_pos rfl]
  have hkept : s.LinksKept u := by rw [hmoved.state]; exact ⟨rfl, rfl, rfl, rfl⟩
  have hbuf : (s.sched.freeBuffer r.carried).buffers = s.sched.buffers := by
    simp [Scheduler.freeBuffer, Carried.buffer?, hc]
  have hcount (m : LinkIx) : ((u.retire r).drainTest n).queuedCount m = u.queuedCount m := by
    rw [State.queuedCount_drainTest, State.retire_queuedCount]
  have hnot (h : (s.link n).state ≠ .draining ∨ u.queuedCount n ≠ 0 ∨ s.othersInFlight c.pos n ≠ 0) :
      (u.retire r).drainTest n = u.retire r :=
    State.retire_drainTest_of_not hu (.inr (by rw [hln, hstate, hpos]; exact h))
  refine ⟨?retired, ?intake, fun m hm => ?others, fun hcar => ?same, fun h => ?kept, fun hd hq hi => ?drained,
    fun y hy => ?frames, State.retire_drainTest_pool⟩
  case retired =>
    have h := (State.retired_retire hu (r := r)).handled (State.Handled.drainTest _ n)
    rwa [hpos, hbuf] at h
  case intake => rw [State.retire_drainTest_intake, hmoved.state]; rfl
  case others => rw [State.retire_drainTest_link_other hm, hlinks, if_neg hm]
  case same =>
    have hd : (s.link n).state ≠ .draining := fun h => by
      rw [LinkRec.carrying_iff.mpr (.inr (.inr h))] at hcar; cases hcar
    rw [hnot (.inl hd), State.retire_link, hln, hsame hcar]
  case kept =>
    rw [hcount] at h
    rw [hnot h]
    exact ⟨hkept.retire, by rw [State.retire_link, hln, hstate]⟩
  case drained =>
    rw [hcount] at hq
    rw [State.retire_drainTest_of_drained hu hrun (by rw [hln, hstate, hd]) hq (by rw [hpos]; exact hi)]
    refine ⟨hkept.retire.linkLost (by rw [State.retire_link, hln, hneigh]), ?_⟩
    rw [State.link_enterDrained, LinkRec.drained_eq]
    exact ⟨rfl, by simp [BitVec.or_assoc]⟩
  case frames =>
    exact (congrArg (fun p : Pool => bankGet p.entries y) State.retire_drainTest_pool).trans (hmoved.frame_other hy)

end Row

/-! ### The obligation -/

/-- Settles O34: the handling puts the frame in its place, and the drain test at the end of the completion finds the
link's record as the handling left it. -/
theorem completedFramesAreReleased : Obligations.CompletedFramesAreReleased := by
  intro s c cs r g n f hq hw hqueue hp hi hr hl hc hf hfi
  have hpos := State.pos_of_inFlightAt hr
  refine ⟨fun st hst => ?released, fun hrun hs hlink hund hdel => ?kept⟩
  case released =>
    have he : s.path.engine ≠ .unanchored := by
      obtain ⟨hrun, -⟩ | ⟨hqu, -⟩ := hst
      · simp [hrun]
      · intro h; simp [State.isQuiescing, h] at hqu
    have hout := State.dataOutcome_of_released (s := s.dequeued cs) (g := g) (a := txcAttempts c.record) hst
    rw [State.releaseInFlight_eq (s := s.dequeued cs) hf hfi st] at hout
    have hu : (s.dequeued cs).Handled ((s.dequeued cs).dataOutcome g n (txcOutcome c.record) (txcAttempts c.record)) := by
      rw [hout]; exact ⟨rfl⟩
    have hnot : s.path.engine ≠ .running ∨ (((s.dequeued cs).dataOutcome g n (txcOutcome c.record)
        (txcAttempts c.record)).link n).state ≠ .draining := by
      rw [hout]
      obtain ⟨-, hs, -⟩ | ⟨hqu, -⟩ := hst
      · exact .inr fun h => by
          have hd : (s.link n).state = .draining := h
          simp [hd] at hs
      · exact .inl fun h => by simp [State.isQuiescing_of_running h] at hqu
    rw [exec_completionProcess_of_matched hq he hw hqueue hp hi hr hl, State.completed_of_data hc,
      State.retire_drainTest_of_not hu (hnot.imp_right .inl), hout, State.retire_of_data hc, hpos]
    rfl
  case kept =>
    obtain ⟨l, hstate, hneigh, hsame, hout⟩ := State.dataOutcome_of_kept (s := s.dequeued cs)
      (a := txcAttempts c.record) g hrun hs hund hdel
    have hexec := exec_completionProcess_of_matched hq (by simp [hrun]) hw hqueue hp hi hr hl
    rw [State.completed_of_data hc, hout] at hexec
    have hk := State.dataKept (o := txcOutcome c.record) (cs := cs) hrun hpos hf hfi hlink hc hstate hneigh hsame
    have hlookup (dest : NodeId) : ((s.dequeued cs).setLink n l).lookup dest = s.lookup dest := by
      refine State.lookup_congr (s := s) (t := (s.dequeued cs).setLink n l) rfl rfl (fun m => ?_) dest
      by_cases hm : m = n
      · subst hm
        rw [State.link_setLink_same]
        exact ⟨hstate, hneigh⟩
      · rw [State.link_setLink_other _ _ (Ne.symm hm)]
        exact ⟨rfl, rfl⟩
    have hcar : (((s.dequeued cs).setLink n l).link n).carrying = (s.link n).carrying := by
      rw [State.link_setLink_same]
      exact LinkRec.carrying_congr hstate
    have hpool : ((s.dequeued cs).setLink n l).pool = s.pool := rfl
    refine ⟨_, hexec, ?_, hk.retired.mark, hk.retired.marks, hk.others, hk.same, hk.kept, hk.drained, hk.frames,
      fun st f' hst => ?releasing, fun f' target hst => ?returned⟩
    · have hstate := hk.retired.state
      rw [hk.intake] at hstate
      exact hstate
    case releasing =>
      have hrel (st : ReleaseStatus) := State.frameReleased_releaseInFlight (s := (s.dequeued cs).setLink n l) hf hfi st
      have hu : ((s.dequeued cs).setLink n l).FrameReleased
          (((s.dequeued cs).setLink n l).poolOutcome g (txcOutcome c.record)) g { f' with place := .releasing st } := by
        obtain ⟨ho, rfl, rfl⟩ | ⟨ho, rfl, rfl⟩ | ⟨ho, hb, rfl, rfl⟩ | ⟨ho, he, rfl, rfl⟩ := hst <;> rw [ho]
        · exact hrel .sent
        · exact hrel .cut
        · rw [State.poolOutcome_undelivered, State.requeue_spent (s := (s.dequeued cs).setLink n l) hf hfi hb]
          exact hrel .undelivered
        · rw [State.poolOutcome_expired, State.expiryReturn_second (s := (s.dequeued cs).setLink n l) hf hfi he]
          exact hrel .expired
      obtain ⟨hentry, hqueues, hheld, hbacklog⟩ := hu.congr hpool hk.pool
      exact ⟨hentry, hqueues, hheld, hbacklog⟩
    case returned =>
      have hu : ((s.dequeued cs).setLink n l).FrameReturned
          (((s.dequeued cs).setLink n l).poolOutcome g (txcOutcome c.record)) g f' target := by
        obtain ⟨b, ho, hb, rfl, rfl⟩ | ⟨ho, he, rfl, rfl⟩ := hst <;> rw [ho]
        · have h := State.requeue_left (s := (s.dequeued cs).setLink n l) hf hfi hb hlink
          rw [hlookup, hcar] at h
          rw [State.poolOutcome_undelivered, h]
          exact State.frameReturned_placeReturned (f := { f with budget := some b }) hfi _
        · have h := State.expiryReturn_first (s := (s.dequeued cs).setLink n l) hf hfi he hlink
          rw [hlookup, hcar] at h
          rw [State.poolOutcome_expired, h]
          exact State.frameReturned_placeReturned (f := { f with expiry := 1 }) hfi _
      obtain ⟨hqueued, hheld, hreleased⟩ := hu.congr hpool hk.pool
      have hfields : f'.cls = f.cls ∧ f'.mode = f.mode := by
        obtain ⟨b, -, -, rfl, -⟩ | ⟨-, -, rfl, -⟩ := hst <;> exact ⟨rfl, rfl⟩
      rw [← hfields.1, ← hfields.2]
      exact ⟨hqueued, hheld, hreleased⟩

end Sys2Proof.Machine
end

section
/-!
PROOF. Completions that change no more than the table (R146, R147): records that do not match, and own frames whose
outcome does not count.
-/

namespace Sys2Proof.Machine

section Quiet
variable {s : State} {c : CompletionItem} {cs : List CompletionItem} {r : InFlight} {b : BufIx} {n : LinkIx}
  {node : NodeId}

theorem exec_completionProcess_of_unmatched (hq : s.quiet = true) (he : s.path.engine ≠ .unanchored)
    (hw : ∀ a d p, s.path.slot ≠ .waiting a d p) (hqueue : s.completion.queue = c :: cs)
    (hm : s.matched c = none) : exec .completionProcess s = .next (s.dequeued cs) := by
  rw [exec_completionProcess_eq hq he, State.takeCompletion_of_unmatched hqueue hm]
  exact congrArg Host.Outcome.next (State.refillCompletion_of_not_waiting (s := s.dequeued cs) hw)

/-- The record carries a probe or a reply from buffer `b` to link `n`, sent while it held `node`. -/
structure InFlight.OwnOf (r : InFlight) (b : BufIx) (n : LinkIx) (node : NodeId) : Prop where
  buffer : r.carried.buffer? = some b
  link : r.carried.link? = some n
  outcome : ∀ (s : State) (o : TxOutcome) (a : Nat), s.handleOutcome r o a = s.ownOutcome n node o a

theorem InFlight.ownOf (h : r.carried = .probe b n node ∨ r.carried = .reply b n node) : r.OwnOf b n node := by
  obtain h | h := h <;> exact ⟨by rw [h]; rfl, by rw [h]; rfl, fun s o a => by simp only [State.handleOutcome, h]⟩

/-- R15: the retirement of an own frame's record frees its buffer. -/
theorem State.retire_of_buffer (hb : r.carried.buffer? = some b) (u : State) : u.retire r = State.setMark { u with
    sched := { u.sched with
      inFlight := u.sched.inFlight.filter fun x => x.pos != r.pos
      buffers := bankPut u.sched.buffers b none }
    completion := { u.completion with
      consumer := if u.completion.consumer + 1 < u.sched.ringSize.getD 0 then u.completion.consumer + 1 else 0 } }
    r.pos .none := by
  simp only [State.retire, Scheduler.freeBuffer, hb]

theorem State.completed_of_own (hown : r.OwnOf b n node) : s.completed c cs r =
    (((s.dequeued cs).ownOutcome n node (txcOutcome c.record) (txcAttempts c.record)).retire r).drainTest n := by
  simp only [State.completed, State.drainAfter, hown.link, hown.outcome]

/-- R147: the outcomes of probes and replies that count for nothing. -/
theorem State.ownOutcome_of_ignored {o : TxOutcome} {a : Nat}
    (h : s.isQuiescing = true ∨ (s.link n).holds node = false ∨ (s.link n).carrying = false ∨ o = .expired ∨
      o = .aborted) : s.ownOutcome n node o a = s := by
  have hlink (o : TxOutcome) (hm : (s.link n).measureOwn o a = s.link n) (hl : s.linkOutcome n o a false = s) :
      s.ownOutcome n node o a = s := by
    rw [State.ownOutcome, hm, State.setLink_link, hl, ite_self]
  obtain h | h | h | rfl | rfl := h
  · simp [State.ownOutcome, h]
  · simp [State.ownOutcome, h]
  · simp [State.ownOutcome, h]
  · exact hlink .expired rfl (by simp [State.linkOutcome])
  · exact hlink .aborted rfl (by simp [State.linkOutcome])

/-- An own frame whose outcome does not count is retired. -/
theorem State.completed_of_ignored (hp : r.pos = c.pos) (hb : r.carried.buffer? = some b)
    (h : (∀ (s : State) (o : TxOutcome) (a : Nat), s.handleOutcome r o a = s) ∧ r.carried.link? = none ∨
      r.OwnOf b n node ∧ (s.isQuiescing = true ∨
        ((s.link n).state = .draining → s.queuedCount n ≠ 0 ∨ s.othersInFlight c.pos n ≠ 0) ∧
        ((s.link n).holds node = false ∨ (s.link n).carrying = false ∨
          txcOutcome c.record = .expired ∨ txcOutcome c.record = .aborted))) :
    s.completed c cs r = State.setMark { s with
      sched := { s.sched with
        inFlight := s.sched.inFlight.filter fun x => x.pos != c.pos
        buffers := bankPut s.sched.buffers b none }
      completion := {
        queue := cs
        consumer := if s.completion.consumer + 1 < s.sched.ringSize.getD 0
          then s.completion.consumer + 1 else 0 } } c.pos .none := by
  have hretired : s.completed c cs r = (s.dequeued cs).retire r := by
    obtain ⟨hout, hnone⟩ | ⟨hown, h⟩ := h
    · simp only [State.completed, hout, State.drainAfter, hnone]
    · have hignored : (s.dequeued cs).ownOutcome n node (txcOutcome c.record) (txcAttempts c.record) =
          s.dequeued cs :=
        State.ownOutcome_of_ignored (s := s.dequeued cs) (h.imp_right fun h => h.2)
      rw [State.completed_of_own hown, hignored]
      refine State.retire_drainTest_of_not (State.Handled.refl _) ?_
      rw [hp]
      obtain hquiesce | ⟨hdrain, -⟩ := h
      · exact .inl fun hrun => by simp [State.isQuiescing_of_running hrun] at hquiesce
      · by_cases hd : (s.link n).state = .draining
        · exact .inr (.inr (hdrain hd))
        · exact .inr (.inl hd)
  rw [hretired, State.retire_of_buffer hb, hp]
  rfl

end Quiet

end Sys2Proof.Machine
end

section
/-!
PROOF. The diversion of a blocked link's queued frames (R29): a round of moves of those frames whose lookup names another
link.
-/

namespace Sys2Proof.Machine

/-- The frame of `g` leaves link `n` at a diversion: its lookup names another link. -/
def State.leaves (s : State) (n : LinkIx) (g : Tag) : Bool :=
  match s.tableRoute (s.frame g) with
  | some m => m != n
  | none => false

/-- The entry of a frame that a diversion moves. -/
def State.diverted (s : State) (g : Tag) : Option Frame :=
  (s.frame g).map fun f => match s.tableRoute (some f) with
    | some m => { f with place := .queued m }
    | none => f

section Divert
variable {s t : State} {n : LinkIx} {g : Tag} {f : Frame} {ts : List Tag}

theorem State.leaves_iff : s.leaves n g = true ↔ ∃ m, s.tableRoute (s.frame g) = some m ∧ m ≠ n := by
  unfold State.leaves
  cases s.tableRoute (s.frame g) <;> simp

theorem State.leaves_false_iff : s.leaves n g = false ↔
    s.tableRoute (s.frame g) = none ∨ s.tableRoute (s.frame g) = some n := by
  unfold State.leaves
  cases s.tableRoute (s.frame g) <;> simp

theorem State.diverted_of_route {m : LinkIx} (hf : s.frame g = some f) (hr : s.tableRoute (some f) = some m) :
    s.diverted g = some { f with place := .queued m } := by simp [State.diverted, hf, hr]

/-- R29: one frame in the queues of a link that is not DRAINING. -/
theorem State.divertOne_eq (hl : (s.link n).state ≠ .draining) (hf : s.frame g = some f) :
    s.divertOne n g = if s.leaves n g then s.moveOut n g (s.diverted g) else s := by
  cases hm : f.mode with
  | via =>
    have hr : s.tableRoute (s.frame g) = none := by rw [hf]; exact s.tableRoute_of_via hm
    rw [State.leaves_false_iff.mpr (.inl hr), if_neg Bool.false_ne_true]
    simp only [State.divertOne, hf, hm]
  | table =>
    have hr := s.tableRoute_eq_lookup hm
    simp only [State.divertOne, hf, hm]
    cases hlook : s.lookup f.dest with
    | none =>
      rw [State.leaves_false_iff.mpr (.inl (by rw [hf, hr, hlook])), if_neg Bool.false_ne_true]
    | some m =>
      by_cases hmn : m = n
      · rw [State.leaves_false_iff.mpr (.inr (by rw [hf, hr, hlook, hmn])), if_neg Bool.false_ne_true]
        exact if_pos hmn
      · rw [State.leaves_iff.mpr ⟨m, by rw [hf, hr, hlook], hmn⟩, if_pos rfl, State.diverted_of_route hf (hr.trans hlook)]
        refine (if_neg hmn).trans ?_
        exact State.countFell_of_not_draining hl

/-- A diversion is a round of moves of the frames that leave. -/
theorem State.divert_eq_foldl {dest : Tag → Option Frame} {off : Tag → Bool} (hl : (s.link n).state ≠ .draining)
    (hd : ts.Nodup) (hq : ∀ g ∈ ts, ∃ f, s.frame g = some f) (hoff : ∀ g ∈ ts, off g = s.leaves n g)
    (hdest : ∀ g ∈ ts, dest g = s.diverted g) :
    ts.foldl (fun s g => s.divertOne n g) s = (ts.filter off).foldl (fun s g => s.moveOut n g (dest g)) s := by
  induction ts generalizing s with
  | nil => rfl
  | cons g ts ih =>
    obtain ⟨hg, hd⟩ := List.nodup_cons.mp hd
    obtain ⟨f, hf⟩ := hq g List.mem_cons_self
    have hone := State.divertOne_eq (n := n) hl hf
    rw [← hoff g List.mem_cons_self, ← hdest g List.mem_cons_self] at hone
    rw [List.foldl_cons, hone]
    cases hgo : off g with
    | false =>
      rw [if_neg Bool.false_ne_true, List.filter_cons_of_neg (by simp [hgo])]
      exact ih hl hd (fun u hu => hq u (List.mem_cons_of_mem _ hu)) (fun u hu => hoff u (List.mem_cons_of_mem _ hu))
        fun u hu => hdest u (List.mem_cons_of_mem _ hu)
    | true =>
      have hframe : ∀ u ∈ ts, (s.moveOut n g (dest g)).frame u = s.frame u := fun u hu => by
        rw [State.moveOut_frame, if_neg (ne_of_mem_of_not_mem hu hg).symm]
      rw [if_pos rfl, List.filter_cons_of_pos hgo, List.foldl_cons]
      refine ih (by rw [State.moveOut_eq]; exact hl) hd (fun u hu => ?_) (fun u hu => ?_) fun u hu => ?_
      · rw [hframe u hu]; exact hq u (List.mem_cons_of_mem _ hu)
      · rw [hoff u (List.mem_cons_of_mem _ hu), State.leaves, State.leaves, hframe u hu, State.moveOut_tableRoute]
      · rw [hdest u (List.mem_cons_of_mem _ hu), State.diverted, State.diverted, hframe u hu]
        exact Option.map_congr fun f _ => by rw [State.moveOut_tableRoute]

/-- R29: what the diversion comes to. -/
theorem State.PoolOk.movedOut_divert (h : s.PoolOk) (hl : (s.link n).state ≠ .draining) :
    s.MovedOut (s.divert n) n ((s.queuesOf n).all.filter (s.leaves n)) s.diverted := by
  have hfold := State.divert_eq_foldl (s := s) (n := n) (off := s.leaves n) (dest := s.diverted) hl (h.nodup_all n)
    (fun g hg => (h.queuedOn_of_mem_all hg).imp fun _ hf => hf.1) (fun _ _ => rfl) fun _ _ => rfl
  rw [State.divert, hfold]
  refine State.movedOut_foldl ((h.nodup_all n).filter _) fun g hg c => ?_
  obtain ⟨m, hr, hm⟩ := State.leaves_iff.mp (List.mem_filter.mp hg).2
  obtain ⟨f, hf, -⟩ := h.queuedOn_of_mem_all (List.mem_filter.mp hg).1
  rw [hf] at hr
  rw [State.diverted_of_route hf hr, queuedAt_some]
  simp [hm]

/-- A diversion, seen from `s` with the pool that it finds, and from any later state with the pool, the lookups and the
Intake it leaves. -/
theorem State.PoolOk.diverted {v : State} (h : s.PoolOk) (hv : v.pool = s.pool) (hi : v.intake = s.intake)
    (hl : (v.link n).state ≠ .draining) (ht : t.pool = (v.divert n).pool) (hti : t.intake = (v.divert n).intake)
    (hlook : ∀ d, t.lookup d = v.lookup d) :
    t.pool.heldList = s.pool.heldList ∧ t.pool.backlog = s.pool.backlog ∧ s.Diverted t n (fun _ _ => []) ∧
      ∀ g, g ∉ (s.queuesOf n).all → t.frame g = s.frame g := by
  have hvok : v.PoolOk := h.congr hv
  have k := hvok.movedOut_divert hl
  have hframe (g : Tag) : v.frame g = s.frame g := State.frame_congr hv g
  have hlast (g : Tag) : t.frame g = (v.divert n).frame g := State.frame_congr ht g
  have hqueues (m : LinkIx) : v.queuesOf m = s.queuesOf m := by rw [State.queuesOf, hv, State.queuesOf]
  have hqlast (m : LinkIx) : t.queuesOf m = (v.divert n).queuesOf m := by rw [State.queuesOf, ht, State.queuesOf]
  have hroute (o : Option Frame) : t.tableRoute o = v.tableRoute o := State.tableRoute_congr hlook o
  have hstays (x : Tag) (hx : v.leaves n x = false) : t.frame x = s.frame x := by
    rw [hlast, k.stayed x fun hmem => by simp [hx] at hmem, hframe]
  have hentry (x : Tag) : releasingEntry (v.diverted x) = true ∨ heldEntry (v.diverted x) = true →
      x ∉ (v.queuesOf n).all.filter (v.leaves n) := fun hx hmem => by
    obtain ⟨m, hr, -⟩ := State.leaves_iff.mp (List.mem_filter.mp hmem).2
    obtain ⟨f, hf, -⟩ := hvok.queuedOn_of_mem_all (List.mem_filter.mp hmem).1
    rw [hf] at hr
    rw [State.diverted_of_route hf hr] at hx
    simp [releasingEntry] at hx
  refine ⟨?held, ?backlog, ⟨fun x f m hx hf hm hmn => ?moved, fun x f hx hf hr => ?stayed, fun c => ?left,
    fun m c hm => ?joined, fun ⟨x, m, hx, hm, hmn⟩ => ?told, fun hnone => ?untold⟩, fun g hg => ?others⟩
  case held =>
    rw [ht, k.held, hv, List.filter_eq_nil_iff.mpr fun x hx hh => hentry x (.inr hh) hx, List.append_nil]
  case backlog =>
    rw [ht, k.backlog, hv, List.filter_eq_nil_iff.mpr fun x hx hh => hentry x (.inl hh) hx]
    simp
  case moved =>
    rw [hroute] at hm
    have hleaves : v.leaves n x = true := State.leaves_iff.mpr ⟨m, by rw [hframe, hf, hm], hmn⟩
    rw [hlast, k.moved x (List.mem_filter.mpr ⟨hqueues n ▸ hx, hleaves⟩)]
    exact State.diverted_of_route ((hframe x).trans hf) hm
  case stayed =>
    rw [hroute] at hr
    rw [hstays x (State.leaves_false_iff.mpr (by rw [hframe, hf]; exact hr)), hf]
  case left =>
    rw [hqlast, k.left, hqueues, List.nil_append]
    refine List.filter_congr fun x hx => ?_
    have hall : x ∈ (s.queuesOf n).all := ClassQueues.mem_all.mpr ⟨c, hx⟩
    rw [hroute, ← hframe]
    cases hgo : v.leaves n x with
    | true =>
      obtain ⟨m, hr, hm⟩ := State.leaves_iff.mp hgo
      simp [hall, hgo, hr, hm]
    | false =>
      obtain hr | hr := State.leaves_false_iff.mp hgo <;> simp [hgo, hr]
  case joined =>
    rw [hqlast, k.joined m c hm, hqueues, List.nil_append, List.filter_filter, hqueues]
    refine congrArg (_ ++ ·) (h.filter_all fun g f hf => ?_)
    have hvf : v.frame g = some f := (hframe g).trans hf
    rw [hroute, hf, Bool.and_eq_true, State.leaves_iff, hvf, beq_iff_eq]
    constructor
    · rintro ⟨hq, x, hr, hx⟩
      rw [State.diverted_of_route hvf hr, queuedAt_some] at hq
      obtain ⟨hp, hc⟩ := of_decide_eq_true hq
      exact ⟨hc, by rw [hr]; exact congrArg some (Place.queued.inj hp)⟩
    · rintro ⟨hc, hr⟩
      exact ⟨by rw [State.diverted_of_route hvf hr, queuedAt_some]; simp [hc], m, hr, hm⟩
  case told =>
    have hmem : x ∈ (v.queuesOf n).all.filter (v.leaves n) := List.mem_filter.mpr
      ⟨by rw [hqueues]; exact hx, State.leaves_iff.mpr ⟨m, by rw [hframe, ← hroute]; exact hm, hmn⟩⟩
    rw [hti, k.intake_eq, if_neg (List.ne_nil_of_mem hmem), hi]
  case untold =>
    have hnil : (v.queuesOf n).all.filter (v.leaves n) = [] := List.filter_eq_nil_iff.mpr fun x hx hgo => by
      obtain ⟨m, hr, hm⟩ := State.leaves_iff.mp hgo
      exact hm (hnone x m (hqueues n ▸ hx) (by rw [hroute, ← hframe]; exact hr))
    rw [hti, k.intake_eq, if_pos hnil, hi]
  case others =>
    rw [hlast, k.stayed g fun hmem => hg (hqueues n ▸ (List.mem_filter.mp hmem).1), hframe]

end Divert

end Sys2Proof.Machine
end

section
/-!
PROOF. Outcomes of probes and replies that count (R53 to R55, R61): the link's record, and what the link's change of state
asks of the pool and of the tables.
-/

namespace Sys2Proof.Machine

/-! ### The records -/

/-- R53, R66, R75, R76: the record after a DELIVERED probe or reply. -/
def LinkRec.ownDelivered (l : LinkRec) (a : Nat) : LinkRec :=
  LinkRec.flagDelivered { l.applySample (deliverySample a) with undelivered := 0 } a

/-- R53, R66, R67: the record after an UNDELIVERED probe or reply. -/
def LinkRec.ownUndelivered (l : LinkRec) (a : Nat) : LinkRec := (l.applySample 0).countUndelivered.flagUndelivered a

/-- R55: the record of a BLOCKED link that is ACTIVE again. -/
def LinkRec.unblocked (l : LinkRec) : LinkRec := LinkRec.attend { l with state := .active, undelivered := 0 } .unblocked

/-- R54, R86: the record of an ACTIVE link that enters BLOCKED. -/
def LinkRec.nowBlocked (l : LinkRec) : LinkRec :=
  (LinkRec.attend { l with
    state := .blocked l.blockHold, sticky := { l.sticky with blockedSeen := true } } .blocked).climbEnded

section Outcome
variable {s : State} {n : LinkIx} {node : NodeId} {a : Nat}

/-- R147: an outcome that counts goes to the Metric Unit and then to the Link Table. -/
theorem State.ownOutcome_of_counted (o : TxOutcome) (hr : s.path.engine = .running)
    (hh : (s.link n).holds node = true) (hc : (s.link n).carrying = true) :
    s.ownOutcome n node o a = (s.setLink n ((s.link n).measureOwn o a)).linkOutcome n o a false := by
  simp [State.ownOutcome, State.isQuiescing_of_running hr, hh, hc]

theorem State.linkOutcome_setLink {l : LinkRec} (o : TxOutcome) (hc : l.carrying = true) :
    (s.setLink n l).linkOutcome n o a false = match o with
      | .delivered =>
        if l.isBlocked then (s.setLink n (LinkRec.flagDelivered { l with undelivered := 0 } a)).unblock n
        else s.setLink n (LinkRec.flagDelivered { l with undelivered := 0 } a)
      | .undelivered =>
        if l.blockThreshold ≤ min 255 (l.undelivered + 1) then
          if l.isActive then (s.setLink n (l.countUndelivered.flagUndelivered a)).enterBlocked n
          else if l.state = .draining then (s.setLink n (l.countUndelivered.flagUndelivered a)).drainBroken n
          else s.setLink n (l.countUndelivered.flagUndelivered a)
        else s.setLink n (l.countUndelivered.flagUndelivered a)
      | .expired => s.setLink n l
      | .aborted => s.setLink n l := by
  unfold State.linkOutcome
  simp only [State.link_setLink_same, hc, Bool.not_true, Bool.false_eq_true, if_false, State.setLink_setLink]
  cases o <;> rfl

variable (hr : s.path.engine = .running) (hh : (s.link n).holds node = true) (hc : (s.link n).carrying = true)
include hr hh hc

/-- R53: a DELIVERED outcome of a link that is not BLOCKED. -/
theorem State.ownOutcome_delivered (hb : (s.link n).isBlocked = false) :
    s.ownOutcome n node .delivered a = s.setLink n ((s.link n).ownDelivered a) := by
  have hc' : ((s.link n).applySample (deliverySample a)).carrying = true := hc
  have hb' : ((s.link n).applySample (deliverySample a)).isBlocked = false := hb
  rw [State.ownOutcome_of_counted _ hr hh hc]
  exact (State.linkOutcome_setLink .delivered hc').trans (if_neg (by rw [hb']; exact Bool.false_ne_true))

/-- R55: a DELIVERED outcome makes a BLOCKED link ACTIVE and has the held list re-evaluated. -/
theorem State.ownOutcome_unblocks (hb : (s.link n).isBlocked = true) :
    s.ownOutcome n node .delivered a = (s.setLink n ((s.link n).ownDelivered a).unblocked).reevaluate := by
  have hc' : ((s.link n).applySample (deliverySample a)).carrying = true := hc
  have hb' : ((s.link n).applySample (deliverySample a)).isBlocked = true := hb
  rw [State.ownOutcome_of_counted _ hr hh hc]
  refine ((State.linkOutcome_setLink .delivered hc').trans (if_pos hb')).trans ?_
  rw [State.unblock, State.setLink_setLink, State.link_setLink_same]
  rfl

/-- R53: an UNDELIVERED outcome below the block threshold, or of a BLOCKED link. -/
theorem State.ownOutcome_undelivered (hk : (s.link n).isBlocked = true ∨
    min 255 ((s.link n).undelivered + 1) < (s.link n).blockThreshold) :
    s.ownOutcome n node .undelivered a = s.setLink n ((s.link n).ownUndelivered a) := by
  have hc' : ((s.link n).applySample 0).carrying = true := hc
  rw [State.ownOutcome_of_counted _ hr hh hc]
  refine (State.linkOutcome_setLink .undelivered hc').trans ?_
  obtain hb | hlt := hk
  · have hact : ((s.link n).applySample 0).isActive = false := by
      change (s.link n).isActive = false
      unfold LinkRec.isBlocked at hb
      unfold LinkRec.isActive
      cases h : (s.link n).state <;> simp [h] at hb ⊢
    have hdrain : ((s.link n).applySample 0).state ≠ .draining := by
      change (s.link n).state ≠ .draining
      intro h
      simp [LinkRec.isBlocked, h] at hb
    simp only [hact, Bool.false_eq_true, if_false, if_neg hdrain, ite_self]
    rfl
  · exact if_neg (Nat.not_le.mpr hlt)

/-- R54: an UNDELIVERED outcome at the block threshold blocks an ACTIVE link. -/
theorem State.ownOutcome_blocks (ha : (s.link n).state = .active)
    (hk : (s.link n).blockThreshold ≤ min 255 ((s.link n).undelivered + 1)) :
    s.ownOutcome n node .undelivered a = (s.setLink n ((s.link n).ownUndelivered a).nowBlocked).divert n := by
  have hc' : ((s.link n).applySample 0).carrying = true := hc
  have hact : ((s.link n).applySample 0).isActive = true := by
    change (s.link n).isActive = true
    simp [LinkRec.isActive, ha]
  rw [State.ownOutcome_of_counted _ hr hh hc]
  refine ((State.linkOutcome_setLink .undelivered hc').trans ((if_pos hk).trans (if_pos hact))).trans ?_
  rw [State.enterBlocked, State.link_setLink_same]
  dsimp only
  rw [State.setLink_setLink]
  rfl

/-- R61: an UNDELIVERED outcome at the block threshold breaks off the drain of a DRAINING link. -/
theorem State.ownOutcome_breaks (hd : (s.link n).state = .draining)
    (hk : (s.link n).blockThreshold ≤ min 255 ((s.link n).undelivered + 1)) :
    s.ownOutcome n node .undelivered a = (s.setLink n ((s.link n).ownUndelivered a)).drainBroken n := by
  have hc' : ((s.link n).applySample 0).carrying = true := hc
  have hact : ((s.link n).applySample 0).isActive = false := by
    change (s.link n).isActive = false
    simp [LinkRec.isActive, hd]
  rw [State.ownOutcome_of_counted _ hr hh hc]
  refine (State.linkOutcome_setLink .undelivered hc').trans ((if_pos hk).trans ?_)
  rw [hact, if_neg Bool.false_ne_true]
  exact if_pos hd

end Outcome

/-! ### What the other blocks hold of the link at the end -/

/-- Seen from `s`, `t` has changed the record of link `n` alone, and has told the Route Table, the Timing Unit and the
pending replies that it is gone exactly when it is SILENT. -/
structure State.LinkTold (s t : State) (n : LinkIx) : Prop where
  others : ∀ m, m ≠ n → t.link m = s.link m
  lost : (t.link n).state = .silent → s.LinkLost t n
  kept : (t.link n).state ≠ .silent → s.LinksKept t

section Told
variable {s u : State} {cs : List CompletionItem} {r : InFlight} {n : LinkIx} {l : LinkRec} {p : Nat}

/-- The outcome left the link in its state: its drain may end with the completion. -/
theorem State.told_setLink (hrun : s.path.engine = .running) (hp : r.pos = p) (hs : l.state = (s.link n).state)
    (hn : l.neighbour = (s.link n).neighbour) (hc : (s.link n).carrying = true)
    (hu : u = ((s.dequeued cs).setLink n l).retire r) :
    s.LinkTold (u.drainTest n) n ∧ (u.drainTest n).pool = s.pool ∧ (u.drainTest n).intake = s.intake ∧
      (u.drainTest n).link n =
        if (s.link n).state = .draining ∧ s.queuedCount n = 0 ∧ s.othersInFlight p n = 0 then l.drained else l := by
  subst hu hp
  have hh : (s.dequeued cs).Handled ((s.dequeued cs).setLink n l) := State.Handled.setLink _ n l
  have hlink : ((s.dequeued cs).setLink n l).link n = l := State.link_setLink_same ..
  have hothers (m : LinkIx) (hm : m ≠ n) : ((((s.dequeued cs).setLink n l).retire r).drainTest n).link m = s.link m := by
    rw [State.retire_drainTest_link_other hm]
    exact State.link_setLink_other _ _ hm.symm
  have hkept : s.LinksKept (((s.dequeued cs).setLink n l).retire r) :=
    State.LinksKept.retire (u := (s.dequeued cs).setLink n l) ⟨rfl, rfl, rfl, rfl⟩
  have hholds (hd : ¬ ((s.link n).state = .draining ∧ s.queuedCount n = 0 ∧ s.othersInFlight r.pos n = 0)) :
      (s.link n).state ≠ .draining ∨ s.queuedCount n ≠ 0 ∨ s.othersInFlight r.pos n ≠ 0 := by tauto
  have hlive : l.state ≠ .silent := fun h => by
    rw [LinkRec.carrying_iff, ← hs, h] at hc
    simp at hc
  refine ⟨?_, State.retire_drainTest_pool, State.retire_drainTest_intake, ?_⟩
  all_goals
    by_cases hd : (s.link n).state = .draining ∧ s.queuedCount n = 0 ∧ s.othersInFlight r.pos n = 0
  · obtain ⟨hdrain, hq, hi⟩ := hd
    have htest := State.retire_drainTest_of_drained (n := n) hh hrun (by rw [hlink, hs, hdrain]) hq hi
    refine ⟨hothers, fun _ => ?_, fun h => absurd ?_ h⟩
    · rw [htest]
      exact hkept.linkLost (by rw [State.retire_link, hlink, hn])
    · rw [htest, State.link_enterDrained, LinkRec.drained_eq]
  · have htest := State.retire_drainTest_of_not (r := r) hh (.inr (by rw [hlink, hs]; exact hholds hd))
    refine ⟨hothers, fun h => absurd ?_ hlive, fun _ => by rw [htest]; exact hkept⟩
    rwa [htest, State.retire_link, hlink] at h
  · obtain ⟨hdrain, hq, hi⟩ := hd
    rw [State.retire_drainTest_of_drained (n := n) hh hrun (by rw [hlink, hs, hdrain]) hq hi, State.link_enterDrained,
      State.retire_link, hlink, if_pos ⟨hdrain, hq, hi⟩]
  · rw [State.retire_drainTest_of_not (r := r) hh (.inr (by rw [hlink, hs]; exact hholds hd)), State.retire_link, hlink,
      if_neg hd]

/-- The outcome left the link out of DRAINING: the drain test at the end changes nothing. -/
theorem State.retire_drainTest_of_live (hh : (s.dequeued cs).Handled u) (hd : (u.link n).state ≠ .draining) :
    (u.retire r).drainTest n = u.retire r := State.retire_drainTest_of_not hh (.inr (.inl hd))

end Told

end Sys2Proof.Machine
end

section
/-!
PROOF. Outcomes of probes and replies that make a BLOCKED link ACTIVE, block an ACTIVE one, or break off a drain (R29,
R31, R36, R54, R55, R61).
-/

namespace Sys2Proof.Machine

section Moves
variable {s u : State} {cs : List CompletionItem} {r : InFlight} {n : LinkIx} {l : LinkRec}

theorem State.Handled.of_eq {t : State} {links : Bank LinkRec 16} {replies : List NodeId} {routes : RouteTable}
    {timing : Timing} {notice : Option TimingNotice} {entries : Bank (Option Frame) 512} {queues : Bank ClassQueues 16}
    {held : List Tag} {backlog : List ReleaseItem} {stage : IntakeStage}
    (h : t = { s with
      linkTable := { s.linkTable with links := links, pendingReplies := replies }
      routes := routes
      timing := timing
      reports := { s.reports with timingLatch := notice }
      pool := { s.pool with entries := entries, queues := queues, heldList := held, backlog := backlog }
      intake := { s.intake with stage := stage } }) : s.Handled t := by
  subst h
  exact ⟨rfl⟩

theorem State.Handled.reevaluate (s : State) : s.Handled s.reevaluate := .of_eq s.reevaluate_eq

theorem State.MovedOut.handled {t : State} {ts : List Tag} {dest : Tag → Option Frame}
    (k : s.MovedOut t n ts dest) : s.Handled t := .of_eq k.rest

theorem State.retire_lookup (d : NodeId) : (u.retire r).lookup d = u.lookup d :=
  State.lookup_congr (by simp [State.retire]) State.retire_routes
    (fun m => by rw [State.retire_link]; exact ⟨rfl, rfl⟩) d

theorem State.LinkLost.retire (h : s.LinkLost u n) : s.LinkLost (u.retire r) n where
  routes := by rw [State.retire_routes]; exact h.routes
  replies := by rw [State.retire_linkTable]; exact h.replies
  parent := by rw [State.retire_timing, State.retire_reports]; exact h.parent
  others := by rw [State.retire_timing, State.retire_reports]; exact h.others

/-- The link is neither DRAINING nor SILENT, and no link was lost. -/
theorem State.told_of_live (hh : (s.dequeued cs).Handled u) (hd : (u.link n).state ≠ .draining)
    (hs : (u.link n).state ≠ .silent) (hkept : s.LinksKept u) (hothers : ∀ m, m ≠ n → u.link m = s.link m) :
    s.LinkTold ((u.retire r).drainTest n) n := by
  rw [State.retire_drainTest_of_live hh hd]
  refine ⟨fun m hm => (State.retire_link m).trans (hothers m hm), fun h => absurd ?_ hs, fun _ => hkept.retire⟩
  rwa [State.retire_link] at h

/-! ### Unblocking (R55, R31) -/

/-- What the completion that makes link `n` ACTIVE again has done. -/
structure State.Unblocked (s t : State) (n : LinkIx) (l : LinkRec) : Prop where
  told : s.LinkTold t n
  link : t.link n = l
  held : s.Reevaluated t
  frames : ∀ g, g ∉ s.pool.heldList → t.frame g = s.frame g
  backlog : t.pool.backlog = s.pool.backlog
  intake : t.intake = s.intake

theorem State.unblocked_completed (h : s.PoolOk) (hl : l.state = .active)
    (hb : l.defaultBudget = (s.link n).defaultBudget) :
    (s.dequeued cs).Handled ((s.dequeued cs).setLink n l).reevaluate ∧
      s.Unblocked (((((s.dequeued cs).setLink n l).reevaluate).retire r).drainTest n) n l := by
  have hh : (s.dequeued cs).Handled ((s.dequeued cs).setLink n l).reevaluate :=
    (State.Handled.setLink _ n l).trans (.reevaluate _)
  have hlinks (m : LinkIx) :
      (((s.dequeued cs).setLink n l).reevaluate).link m = ((s.dequeued cs).setLink n l).link m := by
    rw [State.reevaluate_eq]; rfl
  have hln : (((s.dequeued cs).setLink n l).reevaluate).link n = l := (hlinks n).trans (State.link_setLink_same ..)
  have hother (m : LinkIx) (hm : m ≠ n) : ((s.dequeued cs).setLink n l).link m = s.link m :=
    State.link_setLink_other _ _ hm.symm
  have hlive := State.retire_drainTest_of_live (r := r) (n := n) hh (by rw [hln, hl]; exact nofun)
  have hkept : s.LinksKept ((s.dequeued cs).setLink n l).reevaluate := by
    rw [State.reevaluate_eq]; exact ⟨rfl, rfl, rfl, rfl⟩
  have htold := State.told_of_live (r := r) hh (by rw [hln, hl]; exact nofun) (by rw [hln, hl]; exact nofun) hkept
    fun m hm => (hlinks m).trans (hother m hm)
  obtain ⟨hheld, hframes⟩ := h.reevaluated (u := (s.dequeued cs).setLink n l)
    (t := (((s.dequeued cs).setLink n l).reevaluate).retire r) rfl (fun m => by
      by_cases hm : m = n
      · rw [hm, State.link_setLink_same, hb]
      · rw [hother m hm]) (State.retire_pool ..) (fun d => by
      rw [State.retire_lookup]
      exact State.lookup_congr (by rw [State.reevaluate_eq]) (by rw [State.reevaluate_eq])
        (fun m => by rw [hlinks]; exact ⟨rfl, rfl⟩) d)
  rw [hlive] at htold ⊢
  refine ⟨hh, htold, (State.retire_link n).trans hln, hheld, hframes, ?_, ?_⟩
  · rw [State.retire_pool, State.reevaluate_eq]; rfl
  · rw [State.retire_intake, State.reevaluate_eq]; rfl

/-! ### Blocking (R54, R29) -/

/-- What the completion that blocks link `n` has done. -/
structure State.Blocks (s t : State) (n : LinkIx) (l : LinkRec) : Prop where
  told : s.LinkTold t n
  link : t.link n = l
  held : t.pool.heldList = s.pool.heldList
  backlog : t.pool.backlog = s.pool.backlog
  diverted : s.Diverted t n (fun _ _ => [])
  frames : ∀ g, g ∉ (s.queuesOf n).all → t.frame g = s.frame g

theorem State.blocks_completed {hold : Nat} (h : s.PoolOk) (hl : l.state = .blocked hold) :
    (s.dequeued cs).Handled (((s.dequeued cs).setLink n l).divert n) ∧
      s.Blocks (((((s.dequeued cs).setLink n l).divert n).retire r).drainTest n) n l := by
  have hvok : ((s.dequeued cs).setLink n l).PoolOk := h.congr rfl
  have hvl : ((s.dequeued cs).setLink n l).link n = l := State.link_setLink_same ..
  have k := hvok.movedOut_divert (n := n) (by rw [hvl, hl]; exact nofun)
  have hh : (s.dequeued cs).Handled (((s.dequeued cs).setLink n l).divert n) :=
    (State.Handled.setLink _ n l).trans k.handled
  have hlinks (m : LinkIx) :
      (((s.dequeued cs).setLink n l).divert n).link m = ((s.dequeued cs).setLink n l).link m := by
    rw [k.rest]; rfl
  have hln : (((s.dequeued cs).setLink n l).divert n).link n = l := (hlinks n).trans hvl
  have hkept : s.LinksKept (((s.dequeued cs).setLink n l).divert n) := by rw [k.rest]; exact ⟨rfl, rfl, rfl, rfl⟩
  have hlive := State.retire_drainTest_of_live (r := r) (n := n) hh (by rw [hln, hl]; exact nofun)
  have htold := State.told_of_live (r := r) hh (by rw [hln, hl]; exact nofun) (by rw [hln, hl]; exact nofun) hkept
    fun m hm => (hlinks m).trans (State.link_setLink_other _ _ hm.symm)
  obtain ⟨hheld, hback, hdiv, hframes⟩ := h.diverted (v := (s.dequeued cs).setLink n l)
    (t := (((s.dequeued cs).setLink n l).divert n).retire r) rfl rfl (by rw [hvl, hl]; exact nofun)
    (State.retire_pool ..) State.retire_intake (fun d => by rw [State.retire_lookup, k.lookup])
  rw [hlive] at htold ⊢
  exact ⟨hh, htold, (State.retire_link n).trans hln, hheld, hback, hdiv, hframes⟩

/-! ### A drain that is broken off (R61, R36) -/

/-- What the completion that breaks off the drain of link `n` has done. -/
structure State.DrainBroken (s t : State) (n : LinkIx) (l : LinkRec) : Prop where
  told : s.LinkTold t n
  link : t.link n = l
  held : t.pool.heldList = s.pool.heldList
  cut : s.QueueCut t n (fun _ _ => [])
  backlog : t.pool.backlog = s.pool.backlog ++ (s.queuesOf n).all.map ReleaseItem.entry
  frames : ∀ g, g ∉ (s.queuesOf n).all → t.frame g = s.frame g

theorem State.PoolOk.drainBroken_eq (h : s.PoolOk) : s.drainBroken n = { s with
    linkTable := { s.linkTable with
      links := bankPut s.linkTable.links n (s.link n).drained
      pendingReplies := s.linkTable.pendingReplies.filter fun x => some x != (s.link n).neighbour }
    routes := s.routes.dropLink n
    pool := (s.silenced n).pool
    intake := (s.silenced n).intake
    timing := (s.timingLinkLost n).timing
    reports := (s.timingLinkLost n).reports } := by
  rw [State.drainBroken, h.enterSilent_eq]
  simp [State.setLink, State.link, bankPut_bankPut, LinkRec.drained]

theorem State.PoolOk.handled_drainBroken (h : s.PoolOk) : s.Handled (s.drainBroken n) := by
  have heq := h.drainBroken_eq (n := n)
  rw [h.silenced_pool, h.silenced_intake, State.timingLinkLost_reports] at heq
  exact .of_eq heq

theorem State.PoolOk.linkLost_drainBroken (h : s.PoolOk) : s.LinkLost (s.drainBroken n) n := by
  rw [h.drainBroken_eq]
  exact {
    routes := s.routes.linkDropped_dropLink n
    replies := rfl
    parent := fun hp => by simp [State.timingLinkLost, hp, State.setTiming]
    others := fun hp => by simp [State.timingLinkLost, hp] }

theorem State.drainBroken_completed (h : s.PoolOk) (hn : l.neighbour = (s.link n).neighbour) :
    (s.dequeued cs).Handled (((s.dequeued cs).setLink n l).drainBroken n) ∧
      s.DrainBroken (((((s.dequeued cs).setLink n l).drainBroken n).retire r).drainTest n) n l.drained := by
  have hvok : ((s.dequeued cs).setLink n l).PoolOk := h.congr rfl
  have hh : (s.dequeued cs).Handled (((s.dequeued cs).setLink n l).drainBroken n) :=
    (State.Handled.setLink _ n l).trans hvok.handled_drainBroken
  have hvl : ((s.dequeued cs).setLink n l).link n = l := State.link_setLink_same ..
  have heq := hvok.drainBroken_eq (n := n)
  have hln : (((s.dequeued cs).setLink n l).drainBroken n).link n = l.drained := by
    rw [heq, State.link, bankGet_bankPut_same, hvl]
  have hstate : l.drained.state = .silent := by rw [LinkRec.drained_eq]
  have hlive := State.retire_drainTest_of_live (r := r) (n := n) hh (by rw [hln, hstate]; exact nofun)
  have hpool : (((s.dequeued cs).setLink n l).drainBroken n).pool = (((s.dequeued cs).setLink n l).silenced n).pool := by
    rw [heq]
  have k := hvok.movedOut_silenced (n := n)
  have hlost : s.LinkLost (((s.dequeued cs).setLink n l).drainBroken n) n := by
    obtain ⟨hroutes, hreplies, hparent, hothers⟩ := hvok.linkLost_drainBroken (n := n)
    rw [hvl, hn] at hreplies
    exact ⟨hroutes, hreplies, hparent, hothers⟩
  have hframe (g : Tag) : ((((s.dequeued cs).setLink n l).drainBroken n).retire r).frame g =
      (((s.dequeued cs).setLink n l).silenced n).frame g :=
    State.frame_congr ((State.retire_pool ..).trans hpool) g
  have hqueues (m : LinkIx) : ((((s.dequeued cs).setLink n l).drainBroken n).retire r).queuesOf m =
      (((s.dequeued cs).setLink n l).silenced n).queuesOf m := by
    rw [State.queuesOf, State.retire_pool, hpool, State.queuesOf]
  rw [hlive]
  refine ⟨hh, ⟨fun m hm => ?others, fun _ => hlost.retire, fun hs => absurd ?silent hs⟩,
    (State.retire_link n).trans hln, ?held, ⟨fun x f hx hf => ?cut, ?left, fun m c hm => ?queues, ?intake⟩, ?backlog,
    fun g hg => ?frames⟩
  case others =>
    rw [State.retire_link, heq]
    exact (bankGet_bankPut_other _ _ hm.symm).trans (State.link_setLink_other _ _ hm.symm)
  case silent => rw [State.retire_link, hln, hstate]
  case held => rw [State.retire_pool, hpool, hvok.silenced_pool]; rfl
  case cut => exact (hframe x).trans ((k.moved x hx).trans (congrArg (asReleased .cut) hf))
  case left => exact (hqueues n).trans k.queuesOf_self
  case queues =>
    rw [hqueues, k.joined m c hm]
    simp
    rfl
  case intake =>
    rw [State.retire_intake, heq]
    exact k.intake_eq
  case backlog => rw [State.retire_pool, hpool, hvok.silenced_pool]; rfl
  case frames => exact (hframe g).trans (k.stayed g hg)

end Moves

end Sys2Proof.Machine
end

section
/-!
PROOF. The outcomes of probes and replies that count, as the statement has them.
-/

namespace Sys2Proof.Machine

section Records
variable {l : LinkRec} {a : Nat}

theorem LinkRec.drained_of_idle (hc : l.climbing = false) :
    l.drained = { l with state := .silent, attention := l.attention ||| 32 } := by
  rw [LinkRec.drained_eq, hc]
  cases l
  simp_all

/-- The record after a DELIVERED own frame, with its state and attention written out. -/
theorem LinkRec.ownDelivered_eq {st : LinkState} {x : BitVec 8} (hs : st = l.state) (hx : x = l.attention) :
    l.ownDelivered a = { l with
      estimate := average l.estimate (deliverySample a) l.weight
      cost := costOf l.rate (l.ownDelivered a).estimate
      state := st
      undelivered := 0
      lastDelivered := true
      lastRetried := decide (1 < a)
      sticky := { l.sticky with costSaturated := l.sticky.costSaturated || (l.ownDelivered a).cost == 65535 }
      attention := x } := by
  subst hs hx
  rfl

theorem LinkRec.isBlocked_iff : l.isBlocked = true ↔ ∃ hold, l.state = .blocked hold := by
  unfold LinkRec.isBlocked
  cases h : l.state <;> simp

theorem LinkRec.live_cases (hc : l.carrying = true) (hb : l.isBlocked = false) :
    l.state = .active ∨ l.state = .draining := by
  obtain h | ⟨hold, h⟩ | h := LinkRec.carrying_iff.mp hc
  · exact .inl h
  · rw [LinkRec.isBlocked_iff.mpr ⟨hold, h⟩] at hb; cases hb
  · exact .inr h

end Records

section Counted
variable {s t : State} {c : CompletionItem} {cs : List CompletionItem} {r : InFlight} {b : BufIx} {n : LinkIx}
  {node : NodeId} {a p : Nat}

/-- What a DELIVERED probe or reply comes to. -/
structure State.OwnDelivered (s t : State) (n : LinkIx) (a p : Nat) : Prop where
  told : s.LinkTold t n
  link : t.link n = { s.link n with
    estimate := average (s.link n).estimate (deliverySample a) (s.link n).weight
    cost := costOf (s.link n).rate (t.link n).estimate
    state := if (s.link n).state ≠ .draining then .active
      else if s.queuedCount n = 0 ∧ s.othersInFlight p n = 0 then .silent else .draining
    undelivered := 0
    lastDelivered := true
    lastRetried := decide (1 < a)
    sticky := { (s.link n).sticky with
      costSaturated := (s.link n).sticky.costSaturated || (t.link n).cost == 65535 }
    attention := if (s.link n).isBlocked = true then (s.link n).attention ||| 8
      else if (t.link n).state = .silent then (s.link n).attention ||| 32
      else (s.link n).attention }
  blocked : (s.link n).isBlocked = true →
    s.Reevaluated t ∧ (∀ g, g ∉ s.pool.heldList → t.frame g = s.frame g) ∧
    t.pool.backlog = s.pool.backlog ∧ t.intake = s.intake
  other : (s.link n).isBlocked = false → t.pool = s.pool ∧ t.intake = s.intake

theorem State.ownDelivered_completed (hr : s.path.engine = .running) (hh : (s.link n).holds node = true)
    (hc : (s.link n).carrying = true) (hok : s.PoolOk) (hp : r.pos = p)
    (hclimb : (s.link n).state = .draining → (s.link n).climbing = false)
    (ht : t = (((s.dequeued cs).ownOutcome n node .delivered a).retire r).drainTest n) :
    (s.dequeued cs).Handled ((s.dequeued cs).ownOutcome n node .delivered a) ∧ s.OwnDelivered t n a p := by
  have hlink : (s.dequeued cs).link n = s.link n := rfl
  cases hb : (s.link n).isBlocked with
  | true =>
    have hout := State.ownOutcome_unblocks (s := s.dequeued cs) (a := a) hr hh hc hb
    have hdone := State.unblocked_completed (cs := cs) (r := r) (l := ((s.link n).ownDelivered a).unblocked) (n := n)
      hok rfl rfl
    rw [hlink] at hout
    rw [hout] at ht ⊢
    rw [← ht] at hdone
    obtain ⟨hu, htold, hlast, hheld, hframes, hback, hintake⟩ := hdone
    obtain ⟨hold, hst⟩ := LinkRec.isBlocked_iff.mp hb
    refine ⟨hu, htold, ?_, fun _ => ⟨hheld, hframes, hback, hintake⟩, fun h => by rw [hb] at h; cases h⟩
    rw [if_pos (by rw [hst]; exact nofun), if_pos hb, hlast]
    rfl
  | false =>
    have hout := State.ownOutcome_delivered (s := s.dequeued cs) (a := a) hr hh hc hb
    have hdone := State.told_setLink (l := (s.link n).ownDelivered a) (n := n) (cs := cs) hr hp rfl rfl hc rfl
    rw [hlink] at hout
    rw [hout] at ht ⊢
    rw [← ht] at hdone
    obtain ⟨htold, hpool, hintake, hlast⟩ := hdone
    refine ⟨State.Handled.setLink _ n _, htold, ?_, fun h => by (rw [hb] at h; cases h), fun _ => ⟨hpool, hintake⟩⟩
    have hnb : ¬ (s.link n).isBlocked = true := by rw [hb]; exact Bool.false_ne_true
    have hlive : ((s.link n).ownDelivered a).state = (s.link n).state := rfl
    obtain hst | hst := LinkRec.live_cases hc hb
    · have hnd : (s.link n).state ≠ .draining := by rw [hst]; exact nofun
      have hns : ¬ (s.link n).state = .silent := by rw [hst]; exact nofun
      rw [if_neg fun h => hnd h.1] at hlast
      rw [hlast, if_pos hnd, if_neg hnb, hlive, if_neg hns]
      exact LinkRec.ownDelivered_eq hst.symm rfl
    · have hns : ¬ (s.link n).state = .silent := by rw [hst]; exact nofun
      have hnd : ¬ (s.link n).state ≠ .draining := not_not_intro hst
      by_cases hd : s.queuedCount n = 0 ∧ s.othersInFlight p n = 0
      · rw [if_pos ⟨hst, hd⟩, LinkRec.drained_of_idle (l := (s.link n).ownDelivered a) (hclimb hst)] at hlast
        rw [hlast, if_neg hnd, if_neg hnb, if_pos hd, if_pos rfl]
        rfl
      · rw [if_neg fun h => hd h.2] at hlast
        rw [hlast, if_neg hnd, if_neg hnb, if_neg hd, hlive, if_neg hns]
        exact LinkRec.ownDelivered_eq hst.symm rfl

/-- What an UNDELIVERED probe or reply comes to, `l` being the record after its measures. -/
structure State.OwnUndelivered (s t : State) (n : LinkIx) (p : Nat) (l : LinkRec) : Prop where
  told : s.LinkTold t n
  kept : (s.link n).isBlocked = true ∨ min 255 ((s.link n).undelivered + 1) < (s.link n).blockThreshold →
    t.pool = s.pool ∧ t.intake = s.intake ∧
    (t.link n = if (s.link n).state = .draining ∧ s.queuedCount n = 0 ∧ s.othersInFlight p n = 0
      then { l with state := .silent, attention := l.attention ||| 32 } else l)
  blocks : (s.link n).state = .active →
    (s.link n).blockThreshold ≤ min 255 ((s.link n).undelivered + 1) →
    t.link n = { l with
      state := .blocked (s.link n).blockHold
      attention := l.attention ||| 4
      sticky := { l.sticky with blockedSeen := true }
      climbing := false
      climb := if (s.link n).climbing = true then (s.link n).climb.map fun x => { x with run := 0 }
        else (s.link n).climb } ∧
    t.pool.heldList = s.pool.heldList ∧ t.pool.backlog = s.pool.backlog ∧
    s.Diverted t n (fun _ _ => []) ∧
    ∀ g, g ∉ (s.queuesOf n).all → t.frame g = s.frame g
  breaks : (s.link n).state = .draining →
    (s.link n).blockThreshold ≤ min 255 ((s.link n).undelivered + 1) →
    t.link n = { l with state := .silent, attention := l.attention ||| 32 } ∧
    t.pool.heldList = s.pool.heldList ∧ s.QueueCut t n (fun _ _ => []) ∧
    t.pool.backlog = s.pool.backlog ++ (s.queuesOf n).all.map ReleaseItem.entry ∧
    ∀ g, g ∉ (s.queuesOf n).all → t.frame g = s.frame g

theorem State.ownUndelivered_completed (hr : s.path.engine = .running) (hh : (s.link n).holds node = true)
    (hc : (s.link n).carrying = true) (hok : s.PoolOk) (hp : r.pos = p)
    (hclimb : (s.link n).state = .draining → (s.link n).climbing = false)
    (ht : t = (((s.dequeued cs).ownOutcome n node .undelivered a).retire r).drainTest n) :
    (s.dequeued cs).Handled ((s.dequeued cs).ownOutcome n node .undelivered a) ∧
      s.OwnUndelivered t n p ((s.link n).ownUndelivered a) := by
  have hlink : (s.dequeued cs).link n = s.link n := rfl
  by_cases hk : (s.link n).isBlocked = true ∨ min 255 ((s.link n).undelivered + 1) < (s.link n).blockThreshold
  · have hout := State.ownOutcome_undelivered (s := s.dequeued cs) (a := a) hr hh hc hk
    have hdone := State.told_setLink (l := (s.link n).ownUndelivered a) (n := n) (cs := cs) hr hp rfl rfl hc rfl
    rw [hlink] at hout
    rw [hout] at ht ⊢
    rw [← ht] at hdone
    obtain ⟨htold, hpool, hintake, hlast⟩ := hdone
    have hfalse (hst : (s.link n).state = .active ∨ (s.link n).state = .draining)
        (hover : (s.link n).blockThreshold ≤ min 255 ((s.link n).undelivered + 1)) : False := by
      obtain hb | hlt := hk
      · obtain ⟨hold, hb⟩ := LinkRec.isBlocked_iff.mp hb
        rw [hb] at hst
        obtain h | h := hst <;> cases h
      · exact absurd hover (Nat.not_le.mpr hlt)
    refine ⟨State.Handled.setLink _ n _, htold, fun _ => ⟨hpool, hintake, ?_⟩,
      fun hst hover => (hfalse (.inl hst) hover).elim, fun hst hover => (hfalse (.inr hst) hover).elim⟩
    rw [hlast]
    split_ifs with hd
    · exact LinkRec.drained_of_idle (hclimb hd.1)
    · rfl
  · obtain ⟨hb, hover⟩ := not_or.mp hk
    rw [Nat.not_lt] at hover
    obtain hst | hst := LinkRec.live_cases hc (by simpa using hb)
    · have hout := State.ownOutcome_blocks (s := s.dequeued cs) (a := a) hr hh hc hst hover
      have hdone := State.blocks_completed (cs := cs) (r := r) (l := ((s.link n).ownUndelivered a).nowBlocked) (n := n)
        (hold := (s.link n).blockHold) hok (by rw [LinkRec.nowBlocked, LinkRec.climbEnded_eq]; rfl)
      rw [hlink] at hout
      rw [hout] at ht ⊢
      rw [← ht] at hdone
      obtain ⟨hu, htold, hlast, hheld, hback, hdiv, hframes⟩ := hdone
      refine ⟨hu, htold, fun h => absurd h hk, fun _ _ => ⟨?_, hheld, hback, hdiv, hframes⟩,
        fun h => by rw [hst] at h; cases h⟩
      rw [hlast, LinkRec.nowBlocked, LinkRec.climbEnded_eq]
      rfl
    · have hout := State.ownOutcome_breaks (s := s.dequeued cs) (a := a) hr hh hc hst hover
      have hdone := State.drainBroken_completed (cs := cs) (r := r) (l := (s.link n).ownUndelivered a) (n := n) hok rfl
      rw [hlink] at hout
      rw [hout] at ht ⊢
      rw [← ht] at hdone
      obtain ⟨hu, htold, hlast, hheld, hcut, hback, hframes⟩ := hdone
      refine ⟨hu, htold, fun h => absurd h hk, fun h => by (rw [hst] at h; cases h),
        fun _ _ => ⟨?_, hheld, hcut, hback, hframes⟩⟩
      rw [hlast]
      exact LinkRec.drained_of_idle (hclimb hst)

end Counted

end Sys2Proof.Machine
end

section
/-!
PROOF. What a completion does to the blocks does not depend on the held-write slot nor on the accesses that wait there
(R146, R168): each operation of its handling is the same whatever stands in them.
-/

namespace Sys2Proof.Machine

/-- The state with another held-write slot and other waiting accesses. -/
def State.withSlot (s : State) (x : HeldSlot) (w : List Access) : State :=
  { s with path := { s.path with slot := x, waiting := w } }

section Slot
variable {s : State} {x : HeldSlot} {w : List Access} {n : LinkIx} {g : Tag}

/-! ### What the blocks read -/

@[simp] theorem State.withSlot_link (m : LinkIx) : (s.withSlot x w).link m = s.link m := rfl
@[simp] theorem State.withSlot_frame (u : Tag) : (s.withSlot x w).frame u = s.frame u := rfl
@[simp] theorem State.withSlot_lookup (d : NodeId) : (s.withSlot x w).lookup d = s.lookup d :=
  State.lookup_congr rfl rfl (fun _ => ⟨rfl, rfl⟩) d
@[simp] theorem State.withSlot_isQuiescing : (s.withSlot x w).isQuiescing = s.isQuiescing := rfl

/-! ### Updates -/

@[simp] theorem State.withSlot_setLink (l : LinkRec) :
    (s.withSlot x w).setLink n l = (s.setLink n l).withSlot x w := rfl
@[simp] theorem State.withSlot_setFrame (f : Option Frame) :
    (s.withSlot x w).setFrame g f = (s.setFrame g f).withSlot x w := rfl
@[simp] theorem State.withSlot_unqueue : (s.withSlot x w).unqueue n g = (s.unqueue n g).withSlot x w := rfl
@[simp] theorem State.withSlot_unhold : (s.withSlot x w).unhold g = (s.unhold g).withSlot x w := rfl
@[simp] theorem State.withSlot_pushTail (c : TrafficClass) :
    (s.withSlot x w).pushTail n c g = (s.pushTail n c g).withSlot x w := rfl
@[simp] theorem State.withSlot_pushHead (c : TrafficClass) :
    (s.withSlot x w).pushHead n c g = (s.pushHead n c g).withSlot x w := rfl
@[simp] theorem State.withSlot_pushHeld : (s.withSlot x w).pushHeld g = (s.pushHeld g).withSlot x w := rfl
@[simp] theorem State.withSlot_pushBacklog (i : ReleaseItem) :
    (s.withSlot x w).pushBacklog i = (s.pushBacklog i).withSlot x w := rfl
@[simp] theorem State.withSlot_routeLinkLost :
    (s.withSlot x w).routeLinkLost n = (s.routeLinkLost n).withSlot x w := rfl
@[simp] theorem State.withSlot_dropReply : (s.withSlot x w).dropReply n = (s.dropReply n).withSlot x w := rfl

@[simp] theorem State.withSlot_timingLinkLost :
    (s.withSlot x w).timingLinkLost n = (s.timingLinkLost n).withSlot x w := by
  unfold State.timingLinkLost
  by_cases h : s.timing.state.parent = some n
  · rw [if_pos h]
    exact if_pos h
  · rw [if_neg h]
    exact if_neg h

@[simp] theorem State.withSlot_signalIntake :
    (s.withSlot x w).signalIntake n = (s.signalIntake n).withSlot x w := by
  rw [State.signalIntake_eq, State.signalIntake_eq]
  rfl

/-! ### The drain test and the releases -/

@[simp] theorem State.withSlot_enterDrained :
    (s.withSlot x w).enterDrained n = (s.enterDrained n).withSlot x w := by
  simp [State.enterDrained]

@[simp] theorem State.withSlot_drainTest : (s.withSlot x w).drainTest n = (s.drainTest n).withSlot x w := by
  unfold State.drainTest
  by_cases h : (s.isRunning && (s.link n).state == .draining && s.queuedCount n == 0 && s.inFlightCount n == 0) = true
  · rw [if_pos h, ← State.withSlot_enterDrained]
    exact if_pos h
  · rw [if_neg h]
    exact if_neg h

@[simp] theorem State.withSlot_countFell : (s.withSlot x w).countFell n = (s.countFell n).withSlot x w := by
  simp [State.countFell]

@[simp] theorem State.withSlot_release (st : ReleaseStatus) :
    (s.withSlot x w).release g st = (s.release g st).withSlot x w := by
  cases hf : s.frame g with
  | none => rw [State.release_of_free st hf]; exact State.release_of_free st hf
  | some f =>
    have hf' : (s.withSlot x w).frame g = some f := hf
    by_cases hi : f.inFlight = true
    · rw [State.release_of_inFlight st hf hi, State.release_of_inFlight st hf' hi]
      rfl
    · cases hp : f.place with
      | queued m =>
        rw [State.release_of_queued st hf hp, State.release_of_queued st hf' hp]
        simp
      | held =>
        rw [State.release_of_held st hf hp, State.release_of_held st hf' hp]
        rfl
      | releasing st' =>
        rw [State.release_of_releasing st hf hp, State.release_of_releasing st hf' hp]
      | inRing m d => exact absurd (Frame.inFlight_iff.mpr ⟨m, d, .inl hp⟩) hi
      | fetched m d => exact absurd (Frame.inFlight_iff.mpr ⟨m, d, .inr hp⟩) hi

/-- Operations that do not depend on the slot do not when made one after another. -/
theorem State.withSlot_foldl {α : Type} {f : State → α → State}
    (hf : ∀ (s : State) (a : α), f (s.withSlot x w) a = (f s a).withSlot x w) (l : List α) :
    ∀ s : State, l.foldl f (s.withSlot x w) = (l.foldl f s).withSlot x w := by
  induction l with
  | nil => exact fun _ => rfl
  | cons a l ih => exact fun s => by rw [List.foldl_cons, List.foldl_cons, hf, ih]

@[simp] theorem State.withSlot_releaseAll (st : ReleaseStatus) (ts : List Tag) :
    ∀ s : State, (s.withSlot x w).releaseAll st ts = (s.releaseAll st ts).withSlot x w := by
  induction ts with
  | nil => exact fun _ => rfl
  | cons g ts ih => exact fun s => by rw [State.releaseAll, State.releaseAll, State.withSlot_release, ih]

@[simp] theorem State.withSlot_cutRelease : (s.withSlot x w).cutRelease n = (s.cutRelease n).withSlot x w :=
  State.withSlot_releaseAll ..

@[simp] theorem State.withSlot_releaseInFlight (st : ReleaseStatus) :
    (s.withSlot x w).releaseInFlight g st = (s.releaseInFlight g st).withSlot x w := by
  cases hi : (s.frame g).any Frame.inFlight with
  | false => rw [State.releaseInFlight_of_not st hi]; exact State.releaseInFlight_of_not st hi
  | true =>
    rw [State.releaseInFlight_of_inFlight st hi]
    exact State.releaseInFlight_of_inFlight (s := s.withSlot x w) st hi

/-! ### Placement, diversion and re-evaluation -/

@[simp] theorem State.withSlot_placeReturned (f : Frame) (target : Option LinkIx) :
    (s.withSlot x w).placeReturned g f target = (s.placeReturned g f target).withSlot x w := by
  unfold State.placeReturned
  cases target with
  | some m => rfl
  | none =>
    have hroom : (s.withSlot x w).heldRoom = s.heldRoom := rfl
    simp only [hroom]
    cases f.mode == .table && s.heldRoom <;> simp

@[simp] theorem State.withSlot_requeue : (s.withSlot x w).requeue g = (s.requeue g).withSlot x w := by
  unfold State.requeue
  simp only [State.withSlot_frame]
  cases s.frame g with
  | none => rfl
  | some f =>
    have hown : (s.withSlot x w).ownTarget f = s.ownTarget f := rfl
    simp only [hown, State.withSlot_lookup]
    cases !f.inFlight with
    | true => rfl
    | false => cases f.budget.getD 0 <;> simp

@[simp] theorem State.withSlot_expiryReturn :
    (s.withSlot x w).expiryReturn g = (s.expiryReturn g).withSlot x w := by
  unfold State.expiryReturn
  simp only [State.withSlot_frame]
  cases s.frame g with
  | none => rfl
  | some f =>
    have hown : (s.withSlot x w).ownTarget f = s.ownTarget f := rfl
    simp only [hown, State.withSlot_lookup]
    cases !f.inFlight with
    | true => rfl
    | false => by_cases he : f.expiry = 0 <;> simp [he]

theorem State.withSlot_divertOne (n : LinkIx) (s : State) (g : Tag) :
    (s.withSlot x w).divertOne n g = (s.divertOne n g).withSlot x w := by
  unfold State.divertOne
  simp only [State.withSlot_frame, State.withSlot_lookup]
  cases s.frame g with
  | none => rfl
  | some f =>
    cases hmode : f.mode with
    | via => simp only [hmode]
    | table =>
      cases hl : s.lookup f.dest with
      | none => simp only [hmode, hl]
      | some m => by_cases hm : m = n <;> simp [hmode, hl, hm, State.moveTail]

@[simp] theorem State.withSlot_divert : (s.withSlot x w).divert n = (s.divert n).withSlot x w :=
  State.withSlot_foldl (State.withSlot_divertOne n) _ s

theorem State.withSlot_reevaluateOne (s : State) (g : Tag) :
    (s.withSlot x w).reevaluateOne g = (s.reevaluateOne g).withSlot x w := by
  unfold State.reevaluateOne
  simp only [State.withSlot_frame, State.withSlot_lookup]
  cases s.frame g with
  | none => rfl
  | some f => cases hl : s.lookup f.dest <;> simp [hl]

@[simp] theorem State.withSlot_reevaluate : (s.withSlot x w).reevaluate = s.reevaluate.withSlot x w :=
  State.withSlot_foldl State.withSlot_reevaluateOne _ s

/-! ### The link's changes of state -/

@[simp] theorem State.withSlot_unblock : (s.withSlot x w).unblock n = (s.unblock n).withSlot x w := by
  simp [State.unblock]

@[simp] theorem State.withSlot_enterBlocked :
    (s.withSlot x w).enterBlocked n = (s.enterBlocked n).withSlot x w := by
  simp [State.enterBlocked]

@[simp] theorem State.withSlot_enterSilent : (s.withSlot x w).enterSilent n = (s.enterSilent n).withSlot x w := by
  simp [State.enterSilent, State.leaveUsable]

@[simp] theorem State.withSlot_drainBroken : (s.withSlot x w).drainBroken n = (s.drainBroken n).withSlot x w := by
  simp [State.drainBroken]

/-! ### Outcomes -/

@[simp] theorem State.withSlot_linkOutcome (o : TxOutcome) (a : Nat) (data : Bool) :
    (s.withSlot x w).linkOutcome n o a data = (s.linkOutcome n o a data).withSlot x w := by
  unfold State.linkOutcome
  simp only [State.withSlot_link, State.withSlot_setLink, State.withSlot_unblock, State.withSlot_enterBlocked,
    State.withSlot_drainBroken]
  cases !(s.link n).carrying with
  | true => rfl
  | false => cases o <;> simp only [Bool.false_eq_true, if_false] <;> split_ifs <;> rfl

@[simp] theorem State.withSlot_poolOutcome (o : TxOutcome) :
    (s.withSlot x w).poolOutcome g o = (s.poolOutcome g o).withSlot x w := by
  cases o <;> simp [State.poolOutcome]

@[simp] theorem State.withSlot_carriedOutcome (o : TxOutcome) (a : Nat) :
    (s.withSlot x w).carriedOutcome g n o a = (s.carriedOutcome g n o a).withSlot x w := by
  simp [State.carriedOutcome_eq]

@[simp] theorem State.withSlot_dataOutcome (o : TxOutcome) (a : Nat) :
    (s.withSlot x w).dataOutcome g n o a = (s.dataOutcome g n o a).withSlot x w := by
  unfold State.dataOutcome
  simp only [State.withSlot_isQuiescing, State.withSlot_link]
  by_cases hq : s.isQuiescing = true
  · simp [hq]
  · cases (s.link n).state <;> cases o <;> simp [hq]

@[simp] theorem State.withSlot_ownOutcome (node : NodeId) (o : TxOutcome) (a : Nat) :
    (s.withSlot x w).ownOutcome n node o a = (s.ownOutcome n node o a).withSlot x w := by
  unfold State.ownOutcome
  simp only [State.withSlot_isQuiescing, State.withSlot_link, State.withSlot_setLink, State.withSlot_linkOutcome]
  split_ifs <;> rfl

theorem State.withSlot_handleOutcome (r : InFlight) (o : TxOutcome) (a : Nat) :
    (s.withSlot x w).handleOutcome r o a = (s.handleOutcome r o a).withSlot x w := by
  unfold State.handleOutcome
  cases r.carried <;> simp

/-! ### The completion -/

theorem State.withSlot_retire (r : InFlight) : (s.withSlot x w).retire r = (s.retire r).withSlot x w := by
  unfold State.retire State.setMark
  cases index? 256 r.pos <;> rfl

theorem State.withSlot_drainAfter (k : Carried) : (s.withSlot x w).drainAfter k = (s.drainAfter k).withSlot x w := by
  unfold State.drainAfter
  cases k.link? <;> simp

theorem State.withSlot_completed (c : CompletionItem) (cs : List CompletionItem) (r : InFlight) :
    (s.withSlot x w).completed c cs r = (s.completed c cs r).withSlot x w := by
  have hd : (s.withSlot x w).dequeued cs = (s.dequeued cs).withSlot x w := rfl
  rw [State.completed, hd, State.withSlot_handleOutcome, State.withSlot_retire, State.withSlot_drainAfter]
  rfl

/-- R146: the record taken and what is done with it, whatever waits at the port. -/
theorem State.withSlot_takeCompletion : (s.withSlot x w).takeCompletion = s.takeCompletion.withSlot x w := by
  cases hq : s.completion.queue with
  | nil =>
    have hnone (t : State) (h : t.completion.queue = []) : t.takeCompletion = t := by
      unfold State.takeCompletion; rw [h]
    rw [hnone s hq, hnone (s.withSlot x w) hq]
  | cons c cs =>
    cases hm : s.matched c with
    | none =>
      rw [State.takeCompletion_of_unmatched hq hm, State.takeCompletion_of_unmatched (s := s.withSlot x w) hq hm]
      rfl
    | some r =>
      rw [State.takeCompletion_of_matched hq hm, State.takeCompletion_of_matched (s := s.withSlot x w) hq hm,
        State.withSlot_completed]

end Slot

end Sys2Proof.Machine
end

section
/-!
PROOF. A completion write that was WAITING is let in, and what waited behind it proceeds (R164, R168).
-/

namespace Sys2Proof.Machine

section Waiting
variable {s t : State} {x : Access} {xs : List Access}

/-! ### The turn of a waiting access -/

/-- With the slot EMPTY the first access that waits has its turn. -/
theorem State.nextWaiting_of_empty (h : s.path.slot = .empty) : s.nextWaiting [] (x :: xs) = some (x, xs) := by
  have hmust : s.mustWait [] x = false := by
    cases x <;> simp [State.mustWait, h, HeldSlot.range, overlaps]
  rw [State.nextWaiting, hmust]
  rfl

/-- Behind a held write every write waits on. -/
theorem State.nextWaiting_of_held (h : s.path.slot ≠ .empty) (hw : ∀ x ∈ xs, x.isWrite = true) :
    ∀ before, s.nextWaiting before xs = none := by
  induction xs with
  | nil => exact fun _ => rfl
  | cons x xs ih =>
    obtain ⟨hx, hrest⟩ := List.forall_mem_cons.mp hw
    intro before
    have hmust : s.mustWait before x = true := by
      cases x with
      | write b e => simp [State.mustWait, h]
      | read b n => cases hx
    rw [State.nextWaiting, hmust, if_pos rfl]
    exact ih hrest _

theorem State.proceedFor_of_none {fuel : Nat} (h : s.nextWaiting [] s.path.waiting = none) :
    State.proceedFor fuel s = s := by
  cases fuel with
  | zero => rfl
  | succ fuel => rw [State.proceedFor, h]

/-- The access at the head of those that wait has its turn. -/
theorem State.proceedFor_head {fuel : Nat} (hs : s.path.slot = .empty) (hw : s.path.waiting = x :: xs) :
    State.proceedFor (fuel + 1) s =
      State.proceedFor fuel (State.takeAccess { s with path := { s.path with waiting := xs } } x) := by
  rw [State.proceedFor, hw, State.nextWaiting_of_empty hs]

/-! ### Accesses that only pass -/

theorem State.writeAction_congr (he : t.path.engine = s.path.engine) (hw : t.path.windows = s.path.windows)
    (hp : t.pins = s.pins) (b : Nat) (e : List Byte) : t.writeAction b e = s.writeAction b e := by
  unfold State.writeAction
  rw [he, hw, hp]

theorem State.onlyPasses_congr (he : t.path.engine = s.path.engine) (hw : t.path.windows = s.path.windows)
    (hp : t.pins = s.pins) (x : Access) : t.onlyPasses x ↔ s.onlyPasses x := by
  cases x with
  | write b e => exact (State.writeAction_congr he hw hp b e).congr_left
  | read b n =>
    have hpos : t.fetchedPositions b n = s.fetchedPositions b n := by
      unfold State.fetchedPositions
      rw [he, hw]
    exact hpos.congr_left

/-- With a place free in the injection queue, an access that only passes does nothing but its store. -/
theorem State.takeAccess_of_passes (hfull : s.queueFull = false) (h : s.onlyPasses x) :
    s.takeAccess x = { s with mem := memAfter s.mem [x] } := by
  cases x with
  | write b e =>
    have hact : s.writeAction b e = .passes := h
    simp only [State.takeAccess, State.takeWrite, hact, State.yieldPort_of_room hfull]
    rfl
  | read b n =>
    have hpos : s.fetchedPositions b n = [] := h
    simp only [State.takeAccess, State.takeRead, State.yieldPort_of_room hfull, hpos]
    rfl

/-- R164: accesses that only pass all proceed, in order of arrival. -/
theorem State.proceedFor_passes (hslot : s.path.slot = .empty) (hfull : s.queueFull = false)
    (hw : s.path.waiting = xs) (h : ∀ x ∈ xs, s.onlyPasses x) :
    State.proceedFor xs.length s =
      { s with mem := memAfter s.mem xs, path := { s.path with waiting := [] } } := by
  induction xs generalizing s with
  | nil => exact congrArg (fun l => ({ s with path := { s.path with waiting := l } } : State)) hw
  | cons x xs ih =>
    obtain ⟨hx, hrest⟩ := List.forall_mem_cons.mp h
    have hturn : State.takeAccess { s with path := { s.path with waiting := xs } } x =
        { s with mem := memAfter s.mem [x], path := { s.path with waiting := xs } } :=
      State.takeAccess_of_passes (s := { s with path := { s.path with waiting := xs } }) hfull
        ((State.onlyPasses_congr (s := s) rfl rfl rfl x).mpr hx)
    rw [List.length_cons, State.proceedFor_head hslot hw, hturn]
    exact ih (s := { s with mem := memAfter s.mem [x], path := { s.path with waiting := xs } }) hslot hfull rfl
      fun y hy => (State.onlyPasses_congr (s := s) rfl rfl rfl y).mpr (hrest y hy)

/-- R168: a completion record write at its turn takes the slot while the completion queue is full. -/
theorem State.takeAccess_copied_of_full {b q : Nat} {e : List Byte} (h : s.writeAction b e = .copied q)
    (hfull : s.completion.queue.length = 32) : s.takeAccess (.write b e) = s.setSlot (.waiting b e q) := by
  have hroom : ¬ s.completion.queue.length < Config.completionEntries := by
    rw [hfull]; decide
  simp only [State.takeAccess, State.takeWrite, h, State.copyWrite, if_neg hroom]

/-- R168, R164: when that write is the first that waits, the writes behind it wait on. -/
theorem State.proceed_of_copied {b q : Nat} {e : List Byte} (hslot : s.path.slot = .empty)
    (hw : s.path.waiting = .write b e :: xs) (hx : ∀ x ∈ xs, x.isWrite = true) (hact : s.writeAction b e = .copied q)
    (hfull : s.completion.queue.length = 32) : s.proceed = s.withSlot (.waiting b e q) xs := by
  have hact' : State.writeAction { s with path := { s.path with waiting := xs } } b e = .copied q :=
    (State.writeAction_congr (s := s) rfl rfl rfl b e).trans hact
  rw [State.proceed, hw, List.length_cons, State.proceedFor_head hslot hw, State.takeAccess_copied_of_full hact' hfull]
  exact State.proceedFor_of_none (State.nextWaiting_of_held (by simp) hx [])

/-! ### The write that waited for the completion queue -/

/-- The write in the slot, at its turn. -/
theorem State.refillCompletion_of_waiting {a p : Nat} {d : List Byte} (hslot : s.path.slot = .waiting a d p)
    (hroom : s.completion.queue.length < 32) (hfull : s.queueFull = false) :
    s.refillCompletion = (State.proceed { s with
      mem := memWrite s.mem a d
      completion := { s.completion with queue := s.completion.queue ++ [⟨p, d⟩] }
      path := { s.path with slot := .empty } }) := by
  have hentries : s.completion.queue.length < Config.completionEntries := hroom
  have hyield : (s.setSlot .empty).yieldPort = s.setSlot .empty := State.yieldPort_of_room hfull
  simp only [State.refillCompletion, hslot, if_pos hentries, hyield]
  rfl

end Waiting

section Port
variable {s t : State} {c : CompletionItem} {cs : List CompletionItem}

/-- `t` differs from `s` at the Memory Path at most in the marks, and its completion queue is `cs`. -/
structure State.Taken (s t : State) (cs : List CompletionItem) : Prop where
  mem : t.mem = s.mem
  pins : t.pins = s.pins
  path : t.path = { s.path with marks := t.path.marks }
  queue : t.completion.queue = cs

theorem State.Taken.inner {u : State} (h : s.Taken t cs) (k : Inner t u) : s.Taken u cs where
  mem := k.mem.trans h.mem
  pins := k.pins.trans h.pins
  path := by rw [k.path]; exact h.path
  queue := by rw [k.completion]; exact h.queue

theorem State.Taken.retire (h : s.Taken t cs) (r : InFlight) : s.Taken (t.retire r) cs := by
  have hpath : (t.retire r).path = { t.path with marks := (t.retire r).path.marks } := by
    unfold State.retire State.setMark
    cases index? 256 r.pos <;> rfl
  constructor
  · simpa [State.retire] using h.mem
  · simpa [State.retire] using h.pins
  · rw [hpath, h.path]
  · simpa [State.retire] using h.queue

/-- R146: what the row leaves alone when it takes a record. -/
theorem State.taken_takeCompletion (hq : s.completion.queue = c :: cs) : s.Taken s.takeCompletion cs := by
  have hd : s.Taken (s.dequeued cs) cs := ⟨rfl, rfl, rfl, rfl⟩
  cases hm : s.matched c with
  | none =>
    rw [State.takeCompletion_of_unmatched hq hm]
    exact hd
  | some r =>
    rw [State.takeCompletion_of_matched hq hm, State.completed]
    exact ((hd.inner (Inner.handleOutcome ..)).retire r).inner (Inner.drainAfter _ _)

end Port

section Row
variable {s t : State} {c : CompletionItem} {cs : List CompletionItem} {a p : Nat} {d : List Byte}

/-- R168: with a write WAITING the record is taken as with the slot EMPTY, and the write follows. -/
theorem exec_completionProcess_of_waiting (hq : s.quiet = true) (he : s.path.engine ≠ .unanchored)
    (hqueue : s.completion.queue = c :: cs) (hslot : s.path.slot = .waiting a d p) (hroom : cs.length < 32)
    (hfull : s.queueFull = false) (ht : t = (s.withSlot .empty []).takeCompletion) :
    exec .completionProcess (s.withSlot .empty []) = .next t ∧ (s.withSlot .empty []).Taken t cs ∧
      exec .completionProcess s = .next (State.proceed { t with
        mem := memWrite s.mem a d
        completion := { t.completion with queue := cs ++ [⟨p, d⟩] }
        path := { t.path with waiting := s.path.waiting } }) := by
  have htaken : (s.withSlot .empty []).Taken t cs :=
    ht ▸ State.taken_takeCompletion (s := s.withSlot .empty []) hqueue
  have hempty : t.path.slot = .empty := by rw [htaken.path]; rfl
  refine ⟨?_, htaken, ?_⟩
  · rw [exec_completionProcess_eq (s := s.withSlot .empty []) hq he, ← ht,
      State.refillCompletion_of_not_waiting fun a d p => by rw [hempty]; exact nofun]
  · have hback : s.takeCompletion = t.withSlot (.waiting a d p) s.path.waiting := by
      rw [ht, ← State.withSlot_takeCompletion, ← hslot]
      rfl
    have hqueued : (t.withSlot (.waiting a d p) s.path.waiting).completion.queue = cs := htaken.queue
    have hfree : (t.withSlot (.waiting a d p) s.path.waiting).queueFull = false := by
      have hport : (t.withSlot (.waiting a d p) s.path.waiting).path.queue = s.path.queue := by
        change t.path.queue = _
        rw [htaken.path]
        rfl
      unfold State.queueFull at hfull ⊢
      rwa [hport]
    rw [exec_completionProcess_eq hq he, hback,
      State.refillCompletion_of_waiting rfl (by rw [hqueued]; exact hroom) hfree, hqueued]
    have hmem : t.mem = s.mem := htaken.mem
    change Host.Outcome.next (State.proceed { t with
      mem := memWrite t.mem a d
      completion := _
      path := { t.path with slot := .empty, waiting := s.path.waiting } }) = _
    rw [hmem]
    exact congrArg (fun x => Host.Outcome.next (State.proceed { t with
      mem := memWrite s.mem a d
      completion := { t.completion with queue := cs ++ [⟨p, d⟩] }
      path := { t.path with slot := x, waiting := s.path.waiting } })) hempty.symm

end Row

end Sys2Proof.Machine
end

section
/-!
PROOF. The completion records of own frames, unmatched records and a completion write that waits, as the statement
has them.
-/

namespace Sys2Proof.Machine

section Row
variable {s t : State} {c : CompletionItem} {cs : List CompletionItem} {r : InFlight} {b : BufIx} {n : LinkIx}
  {node : NodeId} {a p : Nat} {d : List Byte}

/-- The row of an own frame whose outcome counts: the handling `hu` is within the blocks, and the record is retired. -/
theorem exec_completionProcess_of_own (hown : r.OwnOf b n node) (hq : s.quiet = true)
    (he : s.path.engine ≠ .unanchored) (hw : ∀ a d p, s.path.slot ≠ .waiting a d p)
    (hqueue : s.completion.queue = c :: cs) (hp : c.pos = s.completion.consumer) (hi : txcIndex c.record = c.pos)
    (hr : s.inFlightAt c.pos = some r) (hl : r.lap = txcLap c.record)
    (hu : (s.dequeued cs).Handled
      ((s.dequeued cs).ownOutcome n node (txcOutcome c.record) (txcAttempts c.record))) :
    exec .completionProcess s = .next (s.completed c cs r) ∧
      s.Retired (s.completed c cs r) cs c.pos (bankPut s.sched.buffers b none) := by
  have hbuffers : (s.sched.freeBuffer r.carried).buffers = bankPut s.sched.buffers b none := by
    simp only [Scheduler.freeBuffer, hown.buffer]
  refine ⟨exec_completionProcess_of_matched hq he hw hqueue hp hi hr hl, ?_⟩
  rw [State.completed_of_own hown, ← State.pos_of_inFlightAt hr, ← hbuffers]
  exact (State.retired_retire hu).handled (State.Handled.drainTest _ n)

/-- R168: the accesses behind a WAITING completion write, when they only pass. -/
theorem exec_completionProcess_of_passes (ht : (s.withSlot .empty []).Taken t cs)
    (hexec : exec .completionProcess s = .next (State.proceed { t with
      mem := memWrite s.mem a d
      completion := { t.completion with queue := cs ++ [⟨p, d⟩] }
      path := { t.path with waiting := s.path.waiting } }))
    (hfull : s.queueFull = false) (hx : ∀ x ∈ s.path.waiting, s.onlyPasses x) :
    exec .completionProcess s = .next { t with
      mem := memAfter (memWrite s.mem a d) s.path.waiting
      completion := { t.completion with queue := cs ++ [⟨p, d⟩] } } := by
  have hpath := ht.path
  have hproceed := State.proceedFor_passes (xs := s.path.waiting) (s := { t with
      mem := memWrite s.mem a d
      completion := { t.completion with queue := cs ++ [⟨p, d⟩] }
      path := { t.path with waiting := s.path.waiting } })
    (by dsimp only; rw [hpath]; rfl)
    (by unfold State.queueFull at hfull ⊢; dsimp only; rw [hpath]; exact hfull) rfl
    fun x hmem => (State.onlyPasses_congr (s := s) (by rw [hpath]; rfl) (by rw [hpath]; rfl)
      ht.pins x).mpr (hx x hmem)
  have hnone : t.path.waiting = [] := by rw [hpath]; rfl
  rw [hexec]
  refine congrArg Host.Outcome.next (hproceed.trans ?_)
  exact congrArg (fun l => ({ t with
    mem := memAfter (memWrite s.mem a d) s.path.waiting
    completion := { t.completion with queue := cs ++ [⟨p, d⟩] }
    path := { t.path with waiting := l } } : State)) hnone.symm

/-- R168: the first access behind it is another completion record, for which the queue has no place. -/
theorem exec_completionProcess_of_refilled {e : List Byte} {q k : Nat} {xs : List Access}
    (ht : (s.withSlot .empty []).Taken t cs)
    (hexec : exec .completionProcess s = .next (State.proceed { t with
      mem := memWrite s.mem a d
      completion := { t.completion with queue := cs ++ [⟨p, d⟩] }
      path := { t.path with waiting := s.path.waiting } }))
    (hw : s.path.waiting = .write k e :: xs) (hact : s.writeAction k e = .copied q) (hlen : cs.length = 31)
    (hx : ∀ x ∈ xs, x.isWrite = true) :
    exec .completionProcess s = .next { t with
      mem := memWrite s.mem a d
      completion := { t.completion with queue := cs ++ [⟨p, d⟩] }
      path := { t.path with slot := .waiting k e q, waiting := xs } } := by
  have hpath := ht.path
  rw [hexec]
  refine congrArg Host.Outcome.next (State.proceed_of_copied ?_ hw hx ?_ ?_)
  · dsimp only
    rw [hpath]
    rfl
  · exact (State.writeAction_congr (s := s) (by rw [hpath]; rfl) (by rw [hpath]; rfl)
      ht.pins k e).trans hact
  · simp [hlen]

end Row

/-- Settles O33: an own frame's outcome is one change of its link's record with what follows in the pool; a write that
waits is let in after the same handling. -/
theorem completionsAreMatchedAndRetired : Obligations.CompletionsAreMatchedAndRetired := by
  intro s c cs hq he hqueue
  refine ⟨fun hw hun => ?unmatched, fun r b hw hp hi hr hl hown => ?ignored,
    fun r b n node hw hp hi hr hl hown hrun hholds hcarry hclimb hok hout => ?counted,
    fun a p d hslot hroom hfull => ?waiting⟩
  case unmatched =>
    exact exec_completionProcess_of_unmatched hq he hw hqueue (State.matched_none hun)
  case ignored =>
    rw [exec_completionProcess_of_matched hq he hw hqueue hp hi hr hl]
    have hpos := State.pos_of_inFlightAt hr
    obtain hbeacon | ⟨n, node, hown, hcount⟩ := hown
    · exact congrArg Host.Outcome.next (State.completed_of_ignored (n := 0) (node := 0) hpos (by rw [hbeacon]; rfl)
        (.inl ⟨fun s o a => by simp only [State.handleOutcome, hbeacon], by rw [hbeacon]; rfl⟩))
    · have hown := InFlight.ownOf hown
      exact congrArg Host.Outcome.next (State.completed_of_ignored hpos hown.buffer (.inr ⟨hown, hcount⟩))
  case counted =>
    have hown := InFlight.ownOf hown
    have hpos := State.pos_of_inFlightAt hr
    have hrow := exec_completionProcess_of_own hown hq he hw hqueue hp hi hr hl
    have hcompleted := State.completed_of_own (s := s) (c := c) (cs := cs) hown
    obtain ho | ho := hout
    · rw [ho] at hrow hcompleted
      obtain ⟨hu, hdone⟩ := State.ownDelivered_completed hrun hholds hcarry hok hpos hclimb hcompleted
      obtain ⟨hexec, hret⟩ := hrow hu
      exact ⟨_, hexec, hret.state, hret.mark, hret.marks, hdone.told.others, hdone.told.lost, hdone.told.kept,
        fun _ => ⟨hdone.link, hdone.blocked, hdone.other⟩, fun l h => by rw [ho] at h; cases h⟩
    · rw [ho] at hrow hcompleted
      obtain ⟨hu, hdone⟩ := State.ownUndelivered_completed hrun hholds hcarry hok hpos hclimb hcompleted
      obtain ⟨hexec, hret⟩ := hrow hu
      refine ⟨_, hexec, hret.state, hret.mark, hret.marks, hdone.told.others, hdone.told.lost, hdone.told.kept,
        fun h => by (rw [ho] at h; cases h), fun l _ hrec => ?_⟩
      have hrec : l = (s.link n).ownUndelivered (txcAttempts c.record) := hrec
      rw [hrec]
      exact ⟨hdone.kept, hdone.blocks, hdone.breaks⟩
  case waiting =>
    obtain ⟨hexec, htaken, hnext⟩ := exec_completionProcess_of_waiting hq he hqueue hslot hroom hfull rfl
    exact ⟨_, hexec, exec_completionProcess_of_passes htaken hnext hfull,
      fun k q e xs hw hact hlen hx => exec_completionProcess_of_refilled htaken hnext hw hact hlen hx⟩

end Sys2Proof.Machine
end

section
/-!
PROOF. What happens on an empty queue (R151, R128, R115, R152): the event that is due, and the µs that passes.
-/

namespace Sys2Proof.Machine

section Empty
variable {s : State}

theorem State.isUnanchored_of_ne (he : s.path.engine ≠ .unanchored) : s.isUnanchored = false := by
  simpa [State.isUnanchored] using he

/-- In a quiet state with the timebase stopped nothing happens. -/
theorem step_of_unanchored (hp : s.pending = []) (hq : s.quiet = true) (he : s.path.engine = .unanchored) :
    step s = .next s := by
  have hun : s.isUnanchored = true := by simp [State.isUnanchored, he]
  rw [step_nil hp, State.idle, State.settle_of_quiet hq]
  exact congrArg Host.Outcome.next (if_pos hun)

/-- In a quiet state with the timebase running a row that is due joins the queue. -/
theorem step_of_timeDue {c : Instr} (hp : s.pending = []) (hq : s.quiet = true) (he : s.path.engine ≠ .unanchored)
    (h : s.timeDue = some c) : step s = .next { s with pending := [c] } := by
  rw [step_nil hp, State.idle, State.settle_of_quiet hq]
  simp [State.isUnanchored_of_ne he, h, hp]

/-- With no row due one µs passes. -/
theorem step_of_time (hp : s.pending = []) (hq : s.quiet = true) (he : s.path.engine ≠ .unanchored)
    (h : s.timeDue = none) : step s = .next (s.elapse 1) := by
  rw [step_nil hp, State.idle, State.settle_of_quiet hq]
  simp [State.isUnanchored_of_ne he, h]

/-! ### The row that is due -/

theorem State.timeDue_of_ended (h : s.superframeEnd ≤ s.timing.timebase) :
    s.timeDue = some (.superframeBoundary []) := if_pos h

theorem State.timeDue_of_slot (h : s.timing.timebase < s.superframeEnd) (hn : s.timing.nextSlot < 64)
    (ht : s.slotTime s.timing.nextSlot ≤ s.timing.timebase) : s.timeDue = some .slotStart := by
  rw [State.timeDue, if_neg (Nat.not_le.mpr h), if_pos ⟨hn, ht⟩]

/-- Neither the superframe nor a slot wants a row: only a hold budget can. -/
theorem State.timeDue_of_neither (h : s.timing.timebase < s.superframeEnd)
    (hn : 64 ≤ s.timing.nextSlot ∨ s.timing.timebase < s.slotTime s.timing.nextSlot) :
    s.timeDue = if s.path.expires 1 then some .holdBudgetExpiry else none := by
  rw [State.timeDue, if_neg (Nat.not_le.mpr h), if_neg (by omega)]

/-! ### Time passes -/

theorem MemoryPath.expires_of_deciding {p : MemoryPath} {a k d : Nat} {r : List Byte}
    (h : p.slot = .deciding a r k) : p.expires d = decide (k ≤ d) := by simp [MemoryPath.expires, h]

/-- Time that does not end a decision reaches the timebase, SFS and the hold budget that runs. -/
theorem State.elapse_of_not_expires {d : Nat} {p : MemoryPath} (h : s.path.pass d = p ∧ s.path.expires d = false) :
    s.elapse d = { s with
      timing := { s.timing with timebase := s.timing.timebase + d }
      pins := { s.pins with sfs := s.pins.sfs.drop d }
      path := p } := by
  simp [State.elapse, h.1, h.2]

end Empty

/-- Settles O3: on an empty queue a step is `State.timeDue`'s row, or the passing of one µs. -/
theorem emptyQueueLetsTimePass : Obligations.EmptyQueueLetsTimePass := by
  intro s hp hq
  refine ⟨step_of_unanchored hp hq, fun he hend => ?boundary, fun he hend hn ht => ?slot,
    fun he hend hn => ⟨fun a d k hk hle => ?budget, fun a d k hk => ?held, fun hk => ?free⟩⟩
  case boundary => exact step_of_timeDue hp hq he (State.timeDue_of_ended hend)
  case slot => exact step_of_timeDue hp hq he (State.timeDue_of_slot hend hn ht)
  case budget =>
    have hex : s.path.expires 1 = true := (MemoryPath.expires_of_deciding hk).trans (decide_eq_true hle)
    exact step_of_timeDue hp hq he ((State.timeDue_of_neither hend hn).trans (if_pos hex))
  case held =>
    have hpass := MemoryPath.pass_of_lt (d := 1) hk (by omega)
    rw [step_of_time hp hq he ((State.timeDue_of_neither hend hn).trans (by simp [hpass.2]))]
    exact congrArg Host.Outcome.next (State.elapse_of_not_expires hpass)
  case free =>
    have hpass := MemoryPath.pass_of_not (d := 1) hk
    rw [step_of_time hp hq he ((State.timeDue_of_neither hend hn).trans (by simp [hpass.2]))]
    exact congrArg Host.Outcome.next (State.elapse_of_not_expires hpass)

end Sys2Proof.Machine
end

section
/-!
PROOF. The Timing Unit outside the boundary: the rows of its consequences (R158 to R160) and TIMING_SET (R153).
-/

namespace Sys2Proof.Machine

section Timing
variable {s : State} {ws : List Work} {p : LinkIx} {node : NodeId} {depth : Nat}

/-! ### Consequences -/

theorem exec_silenceLimit_of_due (hw : s.work = .due .silenceLimit :: ws) (hws : ∀ w ∈ ws, ∃ c, w = .due c) :
    exec .silenceLimit s = .next { s.enterHoldover with work := ws } := by
  rw [← State.advance_dues _ hws]
  exact congrArg Host.Outcome.next (State.resolve_head hw rfl)

theorem exec_holdoverTimeout_of_due (hw : s.work = .due .holdoverTimeout :: ws)
    (hws : ∀ w ∈ ws, ∃ c, w = .due c) : exec .holdoverTimeout s = .next { s.endHoldover with work := ws } := by
  rw [← State.advance_dues _ hws]
  exact congrArg Host.Outcome.next (State.resolve_head hw rfl)

theorem exec_outlierLimit_of_due (hw : s.work = .due .outlierLimit :: ws) (hws : ∀ w ∈ ws, ∃ c, w = .due c) :
    exec .outlierLimit s = .next { s.giveUpParent with work := ws } := by
  rw [← State.advance_dues _ hws]
  exact congrArg Host.Outcome.next (State.resolve_head hw rfl)

theorem State.enterHoldover_of_locked (h : s.timing.state = .locked p node depth) :
    s.enterHoldover =
      ({ s with timing := { s.timing with holdover := 0 } }).setTiming (.holdover p node depth) := by
  simp [State.enterHoldover, h]

theorem State.endHoldover_of_holdover (h : s.timing.state = .holdover p node depth) :
    s.endHoldover = s.setTiming .seeking := by simp [State.endHoldover, h]

theorem State.giveUpParent_of_locked (h : s.timing.state = .locked p node depth) :
    s.giveUpParent = ({ s with timing := { s.timing with adjust := 0 } }).setTiming .seeking := by
  simp [State.giveUpParent, h]

/-! ### TIMING_SET -/

theorem exec_timingSet_read {seq : BitVec 16} {role prop : Byte} (hq : s.quiet = true)
    (hc : s.fetchedCommand = some (.timingSet seq role prop)) :
    exec (.timingSet seq role prop) s = .next (s.commandRead.commandTimingSet seq role prop) :=
  congrArg Host.Outcome.next (State.settle_onCommand hq hc _)

theorem roleArg_none {b : Byte} (h1 : b ≠ 1) (h2 : b ≠ 2) : roleArg b = none := by
  unfold roleArg
  split
  · rename_i h; exact absurd (BitVec.eq_of_toNat_eq h) h1
  · rename_i h; exact absurd (BitVec.eq_of_toNat_eq h) h2
  · rfl

theorem State.commandTimingSet_of_bad (seq : BitVec 16) {role : Byte} (prop : Byte) (h : roleArg role = none) :
    s.commandTimingSet seq role prop = s.respond 0x40 seq .badArgument := by simp [State.commandTimingSet, h]

/-- R153: a role that is named has the constant stored and is then asked for. -/
theorem State.commandTimingSet_of_named (seq : BitVec 16) {role : Byte} (prop : Byte) {r : Role}
    (h : roleArg role = some r) : s.commandTimingSet seq role prop =
      (State.askRole { s with timing := { s.timing with propagation := min 7 prop.toNat } } r).respond
        0x40 seq .done := by
  have hclamp : clamp 0 7 prop.toNat = min 7 prop.toNat := by unfold clamp; omega
  simp [State.commandTimingSet, h, hclamp]

theorem State.askRole_root (h : s.timing.role = .root) : s.askRole .root = s := by simp [State.askRole, h]

theorem State.askRole_root_of_follower (h : s.timing.role = .follower) :
    s.askRole .root = { s with timing := { s.timing with pendingRoot := true } } := by
  simp [State.askRole, h]

theorem State.askRole_follower (h : s.timing.role = .follower) :
    s.askRole .follower = { s with timing := { s.timing with pendingRoot := false } } := by
  simp [State.askRole, h]

theorem State.askRole_follower_of_root (h : s.timing.role = .root) :
    s.askRole .follower = ({ s with timing := { s.timing with role := .follower } }).setTiming .seeking := by
  simp [State.askRole, h]

end Timing

/-- Settles O42: each row carries its consequence out, and what is left of the work waits. -/
theorem timingConsequencesAreCarriedOut : Obligations.TimingConsequencesAreCarriedOut := by
  refine fun s ws hws => ⟨fun p node depth hw h => ?silence, fun p node depth hw h => ?holdover,
    fun p node depth hw h => ?outlier⟩
  case silence =>
    rw [exec_silenceLimit_of_due hw hws, State.enterHoldover_of_locked h]
    rfl
  case holdover =>
    rw [exec_holdoverTimeout_of_due hw hws, State.endHoldover_of_holdover h]
    rfl
  case outlier =>
    rw [exec_outlierLimit_of_due hw hws, State.giveUpParent_of_locked h]
    rfl

/-- Settles O59: the role named is asked for after the constant is stored; what that does depends on the role held. -/
theorem timingSetHandlesTheRole : Obligations.TimingSetHandlesTheRole := by
  intro s seq role prop hq hc
  rw [exec_timingSet_read hq hc]
  refine ⟨fun h1 h2 => ?bad, fun h => ?root, fun h hr => ?kept, fun h hr => ?left⟩
  case bad => rw [State.commandTimingSet_of_bad seq prop (roleArg_none h1 h2)]
  case root =>
    subst h
    rw [State.commandTimingSet_of_named seq prop (r := .root) rfl]
    cases hr : s.timing.role with
    | root =>
      have hpending : (s.timing.pendingRoot || Role.root == .follower) = s.timing.pendingRoot := Bool.or_false _
      rw [hpending]
      exact congrArg (fun u : State => Host.Outcome.next (u.respond 0x40 seq .done)) (State.askRole_root hr)
    | follower =>
      have hpending : (s.timing.pendingRoot || Role.follower == .follower) = true := Bool.or_true _
      rw [hpending]
      exact congrArg (fun u : State => Host.Outcome.next (u.respond 0x40 seq .done))
        (State.askRole_root_of_follower hr)
  case kept =>
    subst h
    rw [State.commandTimingSet_of_named seq prop (r := .follower) rfl]
    exact congrArg (fun u : State => Host.Outcome.next (u.respond 0x40 seq .done)) (State.askRole_follower hr)
  case left =>
    subst h
    rw [State.commandTimingSet_of_named seq prop (r := .follower) rfl]
    exact congrArg (fun u : State => Host.Outcome.next (u.respond 0x40 seq .done)) (State.askRole_follower_of_root hr)

end Sys2Proof.Machine
end

section
/-!
PROOF. What a block may change when it takes a boundary (R151): the frame of the slot actions (R135 to R142), of the
blocks' work, and of all the work up to the first consequence.
-/

namespace Sys2Proof.Machine

/-- `s` with what a block may change at a boundary taken from `t`. -/
def State.withBlocks (s t : State) : State :=
  { s with
    path := { s.path with engine := t.path.engine, queue := t.path.queue, tails := t.path.tails }
    intake := { s.intake with stage := t.intake.stage }
    pool := { s.pool with entries := t.pool.entries, queues := t.pool.queues }
    linkTable := { s.linkTable with links := t.linkTable.links, pendingReplies := t.linkTable.pendingReplies }
    routes := t.routes
    sched := { s.sched with
      active := t.sched.active, stage := t.sched.stage, producer := t.sched.producer, lap := t.sched.lap
      inFlight := t.sched.inFlight, buffers := t.sched.buffers, nextBeacon := t.sched.nextBeacon
      probePointer := t.sched.probePointer }
    reports := { s.reports with planLatch := t.reports.planLatch }
    work := t.work }

/-- `t` differs from `s` at most in what a block may change at a boundary: not in the timebase's unit, the pins, or
packet memory. -/
def State.BlockFrame (s t : State) : Prop := t = s.withBlocks t

namespace State.BlockFrame
variable {s t u : State}

theorem refl (s : State) : s.BlockFrame s := rfl

theorem trans (h : s.BlockFrame t) (k : t.BlockFrame u) : s.BlockFrame u := calc
  u = t.withBlocks u := k
  _ = (s.withBlocks t).withBlocks u := congrArg (·.withBlocks u) h
  _ = s.withBlocks u := rfl

theorem eq (h : s.BlockFrame t) : t = s.withBlocks t := h

theorem timing (h : s.BlockFrame t) : t.timing = s.timing := (congrArg State.timing h.eq).trans rfl
theorem pins (h : s.BlockFrame t) : t.pins = s.pins := (congrArg State.pins h.eq).trans rfl
theorem timingLatch (h : s.BlockFrame t) : t.reports.timingLatch = s.reports.timingLatch :=
  (congrArg (fun v : State => v.reports.timingLatch) h.eq).trans rfl

/-! ### Own frames (R11 to R14) -/

theorem sendOwn (j rate attempts : Nat) (b : BufIx) (frame : List Byte) (dest : NodeId) (c : Carried) :
    s.BlockFrame (s.sendOwn j rate attempts b frame dest c) := by
  rw [State.sendOwn_eq, Scheduler.record_eq]
  rfl

theorem beaconSlot (j : Nat) : s.BlockFrame (s.beaconSlot j).1 := by
  cases hb : s.bufferFree s.sched.beaconBuffer with
  | false => rw [State.beaconSlot_of_busy j (.inl hb)]; exact refl s
  | true =>
    cases hr : s.ringFree with
    | false => rw [State.beaconSlot_of_busy j (.inr hr)]; exact refl s
    | true => rw [State.beaconSlot_of_free j hb hr, Scheduler.record_eq]; rfl

theorem sendProbe (j : Nat) (n : LinkIx) : s.BlockFrame (s.sendProbe j n) := sendOwn ..

theorem popReply : s.BlockFrame s.popReply := rfl

/-- R136: the probe sent flag and the probe rotation pointer. -/
theorem probed (n m : LinkIx) (l : LinkRec) :
    s.BlockFrame { s.setLink n l with sched := { s.sched with probePointer := m } } := rfl

theorem serveReply (j : Nat) : s.BlockFrame (s.serveReply j).1 := by
  unfold State.serveReply
  split
  · exact refl s
  · split
    · exact popReply
    · split
      · exact refl s
      · split
        · exact (sendOwn ..).trans popReply
        · exact refl s

theorem sharedSlot (j : Nat) : s.BlockFrame (s.sharedSlot j) := by
  have hreply := serveReply (s := s) j
  unfold State.sharedSlot
  dsimp only
  split
  · exact hreply
  · split
    · exact hreply
    · exact (hreply.trans (sendProbe j _)).trans (probed _ _ _)

/-! ### Bursts (R138 to R140) -/

section Burst
variable {p : BurstPlan}

theorem takeFrame (g : Tag) (f : Frame) : s.BlockFrame (s.takeFrame p g f) := by
  rw [State.takeFrame_eq, Scheduler.record_eq]
  rfl

theorem takeInterleaved (g : Tag) (f : Frame) : s.BlockFrame (s.takeInterleaved p g f) :=
  (takeFrame g f).trans rfl

theorem takeClass (ts : List Tag) (left : Nat) : s.BlockFrame (State.takeClass p ts (s, left)).1 := by
  induction ts generalizing s left with
  | nil => exact refl s
  | cons g ts ih =>
    unfold State.takeClass
    split
    · exact refl s
    · split
      · exact (takeFrame g _).trans (ih _)
      · exact refl s

theorem takeShared (fuel left : Nat) : s.BlockFrame (State.takeShared p fuel s left) := by
  induction fuel generalizing s left with
  | zero => exact refl s
  | succ fuel ih =>
    unfold State.takeShared
    dsimp only
    split
    · exact (takeInterleaved _ _).trans (ih _)
    · exact refl s

end Burst

theorem burst (j : Nat) (n : LinkIx) : s.BlockFrame (s.burst j n) :=
  ((takeClass _ _).trans (takeClass _ _)).trans (takeShared _ _)

theorem txSlot (j : Nat) (n : LinkIx) : s.BlockFrame (s.txSlot j n) := by
  unfold State.txSlot
  split
  · exact burst j n
  · exact burst j n
  · split
    · exact sendOwn ..
    · exact refl s
  · exact refl s

theorem slotAction (j : SlotIx) : s.BlockFrame (s.slotAction j).1 := by
  unfold State.slotAction
  split
  · split
    · exact beaconSlot _
    · exact sharedSlot _
    · exact txSlot _ _
    · exact refl s
  · exact refl s

/-! ### The blocks at a boundary -/

theorem advanceStage : s.BlockFrame s.advanceStage := by
  unfold State.advanceStage
  split <;> rfl

/-- R32: the ages of the entries. -/
theorem entries (e : Bank (Option Frame) 512) :
    s.BlockFrame { s with pool := { s.pool with entries := e } } := rfl

theorem takeBoundary (b : Block) : s.BlockFrame (s.takeBoundary b).1 := by
  cases b with
  | framePool => exact entries _
  | linkTable =>
    unfold State.takeBoundary State.linkBoundary
    dsimp only
    split <;> rfl
  | routeTable =>
    unfold State.takeBoundary State.routeBoundary
    dsimp only
    split <;> rfl
  | slotScheduler =>
    unfold State.takeBoundary State.schedulerBoundary
    dsimp only
    split
    · exact advanceStage.trans (slotAction 0)
    · exact refl s
  | engine =>
    unfold State.takeBoundary State.engineBoundary
    dsimp only
    split <;> rfl

/-- All the work up to the first consequence. -/
theorem advance (ws : List Work) : s.BlockFrame (State.advance ws s) := by
  induction ws generalizing s with
  | nil => rfl
  | cons w ws ih =>
    cases w with
    | due c => rfl
    | take b =>
      have hb := takeBoundary (s := s) b
      unfold State.advance
      split
      · rename_i hr
        rw [hr] at hb
        exact hb.trans ih
      · rename_i hr
        rw [hr] at hb
        exact hb.trans rfl

end State.BlockFrame

end Sys2Proof.Machine
end

section
/-!
PROOF. The Timing Unit's own work at a boundary (R151 steps 1 to 3, R152, R153, R155, R159, R160), and the row's whole
frame.
-/

namespace Sys2Proof.Machine

/-! ### The counts -/

section Counts
variable {s : State} {p : LinkIx} {node : NodeId} {depth : Nat}

/-- The counts and the parent heard flag are all that moves (R159, R160). -/
theorem State.countSilence_frame : s.countSilence = { s with timing := { s.timing with
    heard := s.countSilence.timing.heard
    silence := s.countSilence.timing.silence
    holdover := s.countSilence.timing.holdover } } := by
  unfold State.countSilence
  split
  · split
    · rfl
    · split <;> rfl
  · split <;> rfl
  · rfl

/-- R159: a parent that was heard returns the silence count to 0; one that was not raises it while RUNNING. -/
theorem State.countSilence_locked (h : s.timing.state = .locked p node depth) :
    s.countSilence.timing.heard = false ∧ s.countSilence.timing.holdover = s.timing.holdover ∧
      s.countSilence.timing.silence = if s.timing.heard = true then 0
        else if s.isRunning = true then s.timing.silence + 1 else s.timing.silence := by
  cases hh : s.timing.heard <;> cases hr : s.isRunning <;> simp [State.countSilence, h, hh, hr]

/-- R160: in HOLDOVER the holdover count rises while RUNNING. -/
theorem State.countSilence_holdover (h : s.timing.state = .holdover p node depth) :
    s.countSilence.timing.heard = s.timing.heard ∧ s.countSilence.timing.silence = s.timing.silence ∧
      s.countSilence.timing.holdover = if s.isRunning = true then s.timing.holdover + 1 else s.timing.holdover := by
  cases hr : s.isRunning <;> simp [State.countSilence, h, hr]

/-- Without a parent no count moves. -/
theorem State.countSilence_other (h : s.timing.state = .root ∨ s.timing.state = .seeking) :
    s.countSilence = s := by
  obtain h | h := h <;> simp [State.countSilence, h]

end Counts

/-! ### The superframe that begins -/

/-- The number of the superframe that follows (R151). -/
def State.nextNumber (s : State) : BitVec 32 :=
  match s.timing.stepEnd with
  | some e => e.number
  | none => s.timing.number + 1

/-- The new superframe has begun and a pending change to ROOT has taken effect (R151, R153). -/
def State.renewed (s : State) : State := (s.newSuperframe (max s.timing.timebase s.superframeEnd)).applyPendingRoot

/-- The Timing Unit's own work is done: the silence or holdover count has moved too (R159, R160). -/
def State.begun (s : State) : State := s.renewed.countSilence

section Begun
variable {s : State}

/-- The time up to the superframe's end, which a row brought early lets pass (log entry 14). -/
def State.untilEnd (s : State) : Nat := max s.timing.timebase s.superframeEnd - s.timing.timebase

theorem State.renewed_of_none (h : s.timing.pendingRoot = false) :
    s.renewed = s.newSuperframe (max s.timing.timebase s.superframeEnd) := if_neg (Bool.eq_false_iff.mp h)

/-- R153: a pending change to ROOT takes effect with its notice. -/
theorem State.renewed_of_pending (h : s.timing.pendingRoot = true) :
    s.renewed = ({ s.newSuperframe (max s.timing.timebase s.superframeEnd) with timing := {
      (s.newSuperframe (max s.timing.timebase s.superframeEnd)).timing with role := .root, pendingRoot := false }
        } : State).setTiming .root := if_pos h

/-- R151, R152, R155: the new superframe, but for the role, the timing state and its notice. -/
theorem State.renewed_eq : s.renewed = { s with
    timing := { s.timing with
      timebase := 0, adjust := 0, stepEnd := none, number := s.nextNumber, nextSlot := 1
      epoch := s.timing.epoch + max s.timing.timebase s.superframeEnd, starts := s.timing.endedStarts
      sightings := Vector.replicate 16 none, role := s.renewed.timing.role, pendingRoot := false
      state := s.renewed.timing.state }
    pins := { s.pins with sfs := sfsLevels s.nextNumber }
    path := s.path.pass s.untilEnd
    classifier := if s.path.expires s.untilEnd then .idle else s.classifier
    reports := { s.reports with timingLatch := s.renewed.reports.timingLatch } } := by
  cases h : s.timing.pendingRoot with
  | true => rw [State.renewed_of_pending h]; rfl
  | false => rw [State.renewed_of_none h, ← h]; rfl

/-- The same with the counts moved. -/
theorem State.begun_eq : s.begun = { s with
    timing := { s.timing with
      timebase := 0, adjust := 0, stepEnd := none, number := s.nextNumber, nextSlot := 1
      epoch := s.timing.epoch + max s.timing.timebase s.superframeEnd, starts := s.timing.endedStarts
      sightings := Vector.replicate 16 none, role := s.renewed.timing.role, pendingRoot := false
      state := s.renewed.timing.state
      heard := s.begun.timing.heard, silence := s.begun.timing.silence, holdover := s.begun.timing.holdover }
    pins := { s.pins with sfs := sfsLevels s.nextNumber }
    path := s.path.pass s.untilEnd
    classifier := if s.path.expires s.untilEnd then .idle else s.classifier
    reports := { s.reports with timingLatch := s.renewed.reports.timingLatch } } :=
  State.countSilence_frame.trans (congrArg (fun u : State => { u with timing := { u.timing with
    heard := s.begun.timing.heard, silence := s.begun.timing.silence, holdover := s.begun.timing.holdover } })
    State.renewed_eq)

/-- R151, R155: the new superframe's figures. -/
theorem State.begun_new : s.begun.timing.timebase = 0 ∧ s.begun.timing.adjust = 0 ∧ s.begun.timing.stepEnd = none ∧
    s.begun.timing.number = s.nextNumber ∧ s.begun.timing.sightings = Vector.replicate 16 none ∧
    s.begun.timing.propagation = s.timing.propagation ∧ s.begun.timing.outliers = s.timing.outliers := by
  rw [State.begun_eq]
  exact ⟨rfl, rfl, rfl, rfl, rfl, rfl, rfl⟩

theorem State.begun_of_pending (h : s.timing.pendingRoot = true) :
    s.begun.timing.role = .root ∧ s.begun.timing.state = .root ∧ s.begun.timing.pendingRoot = false ∧
      s.begun.reports.timingLatch = some ⟨.root⟩ := by
  rw [State.begun_eq, State.renewed_of_pending h]
  exact ⟨rfl, rfl, rfl, rfl⟩

theorem State.begun_of_none (h : s.timing.pendingRoot = false) :
    s.begun.timing.role = s.timing.role ∧ s.begun.timing.state = s.timing.state ∧
      s.begun.timing.pendingRoot = false ∧ s.begun.reports.timingLatch = s.reports.timingLatch := by
  rw [State.begun_eq, State.renewed_of_none h]
  exact ⟨rfl, rfl, rfl, rfl⟩

theorem State.begun_state : s.begun.timing.state = s.renewed.timing.state :=
  (congrArg (fun u : State => u.timing.state) s.begun_eq).trans rfl

theorem State.begun_engine : s.begun.path.engine = s.path.engine :=
  (congrArg (fun u : State => u.path.engine) s.begun_eq).trans (MemoryPath.pass_engine ..)

theorem State.begun_pool : s.begun.pool = s.pool :=
  (congrArg State.pool s.begun_eq).trans rfl
theorem State.begun_linkTable : s.begun.linkTable = s.linkTable :=
  (congrArg State.linkTable s.begun_eq).trans rfl
theorem State.begun_routes : s.begun.routes = s.routes :=
  (congrArg State.routes s.begun_eq).trans rfl
theorem State.begun_sched : s.begun.sched = s.sched :=
  (congrArg State.sched s.begun_eq).trans rfl

theorem State.isRunning_iff : s.isRunning = true ↔ s.path.engine = .running := beq_iff_eq

theorem State.renewed_isRunning : s.renewed.isRunning = true ↔ s.path.engine = .running := by
  have hengine : s.renewed.path.engine = s.path.engine :=
    (congrArg (fun u : State => u.path.engine) s.renewed_eq).trans (MemoryPath.pass_engine ..)
  rw [State.isRunning_iff, hengine]

/-! ### The counts at a boundary -/

theorem State.renewed_counts : s.renewed.timing.heard = s.timing.heard ∧
    s.renewed.timing.silence = s.timing.silence ∧ s.renewed.timing.holdover = s.timing.holdover := by
  rw [State.renewed_eq]
  exact ⟨rfl, rfl, rfl⟩

theorem State.begun_locked {p : LinkIx} {node : NodeId} {depth : Nat}
    (h : s.begun.timing.state = .locked p node depth) :
    s.begun.timing.heard = false ∧ s.begun.timing.holdover = s.timing.holdover ∧
      s.begun.timing.silence = if s.timing.heard = true then 0
        else if s.path.engine = .running then s.timing.silence + 1 else s.timing.silence := by
  obtain ⟨hheard, hsilence, hholdover⟩ := s.renewed_counts
  obtain ⟨hcleared, hkept, hcount⟩ := State.countSilence_locked (State.begun_state.symm.trans h)
  rw [hheard, hsilence] at hcount
  exact ⟨hcleared, hkept.trans hholdover,
    hcount.trans (if_congr Iff.rfl rfl (if_congr State.renewed_isRunning rfl rfl))⟩

theorem State.begun_holdover {p : LinkIx} {node : NodeId} {depth : Nat}
    (h : s.begun.timing.state = .holdover p node depth) :
    s.begun.timing.heard = s.timing.heard ∧ s.begun.timing.silence = s.timing.silence ∧
      s.begun.timing.holdover =
        if s.path.engine = .running then s.timing.holdover + 1 else s.timing.holdover := by
  obtain ⟨hheard, hsilence, hholdover⟩ := s.renewed_counts
  obtain ⟨hkept, hstill, hcount⟩ := State.countSilence_holdover (State.begun_state.symm.trans h)
  rw [hholdover] at hcount
  exact ⟨hkept.trans hheard, hstill.trans hsilence, hcount.trans (if_congr State.renewed_isRunning rfl rfl)⟩

/-- Without a parent the counts stand. -/
theorem State.begun_other (h : s.begun.timing.state = .root ∨ s.begun.timing.state = .seeking) :
    s.begun.timing.heard = s.timing.heard ∧ s.begun.timing.silence = s.timing.silence ∧
      s.begun.timing.holdover = s.timing.holdover := by
  rw [State.begun_state] at h
  rw [State.begun, State.countSilence_other h]
  exact s.renewed_counts

end Begun

/-! ### The whole row -/

/-- `s` with what a boundary may change taken from `t`. -/
def State.withBoundary (s t : State) : State :=
  { s with
    pins := { s.pins with sfs := t.pins.sfs }
    path := { s.path with engine := t.path.engine, slot := t.path.slot, queue := t.path.queue,
                          tails := t.path.tails }
    classifier := t.classifier
    intake := { s.intake with stage := t.intake.stage }
    pool := { s.pool with entries := t.pool.entries, queues := t.pool.queues }
    linkTable := { s.linkTable with links := t.linkTable.links, pendingReplies := t.linkTable.pendingReplies }
    routes := t.routes
    sched := { s.sched with
      active := t.sched.active, stage := t.sched.stage, producer := t.sched.producer, lap := t.sched.lap
      inFlight := t.sched.inFlight, buffers := t.sched.buffers, nextBeacon := t.sched.nextBeacon
      probePointer := t.sched.probePointer }
    timing := t.timing
    reports := { s.reports with planLatch := t.reports.planLatch, timingLatch := t.reports.timingLatch }
    work := t.work }

section Row
variable {s t u : State}

theorem State.withBoundary_trans (h : t = s.withBoundary t) (k : u = t.withBoundary u) : u = s.withBoundary u := calc
  u = t.withBoundary u := k
  _ = (s.withBoundary t).withBoundary u := congrArg (·.withBoundary u) h
  _ = s.withBoundary u := rfl

theorem State.BlockFrame.withBoundary (h : s.BlockFrame t) : t = s.withBoundary t := calc
  t = s.withBlocks t := h
  _ = s.withBoundary (s.withBlocks t) := rfl
  _ = s.withBoundary t := congrArg s.withBoundary h.eq.symm

theorem State.begun_withBoundary : s.begun = s.withBoundary s.begun := by
  have of_eq {u v : State} (h : u = v) (hv : v = s.withBoundary v) : u = s.withBoundary u := h ▸ hv
  have hbegun := s.begun_eq
  obtain h | ⟨_, _, _, h⟩ | ⟨_, _, h⟩ := s.path.pass_cases s.untilEnd
  all_goals
    rw [h] at hbegun
    exact of_eq hbegun rfl

theorem State.boundary_eq (order : List Block) : s.boundary order =
    State.advance (s.begun.silenceDue.map .due ++ (boundaryOrder order).map .take) s.begun := rfl

theorem State.boundary_frame (order : List Block) : s.boundary order = s.withBoundary (s.boundary order) :=
  State.withBoundary_trans s.begun_withBoundary (State.BlockFrame.advance _).withBoundary

theorem exec_superframeBoundary_of_quiet {order : List Block} (hq : s.quiet = true)
    (he : s.path.engine ≠ .unanchored) : exec (.superframeBoundary order) s = .next (s.boundary order) := by
  change Host.Outcome.next (if s.settle.isUnanchored then s.settle else s.settle.boundary order) = _
  rw [State.settle_of_quiet hq, State.isUnanchored_of_ne he]
  rfl

end Row

end Sys2Proof.Machine
end

section
/-!
PROOF. The order in which the blocks take a boundary, and what a threshold makes due (R32, R33, R48, R56, R58, R102,
R105, R159, R160): the consequence is in the work that the row leaves (log entry 8).
-/

namespace Sys2Proof.Machine

/-! ### The order of the blocks -/

/-- A block joins those named before it, once. -/
def joinBlock (bs : List Block) (b : Block) : List Block := if bs.contains b then bs else bs ++ [b]

theorem boundaryOrder_eq (order : List Block) : boundaryOrder order = order.foldl joinBlock [] ++
    [Block.framePool, .linkTable, .routeTable, .slotScheduler, .engine].filter fun b =>
      !(order.foldl joinBlock []).contains b := rfl

theorem foldl_joinBlock_append (order given : List Block) :
    ∃ more, order.foldl joinBlock given = given ++ more := by
  induction order generalizing given with
  | nil => exact ⟨[], (List.append_nil given).symm⟩
  | cons b order ih =>
    obtain ⟨more, hmore⟩ := ih (joinBlock given b)
    rw [List.foldl_cons, hmore]
    unfold joinBlock
    split
    · exact ⟨more, rfl⟩
    · exact ⟨b :: more, List.append_assoc ..⟩

theorem foldl_joinBlock_nodup {given : List Block} (order : List Block) (h : given.Nodup) :
    (order.foldl joinBlock given).Nodup := by
  induction order generalizing given with
  | nil => exact h
  | cons b order ih =>
    refine ih ?_
    unfold joinBlock
    split
    · exact h
    · rename_i hb
      exact List.nodup_append_comm.mp (List.nodup_cons.mpr ⟨by simpa using hb, h⟩)

/-- The block named first takes the boundary first. -/
theorem boundaryOrder_cons (b : Block) (rest : List Block) : ∃ more, boundaryOrder (b :: rest) = b :: more := by
  obtain ⟨more, hmore⟩ := foldl_joinBlock_append rest (joinBlock [] b)
  rw [boundaryOrder_eq, List.foldl_cons, hmore]
  exact ⟨_, rfl⟩

/-- Every block takes the boundary. -/
theorem mem_boundaryOrder (order : List Block) (b : Block) : b ∈ boundaryOrder order := by
  rw [boundaryOrder_eq, List.mem_append, List.mem_filter]
  by_cases h : b ∈ order.foldl joinBlock []
  · exact .inl h
  · exact .inr ⟨by cases b <;> decide, by simpa using h⟩

/-- None takes it twice. -/
theorem boundaryOrder_nodup (order : List Block) : (boundaryOrder order).Nodup := by
  rw [boundaryOrder_eq]
  refine List.nodup_append.mpr ⟨foldl_joinBlock_nodup order List.nodup_nil, List.Nodup.filter _ (by decide), ?_⟩
  rintro b hb c hc rfl
  simp [hb] at hc

/-! ### The work a boundary leaves -/

section Work
variable {s : State} {c : Consequence}

theorem State.boundary_head {order : List Block} {cs : List Consequence} (h : s.begun.silenceDue = c :: cs) :
    (s.boundary order).work.head? = some (.due c) := by
  rw [State.boundary_eq, h]
  rfl

theorem State.due_mem_advance {b : Block} {ws : List Work} (h : c ∈ (s.takeBoundary b).2) :
    Work.due c ∈ (State.advance (.take b :: ws) s).work := by
  unfold State.advance
  split
  · rename_i hr; rw [hr] at h; cases h
  · rename_i x cs hr
    rw [hr] at h
    obtain rfl | hc := List.mem_cons.mp h
    · exact List.mem_cons_self
    · exact List.mem_cons_of_mem _ (List.mem_append_left _ (List.mem_map_of_mem hc))

/-- What the block that comes first makes due waits in the work. -/
theorem State.due_mem_boundary {b : Block} {rest : List Block} (hs : s.begun.silenceDue = [])
    (h : c ∈ (s.begun.takeBoundary b).2) : Work.due c ∈ (s.boundary (b :: rest)).work := by
  obtain ⟨more, hmore⟩ := boundaryOrder_cons b rest
  rw [State.boundary_eq, hs, hmore]
  exact State.due_mem_advance h

end Work

/-! ### The silence and holdover limits -/

section Silence
variable {s : State} {p : LinkIx} {node : NodeId} {depth : Nat}

theorem State.silenceDue_of_locked (hr : s.isRunning = true) (h : s.timing.state = .locked p node depth) :
    s.silenceDue = if 8 ≤ s.timing.silence then [.silenceLimit] else [] := by
  rw [State.silenceDue, if_pos hr, h]
  rfl

theorem State.silenceDue_of_holdover (hr : s.isRunning = true) (h : s.timing.state = .holdover p node depth) :
    s.silenceDue = if 64 ≤ s.timing.holdover then [.holdoverTimeout] else [] := by
  rw [State.silenceDue, if_pos hr, h]
  rfl

theorem State.silenceDue_of_not_running (hr : s.isRunning = false) : s.silenceDue = [] := by
  simp [State.silenceDue, hr]

theorem State.begun_isRunning : s.begun.isRunning = s.isRunning := congrArg (· == EngineState.running) s.begun_engine

theorem State.begun_silenceLimit (hr : s.path.engine = .running) (h : s.begun.timing.state = .locked p node depth)
    (hh : s.timing.heard = false) (hl : 8 ≤ s.timing.silence + 1) : s.begun.silenceDue = [.silenceLimit] := by
  obtain ⟨-, -, hcount⟩ := State.begun_locked h
  rw [if_neg (Bool.eq_false_iff.mp hh), if_pos hr] at hcount
  rw [State.silenceDue_of_locked (State.begun_isRunning.trans (State.isRunning_of_running hr)) h, if_pos (hcount ▸ hl)]

theorem State.begun_holdoverTimeout (hr : s.path.engine = .running)
    (h : s.begun.timing.state = .holdover p node depth) (hl : 64 ≤ s.timing.holdover + 1) :
    s.begun.silenceDue = [.holdoverTimeout] := by
  obtain ⟨-, -, hcount⟩ := State.begun_holdover h
  rw [if_pos hr] at hcount
  rw [State.silenceDue_of_holdover (State.begun_isRunning.trans (State.isRunning_of_running hr)) h,
    if_pos (hcount ▸ hl)]

/-- Below both limits nothing is due at the Timing Unit. -/
theorem State.begun_silenceDue_nil (hr : s.path.engine = .running)
    (hlocked : ∀ p node depth, s.begun.timing.state = .locked p node depth →
      s.timing.heard = true ∨ s.timing.silence + 1 < 8)
    (hholdover : ∀ p node depth, s.begun.timing.state = .holdover p node depth → s.timing.holdover + 1 < 64) :
    s.begun.silenceDue = [] := by
  have hrun : s.begun.isRunning = true := State.begun_isRunning.trans (State.isRunning_of_running hr)
  cases h : s.begun.timing.state with
  | root => simp [State.silenceDue, h]
  | seeking => simp [State.silenceDue, h]
  | locked p node depth =>
    obtain ⟨-, -, hcount⟩ := State.begun_locked h
    rw [if_pos hr] at hcount
    rw [State.silenceDue_of_locked hrun h, if_neg]
    obtain hh | hl := hlocked p node depth h
    · rw [hcount, if_pos hh]; decide
    · rw [hcount]; split <;> omega
  | holdover p node depth =>
    obtain ⟨-, -, hcount⟩ := State.begun_holdover h
    rw [if_pos hr] at hcount
    have := hholdover p node depth h
    rw [State.silenceDue_of_holdover hrun h, if_neg (by omega)]

end Silence

/-! ### The blocks' thresholds -/

/-- R32, R33: what an entry's age makes due. -/
def Pool.dueOf (p : Pool) (g : Tag) (f : Frame) : Option Consequence :=
  match f.place with
  | .queued _ => if p.overAge f then some (.agedRelease g) else none
  | .held =>
    if p.holdTimeout ≤ f.age then some (.holdTimeout g)
    else if p.overAge f then some (.agedRelease g)
    else none
  | _ => none

/-- R48, R56, R58: what a link's timer or its count of superframes without a beacon makes due. -/
def LinkRec.dueOf (l : LinkRec) (missLimit : Nat) (n : LinkIx) : Option Consequence :=
  match l.state with
  | .probing t => if t = 0 then some (.openTimeout n) else none
  | .blocked t =>
    if t = 0 then some (.blockHoldExpiry n) else if missLimit ≤ l.missCount then some (.beaconLoss n) else none
  | .active => if missLimit ≤ l.missCount then some (.beaconLoss n) else none
  | .draining => if missLimit ≤ l.missCount then some (.beaconLoss n) else none
  | _ => none

/-- R102: what the age that a route entry is about to take makes due. -/
def RouteBody.dueOf (b : RouteBody) (p : RoutePos) : Option Consequence :=
  match b with
  | .live stale _ _ _ a =>
    if a < 255 ∧ 128 ≤ a + 1 then some (.routeAgePoison p)
    else if a < 255 ∧ stale = false ∧ 32 ≤ a + 1 then some (.routeStale p)
    else none
  | _ => none

/-- An age below 255 rises. -/
theorem raiseAge_of_lt {a : Nat} (h : a < 255) : raiseAge a = a + 1 := if_pos h

theorem raiseAge_le_succ (a : Nat) : raiseAge a ≤ a + 1 := by unfold raiseAge; split <;> omega

/-- R48, R56, R58: a record at a boundary. -/
theorem LinkRec.atBoundary_eq (l : LinkRec) : l.atBoundary = { l with
    state := (match l.state with
      | .probing k => .probing (k - 1)
      | .blocked k => .blocked (k - 1)
      | x => x)
    missCount := if l.carrying = true ∧ l.heard = false then l.missCount + 1 else l.missCount
    heard := false
    probeSent := false } := by
  have hmiss : (l.carrying && !l.heard) = true ↔ l.carrying = true ∧ l.heard = false := by simp
  have hcount : l.atBoundary.missCount =
      if l.carrying = true ∧ l.heard = false then l.missCount + 1 else l.missCount := if_congr hmiss rfl rfl
  exact hcount ▸ rfl

theorem LinkRec.atBoundary_carrying (l : LinkRec) : l.atBoundary.carrying = l.carrying := by
  cases h : l.state <;> simp [LinkRec.atBoundary_eq, LinkRec.carrying, LinkRec.usable, h]

/-- A timer of 2 or more is still running after the boundary. -/
theorem LinkRec.atBoundary_timer {l : LinkRec} (h : ∀ k, l.state = .probing k ∨ l.state = .blocked k → 2 ≤ k)
    (k : Nat) (hk : l.atBoundary.state = .probing k ∨ l.atBoundary.state = .blocked k) : k ≠ 0 := by
  rw [LinkRec.atBoundary_eq] at hk
  dsimp only at hk
  cases hs : l.state with
  | probing j =>
    have hj := h j (.inl hs)
    rw [hs] at hk
    simp only [LinkState.probing.injEq, reduceCtorEq, or_false] at hk
    omega
  | blocked j =>
    have hj := h j (.inr hs)
    rw [hs] at hk
    simp only [LinkState.blocked.injEq, reduceCtorEq, false_or] at hk
    omega
  | _ => rw [hs] at hk; simp at hk

section Due
variable {s : State} {g : Tag} {f : Frame} {n : LinkIx} {p : RoutePos} {c : Consequence}

/-- What an entry's age makes due does not lie with the other entries. -/
theorem Pool.dueOf_entries (pool : Pool) (e : Bank (Option Frame) 512) :
    { pool with entries := e }.dueOf g f = pool.dueOf g f := rfl

theorem State.raisePoolAges_isRunning : s.raisePoolAges.isRunning = s.isRunning := by
  simp only [State.isRunning, State.raisePoolAges]

/-- R32, R33: the Frame Pool's consequences are those of the entries with their ages raised. -/
theorem State.mem_poolBoundary (hr : s.isRunning = true) : c ∈ (s.takeBoundary .framePool).2 ↔
    ∃ g f, s.frame g = some f ∧ s.pool.dueOf g { f with age := raiseAge f.age } = some c := by
  have hdue : (s.takeBoundary .framePool).2 = s.raisePoolAges.agingDue := by
    simp only [State.takeBoundary, State.poolBoundary, State.raisePoolAges_isRunning, hr, if_true]
  have hpool (g : Tag) (f : Frame) : s.raisePoolAges.pool.dueOf g f = s.pool.dueOf g f := by
    rw [State.raisePoolAges]
    exact s.pool.dueOf_entries _
  rw [hdue, State.agingDue, List.mem_filterMap]
  refine exists_congr fun g => ?_
  rw [State.frame_raisePoolAges]
  cases hf : s.frame g with
  | none => simp
  | some f =>
    simp only [List.mem_finRange, true_and, Option.map_some, Option.some.injEq, exists_eq_left', ← hpool]
    rfl

/-- R48, R56, R58: the Link Table's consequences are those of the records as they leave the boundary. -/
theorem State.mem_linkBoundary (hr : s.isRunning = true) : c ∈ (s.takeBoundary .linkTable).2 ↔
    ∃ n, (s.link n).atBoundary.dueOf s.linkTable.missLimit n = some c := by
  have hdue : (s.takeBoundary .linkTable).2 = s.linksAtBoundary.linksDue := by
    simp [State.takeBoundary, State.linkBoundary, hr]
  have hlink (n : LinkIx) : s.linksAtBoundary.link n = (s.link n).atBoundary := bankGet_bankMap ..
  rw [hdue, State.linksDue, List.mem_filterMap]
  refine exists_congr fun n => ?_
  rw [hlink, and_iff_right (List.mem_finRange n)]
  rfl

/-- R105: the boundary count reaches 16. -/
theorem RouteTable.sequenceDue_eq (rt : RouteTable) :
    rt.countBoundary.sequenceDue = if 16 ≤ rt.boundaryCount + 1 then [.ownSequenceAdvance] else [] := rfl

/-- R102, R105: the Route Table's consequences are those of the entries' ages and of the boundary count. -/
theorem State.mem_routeBoundary (hr : s.isRunning = true) : c ∈ (s.takeBoundary .routeTable).2 ↔
    (∃ p e, s.routes.entry p = some e ∧ e.body.dueOf p = some c) ∨
      16 ≤ s.routes.boundaryCount + 1 ∧ c = .ownSequenceAdvance := by
  have hdue : (s.takeBoundary .routeTable).2 = s.routes.agingDue ++ s.routes.countBoundary.sequenceDue := by
    simp only [State.takeBoundary, State.routeBoundary, hr, if_true]
    rfl
  rw [hdue, List.mem_append, RouteTable.sequenceDue_eq, RouteTable.agingDue, List.mem_filterMap]
  refine or_congr (exists_congr fun p => ?_) (by split <;> simp [*])
  rw [and_iff_right (List.mem_finRange p)]
  cases s.routes.entry p with
  | none => simp
  | some e =>
    obtain ⟨d, b⟩ := e
    simp only [Option.some.injEq, exists_eq_left']
    cases b <;> rfl

/-! ### What is due, case by case -/

theorem Pool.dueOf_queued {pool : Pool} (hp : f.place = .queued n) (ha : pool.maxAge f.cls < f.age) :
    pool.dueOf g f = some (.agedRelease g) := by simp [Pool.dueOf, hp, Pool.overAge, ha]

theorem Pool.dueOf_held {pool : Pool} (hp : f.place = .held) (ha : pool.holdTimeout ≤ f.age) :
    pool.dueOf g f = some (.holdTimeout g) := by simp [Pool.dueOf, hp, ha]

theorem Pool.dueOf_held_aged {pool : Pool} (hp : f.place = .held) (ht : f.age < pool.holdTimeout)
    (ha : pool.maxAge f.cls < f.age) : pool.dueOf g f = some (.agedRelease g) := by
  simp [Pool.dueOf, hp, Pool.overAge, Nat.not_le.mpr ht, ha]

theorem Pool.dueOf_none {pool : Pool} (h : (∃ n, f.place = .queued n) ∨ f.place = .held →
    f.age ≤ pool.maxAge f.cls ∧ (f.place = .held → f.age < pool.holdTimeout)) : pool.dueOf g f = none := by
  cases hp : f.place with
  | queued n => simp [Pool.dueOf, hp, Pool.overAge, (h (.inl ⟨n, hp⟩)).1]
  | held =>
    obtain ⟨ha, ht⟩ := h (.inr hp)
    simp [Pool.dueOf, hp, Pool.overAge, Nat.not_le.mpr (ht hp), Nat.not_lt.mpr ha]
  | _ => simp [Pool.dueOf, hp]

theorem LinkRec.dueOf_probing {l : LinkRec} {m : Nat} (h : l.state = .probing 0) :
    l.dueOf m n = some (.openTimeout n) := by simp [LinkRec.dueOf, h]

theorem LinkRec.dueOf_blocked {l : LinkRec} {m : Nat} (h : l.state = .blocked 0) :
    l.dueOf m n = some (.blockHoldExpiry n) := by simp [LinkRec.dueOf, h]

/-- R58: a link that carries traffic and whose block hold is not over. -/
theorem LinkRec.dueOf_lost {l : LinkRec} {m : Nat}
    (h : l.state = .active ∨ l.state = .draining ∨ ∃ k, l.state = .blocked (k + 1)) (hm : m ≤ l.missCount) :
    l.dueOf m n = some (.beaconLoss n) := by
  obtain h | h | ⟨k, h⟩ := h <;> simp [LinkRec.dueOf, h, hm]

theorem LinkRec.dueOf_none {l : LinkRec} {m : Nat} (ht : ∀ k, l.state = .probing k ∨ l.state = .blocked k → k ≠ 0)
    (hm : l.carrying = true → l.missCount < m) : l.dueOf m n = none := by
  have hcarry := LinkRec.carrying_iff (l := l)
  cases h : l.state with
  | probing k => simp [LinkRec.dueOf, h, ht k (.inl h)]
  | blocked k =>
    have hlt := hm (hcarry.mpr (.inr (.inl ⟨k, h⟩)))
    simp [LinkRec.dueOf, h, ht k (.inr h), Nat.not_le.mpr hlt]
  | active => simp [LinkRec.dueOf, h, Nat.not_le.mpr (hm (hcarry.mpr (.inl h)))]
  | draining => simp [LinkRec.dueOf, h, Nat.not_le.mpr (hm (hcarry.mpr (.inr (.inr h))))]
  | _ => simp [LinkRec.dueOf, h]

theorem RouteBody.dueOf_none {b : RouteBody} (h : ∀ st x q y age, b = .live st x q y age →
    age + 1 < 128 ∧ (st = true ∨ age + 1 < 32)) : b.dueOf p = none := by
  cases b with
  | live st x q y age =>
    obtain ⟨hp, hs⟩ := h st x q y age rfl
    have hstale : ¬ (age < 255 ∧ st = false ∧ 32 ≤ age + 1) := by
      rintro ⟨-, hst, hage⟩
      obtain hs | hs := hs
      · exact Bool.false_ne_true (hst.symm.trans hs)
      · omega
    simp only [RouteBody.dueOf]
    rw [if_neg (by omega), if_neg hstale]
  | _ => rfl

end Due

/-! ### What the block that comes first makes due -/

section First
variable {s : State} {rest : List Block} {c : Consequence}

theorem State.poolDue_mem_boundary {g : Tag} {f : Frame} (hr : s.path.engine = .running)
    (hs : s.begun.silenceDue = []) (hf : s.frame g = some f)
    (hd : s.pool.dueOf g { f with age := raiseAge f.age } = some c) :
    Work.due c ∈ (s.boundary (.framePool :: rest)).work := by
  refine State.due_mem_boundary hs ((State.mem_poolBoundary ?_).mpr ⟨g, f, ?_, ?_⟩)
  · exact State.begun_isRunning.trans (State.isRunning_of_running hr)
  · rwa [State.frame, State.begun_pool]
  · rwa [State.begun_pool]

theorem State.linkDue_mem_boundary {n : LinkIx} (hr : s.path.engine = .running) (hs : s.begun.silenceDue = [])
    (hd : (s.link n).atBoundary.dueOf s.linkTable.missLimit n = some c) :
    Work.due c ∈ (s.boundary (.linkTable :: rest)).work := by
  refine State.due_mem_boundary hs ((State.mem_linkBoundary ?_).mpr ⟨n, ?_⟩)
  · exact State.begun_isRunning.trans (State.isRunning_of_running hr)
  · rwa [State.link, State.begun_linkTable]

theorem State.routeDue_mem_boundary (hr : s.path.engine = .running) (hs : s.begun.silenceDue = [])
    (hd : (∃ p e, s.routes.entry p = some e ∧ e.body.dueOf p = some c) ∨
      16 ≤ s.routes.boundaryCount + 1 ∧ c = .ownSequenceAdvance) :
    Work.due c ∈ (s.boundary (.routeTable :: rest)).work := by
  refine State.due_mem_boundary hs ((State.mem_routeBoundary ?_).mpr ?_)
  · exact State.begun_isRunning.trans (State.isRunning_of_running hr)
  · rwa [State.begun_routes]

end First

end Sys2Proof.Machine
end

section
/-!
PROOF. A boundary at which nothing is due and slot 0 is IDLE: whatever the order of the blocks, each does its own work
once (R32, R48, R56, R58, R102, R105, R128, R132, R190).
-/

namespace Sys2Proof.Machine

/-! ### A block's work by what it reads -/

section Local
variable {s t : State}

theorem State.agingDue_congr (h : t.pool = s.pool) : t.agingDue = s.agingDue := by
  have hpool : { t with pool := s.pool }.agingDue = s.agingDue := rfl
  rwa [← h] at hpool

theorem State.linksDue_congr (h : t.linkTable = s.linkTable) : t.linksDue = s.linksDue := by
  have hlinks : { t with linkTable := s.linkTable }.linksDue = s.linksDue := rfl
  rwa [← h] at hlinks

theorem State.poolBoundary_congr (hp : t.pool = s.pool) (hr : t.isRunning = s.isRunning) :
    t.poolBoundary = ({ t with pool := s.poolBoundary.1.pool }, s.poolBoundary.2) := by
  have hraise : t.raisePoolAges = { t with pool := s.raisePoolAges.pool } := by
    rw [State.raisePoolAges, State.raisePoolAges, hp]
  have hdue : t.raisePoolAges.agingDue = s.raisePoolAges.agingDue := State.agingDue_congr (by rw [hraise])
  simp only [State.poolBoundary, State.raisePoolAges_isRunning, hr, hdue]
  rw [hraise]

theorem State.linkBoundary_congr (hl : t.linkTable = s.linkTable) (hr : t.isRunning = s.isRunning) :
    t.linkBoundary = ({ t with linkTable := s.linkBoundary.1.linkTable }, s.linkBoundary.2) := by
  have hlinks : t.linksAtBoundary = { t with linkTable := s.linksAtBoundary.linkTable } := by
    rw [State.linksAtBoundary, State.linksAtBoundary, hl]
  have hdue : t.linksAtBoundary.linksDue = s.linksAtBoundary.linksDue :=
    State.linksDue_congr (by rw [hlinks])
  simp only [State.linkBoundary, hr, hdue]
  split
  · rw [hlinks]
  · rw [← hl]

theorem State.routeBoundary_congr (ht : t.routes = s.routes) (hr : t.isRunning = s.isRunning) :
    t.routeBoundary = ({ t with routes := s.routeBoundary.1.routes }, s.routeBoundary.2) := by
  simp only [State.routeBoundary, hr, ht]
  split <;> rfl

theorem State.engineBoundary_congr (hp : t.path = s.path) (hf : t.sched.inFlight = s.sched.inFlight) :
    t.engineBoundary = ({ t with path := s.engineBoundary.1.path }, s.engineBoundary.2) := by
  simp only [State.engineBoundary, hp, hf]
  split
  · rfl
  · rw [← hp]

theorem State.engineBoundary_isRunning : s.engineBoundary.1.isRunning = s.isRunning := by
  cases h : s.path.engine <;> simp [State.engineBoundary, State.isRunning, h]

/-! ### The Slot Scheduler -/

/-- R132: the stage and the active plan move, and a plan that becomes active is noticed. -/
theorem State.advanceStage_eq : s.advanceStage = { s with
    sched := { s.sched with
      active := (match s.sched.stage with
        | .announced c => c
        | _ => s.sched.active)
      stage := (match s.sched.stage with
        | .accepted c => .announced c
        | _ => .none) }
    reports := { s.reports with planLatch := (match s.sched.stage with
      | .announced c => some ⟨c, (s.sched.plan c).generation, s.timing.number⟩
      | _ => s.reports.planLatch) } } := by
  unfold State.advanceStage
  cases h : s.sched.stage with
  | none => dsimp only; rw [← h]
  | accepted c => rfl
  | announced c => rfl

theorem State.advanceStage_isRunning : s.advanceStage.isRunning = s.isRunning := by
  rw [State.advanceStage_eq]
  rfl

theorem State.advanceStage_congr (hs : t.sched = s.sched) (hp : t.reports = s.reports) (ht : t.timing = s.timing) :
    t.advanceStage = { t with sched := s.advanceStage.sched, reports := s.advanceStage.reports } := by
  simp only [State.advanceStage_eq, hs, hp, ht]

/-- With slot 0 of the plan that is active then IDLE, the Slot Scheduler moves its stage and no more. -/
theorem State.schedulerBoundary_of_idle
    (h : s.isRunning = true → bankGet s.advanceStage.sched.activePlan.slots 0 = .idle) :
    s.schedulerBoundary = (if s.isRunning then s.advanceStage else s, []) := by
  unfold State.schedulerBoundary
  split
  · rename_i hr
    rw [State.slotAction_of_running 0 (State.advanceStage_isRunning.trans hr), h hr]
  · rfl

theorem State.schedulerBoundary_congr (hs : t.sched = s.sched) (hp : t.reports = s.reports)
    (ht : t.timing = s.timing) (hr : t.isRunning = s.isRunning)
    (h : s.isRunning = true → bankGet s.advanceStage.sched.activePlan.slots 0 = .idle) :
    t.schedulerBoundary = ({ t with
      sched := s.schedulerBoundary.1.sched, reports := s.schedulerBoundary.1.reports }, []) := by
  have hstage := State.advanceStage_congr hs hp ht
  rw [State.schedulerBoundary_of_idle h, State.schedulerBoundary_of_idle (by rwa [hr, hstage]), hr, hstage]
  cases s.isRunning with
  | true => rfl
  | false => simp only [Bool.false_eq_true, if_false, ← hs, ← hp]

end Local

/-! ### Every block takes the boundary once -/

/-- Nothing is due at the blocks, and slot 0 of the plan that is active then is IDLE. -/
structure State.Calm (s : State) : Prop where
  pool : s.poolBoundary.2 = []
  links : s.linkBoundary.2 = []
  routes : s.routeBoundary.2 = []
  engine : s.engineBoundary.2 = []
  slot : s.isRunning = true → bankGet s.advanceStage.sched.activePlan.slots 0 = .idle

/-- `s` with the part of each block in `bs` as its own boundary leaves it. -/
def State.took (s : State) (bs : List Block) : State :=
  { s with
    pool := if .framePool ∈ bs then s.poolBoundary.1.pool else s.pool
    linkTable := if .linkTable ∈ bs then s.linkBoundary.1.linkTable else s.linkTable
    routes := if .routeTable ∈ bs then s.routeBoundary.1.routes else s.routes
    sched := if .slotScheduler ∈ bs then s.schedulerBoundary.1.sched else s.sched
    reports := if .slotScheduler ∈ bs then s.schedulerBoundary.1.reports else s.reports
    path := if .engine ∈ bs then s.engineBoundary.1.path else s.path }

section Calm
variable {s : State} {bs : List Block}

theorem State.took_nil : s.took [] = s := by simp [State.took]

theorem State.took_isRunning : (s.took bs).isRunning = s.isRunning := by
  have hpath : (s.took bs).path = if .engine ∈ bs then s.engineBoundary.1.path else s.path := rfl
  rw [State.isRunning, hpath]
  split
  · exact State.engineBoundary_isRunning
  · rfl

theorem State.Calm.took_inFlight (h : s.Calm) : (s.took bs).sched.inFlight = s.sched.inFlight := by
  have hsched : (s.took bs).sched = if .slotScheduler ∈ bs then s.schedulerBoundary.1.sched else s.sched := rfl
  rw [hsched, State.schedulerBoundary_of_idle h.slot]
  split
  · cases s.isRunning with
    | true => rw [State.advanceStage_eq]; rfl
    | false => rfl
  · rfl

/-- A block that has not taken the boundary finds its part as it was, and makes nothing due. -/
theorem State.Calm.took_takeBoundary {b : Block} (h : s.Calm) (hb : b ∉ bs) :
    (s.took bs).takeBoundary b = (s.took (b :: bs), []) := by
  cases b with
  | framePool =>
    refine (State.poolBoundary_congr (if_neg hb) State.took_isRunning).trans ?_
    rw [h.pool]
    simp [State.took]
  | linkTable =>
    refine (State.linkBoundary_congr (if_neg hb) State.took_isRunning).trans ?_
    rw [h.links]
    simp [State.took]
  | routeTable =>
    refine (State.routeBoundary_congr (if_neg hb) State.took_isRunning).trans ?_
    rw [h.routes]
    simp [State.took]
  | slotScheduler =>
    refine (State.schedulerBoundary_congr (t := s.took bs) (if_neg hb) (if_neg hb) rfl State.took_isRunning
      h.slot).trans ?_
    simp [State.took]
  | engine =>
    refine (State.engineBoundary_congr (if_neg hb) h.took_inFlight).trans ?_
    rw [h.engine]
    simp [State.took]

theorem State.Calm.advance_took (h : s.Calm) {order : List Block} (hd : order.Nodup) (hn : ∀ b ∈ order, b ∉ bs) :
    State.advance (order.map .take) (s.took bs) = { s.took (order.reverse ++ bs) with work := [] } := by
  induction order generalizing bs with
  | nil => rfl
  | cons b order ih =>
    obtain ⟨hb, hd⟩ := List.nodup_cons.mp hd
    have hrest : ∀ c ∈ order, c ∉ b :: bs := fun c hc => by
      rw [List.mem_cons]
      rintro (rfl | hm)
      · exact hb hc
      · exact hn c (List.mem_cons_of_mem _ hc) hm
    rw [List.map_cons, State.advance, h.took_takeBoundary (hn b List.mem_cons_self)]
    dsimp only
    rw [ih hd hrest, List.reverse_cons, List.append_assoc]
    rfl

/-- With nothing due the row leaves each block's own work done, whatever the order. -/
theorem State.boundary_of_calm (order : List Block) (hs : s.begun.silenceDue = []) (h : s.begun.Calm) :
    s.boundary order = { s.begun with
      pool := s.begun.poolBoundary.1.pool
      linkTable := s.begun.linkBoundary.1.linkTable
      routes := s.begun.routeBoundary.1.routes
      sched := s.begun.schedulerBoundary.1.sched
      reports := s.begun.schedulerBoundary.1.reports
      path := s.begun.engineBoundary.1.path
      work := [] } := by
  have hall := h.advance_took (bs := []) (boundaryOrder_nodup order) (fun _ _ => List.not_mem_nil)
  rw [State.took_nil] at hall
  rw [State.boundary_eq, hs, List.map_nil, List.nil_append, hall]
  simp [State.took, mem_boundaryOrder]

end Calm

end Sys2Proof.Machine
end

section
/-!
PROOF. When nothing is due at a boundary (R151), while RUNNING and while QUIESCING, and the state that the row leaves
then.
-/

namespace Sys2Proof.Machine

section Boundary
variable {s : State} {order rest : List Block}

/-! ### When nothing is due -/

theorem State.engineBoundary_of_running (hr : s.path.engine = .running) : s.engineBoundary = (s, []) := by
  simp [State.engineBoundary, hr]

/-- R190: the quiesce count rises up to 64. -/
theorem State.engineBoundary_of_quiescing {m : ResetMode} {c : Nat} (he : s.path.engine = .quiescing m c) :
    s.engineBoundary = ({ s with path := { s.path with engine := .quiescing m (min 64 (c + 1)) } },
      if c < 64 ∧ min 64 (c + 1) = 64 ∧ s.sched.inFlight ≠ [] then [.quiesceLimit] else []) := by
  rw [State.engineBoundary, he]
  rfl

/-- R132: slot 0 of the plan that is active after the boundary. -/
theorem State.advanceStage_slot (ha : ∀ c, s.sched.stage = .announced c → bankGet (s.sched.plan c).slots 0 = .idle)
    (hn : (∀ c, s.sched.stage ≠ .announced c) → bankGet s.sched.activePlan.slots 0 = .idle) :
    bankGet s.advanceStage.sched.activePlan.slots 0 = .idle := by
  rw [State.advanceStage_eq]
  cases h : s.sched.stage with
  | none => exact hn (by simp [h])
  | accepted c => exact hn (by simp [h])
  | announced c => exact ha c h

theorem State.calm_of_running (hr : s.path.engine = .running)
    (hframes : ∀ g f, s.frame g = some f → ((∃ n, f.place = .queued n) ∨ f.place = .held) →
      f.age + 1 ≤ s.pool.maxAge f.cls ∧ (f.place = .held → f.age + 1 < s.pool.holdTimeout))
    (hlinks : ∀ n, (∀ k, (s.link n).state = .probing k ∨ (s.link n).state = .blocked k → 2 ≤ k) ∧
      ((s.link n).carrying = true →
        (if (s.link n).heard = true then (s.link n).missCount else (s.link n).missCount + 1) < s.linkTable.missLimit))
    (hroutes : ∀ p d st h q x age, s.routes.entry p = some ⟨d, .live st h q x age⟩ →
      age + 1 < 128 ∧ (st = true ∨ age + 1 < 32))
    (hcount : s.routes.boundaryCount + 1 < 16)
    (hslot : bankGet s.advanceStage.sched.activePlan.slots 0 = .idle) : s.Calm where
  pool := List.eq_nil_iff_forall_not_mem.mpr fun c hc => by
    obtain ⟨g, f, hf, hd⟩ := (State.mem_poolBoundary (State.isRunning_of_running hr)).mp hc
    have hage := raiseAge_le_succ f.age
    rw [Pool.dueOf_none fun hp => ?_] at hd
    · cases hd
    · obtain ⟨hmax, hhold⟩ := hframes g f hf hp
      exact ⟨hage.trans hmax, fun hp => lt_of_le_of_lt hage (hhold hp)⟩
  links := List.eq_nil_iff_forall_not_mem.mpr fun c hc => by
    obtain ⟨n, hd⟩ := (State.mem_linkBoundary (State.isRunning_of_running hr)).mp hc
    obtain ⟨htimer, hmiss⟩ := hlinks n
    rw [LinkRec.dueOf_none (LinkRec.atBoundary_timer htimer) fun hcarry => ?_] at hd
    · cases hd
    · rw [LinkRec.atBoundary_carrying] at hcarry
      rw [LinkRec.atBoundary_eq]
      simpa [hcarry, ← Bool.not_eq_true, ite_not] using hmiss hcarry
  routes := List.eq_nil_iff_forall_not_mem.mpr fun c hc => by
    obtain ⟨p, ⟨d, b⟩, he, hd⟩ | ⟨hle, -⟩ := (State.mem_routeBoundary (State.isRunning_of_running hr)).mp hc
    · rw [RouteBody.dueOf_none fun st x q y age hb => hroutes p d st x q y age (hb ▸ he)] at hd
      cases hd
    · omega
  engine := by rw [State.engineBoundary_of_running hr]
  slot := fun _ => hslot

theorem State.calm_of_quiescing {m : ResetMode} {c : Nat} (he : s.path.engine = .quiescing m c)
    (hcount : s.routes.boundaryCount + 1 < 16) (hlimit : c + 1 < 64 ∨ 64 ≤ c ∨ s.sched.inFlight = []) : s.Calm := by
  have hr : s.isRunning = false := by simp [State.isRunning, he]
  refine ⟨?_, ?_, ?_, ?_, fun h => absurd (hr.symm.trans h) Bool.false_ne_true⟩
  · simp only [State.poolBoundary, State.raisePoolAges_isRunning, hr, Bool.false_eq_true, if_false]
  · simp [State.linkBoundary, hr]
  · have hbelow : ¬ 16 ≤ s.routes.boundaryCount + 1 := by omega
    simp only [State.routeBoundary, hr, Bool.false_eq_true, if_false, RouteTable.sequenceDue_eq, hbelow]
  · rw [State.engineBoundary_of_quiescing he]
    refine if_neg fun ⟨hc, hm, hf⟩ => ?_
    obtain hlt | hle | hnil := hlimit
    · omega
    · omega
    · exact hf hnil

/-- The new superframe is as calm as what it begins from. -/
theorem State.Calm.begun (h : s.Calm) : s.begun.Calm where
  pool := (congrArg Prod.snd (State.poolBoundary_congr s.begun_pool s.begun_isRunning)).trans h.pool
  links := (congrArg Prod.snd (State.linkBoundary_congr s.begun_linkTable s.begun_isRunning)).trans h.links
  routes := (congrArg Prod.snd (State.routeBoundary_congr s.begun_routes s.begun_isRunning)).trans h.routes
  engine := by
    rw [← h.engine]
    simp only [State.engineBoundary, State.begun_engine, State.begun_sched]
    split <;> rfl
  slot := fun hr => by
    have hstage : s.begun.advanceStage.sched = s.advanceStage.sched := by
      simp only [State.advanceStage_eq, State.begun_sched]
    rw [hstage]
    exact h.slot (State.begun_isRunning.symm.trans hr)

/-! ### The state that the row leaves then -/

/-- A decision whose hold budget is not used up is not ended when no time passes. -/
theorem MemoryPath.pass_zero {p : MemoryPath} (h : ∀ a d, p.slot ≠ .deciding a d 0) :
    p.pass 0 = p ∧ p.expires 0 = false := by
  by_cases hd : ∃ a r t, p.slot = .deciding a r t
  · obtain ⟨a, r, t, ht⟩ := hd
    have hpos : 0 < t := Nat.pos_of_ne_zero fun h0 => h a r (h0 ▸ ht)
    obtain ⟨hpass, hexp⟩ := MemoryPath.pass_of_lt ht hpos
    exact ⟨hpass.trans (by rw [Nat.sub_zero, ← ht]), hexp⟩
  · exact MemoryPath.pass_of_not fun a r t ht => hd ⟨a, r, t, ht⟩

/-- At the superframe's end no time passes before the new superframe begins. -/
theorem State.begun_at_end (hend : s.superframeEnd ≤ s.timing.timebase)
    (hslot : ∀ a d, s.path.slot ≠ .deciding a d 0) : ∃ timing sfs latch, s.begun = { s with
      timing := timing
      pins := { s.pins with sfs := sfs }
      reports := { s.reports with timingLatch := latch } } := by
  have hzero : s.untilEnd = 0 := by unfold State.untilEnd; omega
  obtain ⟨hpass, hexp⟩ := MemoryPath.pass_zero hslot
  have hbegun := s.begun_eq
  rw [hzero, hpass, hexp] at hbegun
  exact ⟨_, _, _, hbegun⟩

/-- RUNNING, with nothing due and slot 0 IDLE. -/
theorem State.boundary_of_running_calm (hs : s.begun.silenceDue = []) (h : s.begun.Calm)
    (hr : s.path.engine = .running) (hw : s.work = []) (hend : s.superframeEnd ≤ s.timing.timebase)
    (hslot : ∀ a d, s.path.slot ≠ .deciding a d 0) : s.boundary order = { s with
      pins := { s.pins with sfs := s.begun.pins.sfs }
      pool := { s.pool with entries := s.raisePoolAges.pool.entries }
      linkTable := { s.linkTable with links := s.linksAtBoundary.linkTable.links }
      routes := { s.routes with
        entries := s.routes.raiseAges.entries
        boundaryCount := s.routes.boundaryCount + 1 }
      sched := { s.sched with
        active := (match s.sched.stage with
          | .announced c => c
          | _ => s.sched.active)
        stage := (match s.sched.stage with
          | .accepted c => .announced c
          | _ => .none) }
      timing := s.begun.timing
      reports := { s.reports with
        timingLatch := s.begun.reports.timingLatch
        planLatch := (match s.sched.stage with
          | .announced c => some ⟨c, (s.sched.plan c).generation, s.begun.timing.number⟩
          | _ => s.reports.planLatch) } } := by
  have hrun : s.begun.isRunning = true := State.begun_isRunning.trans (State.isRunning_of_running hr)
  have hpool : s.begun.poolBoundary.1.pool = { s.pool with entries := s.raisePoolAges.pool.entries } := by
    simp only [State.poolBoundary, State.raisePoolAges, State.begun_pool]
  have hlinks : s.begun.linkBoundary.1.linkTable =
      { s.linkTable with links := s.linksAtBoundary.linkTable.links } := by
    simp only [State.linkBoundary, hrun, if_true, State.linksAtBoundary, State.begun_linkTable]
  have hroutes : s.begun.routeBoundary.1.routes = { s.routes with
      entries := s.routes.raiseAges.entries, boundaryCount := s.routes.boundaryCount + 1 } := by
    simp only [State.routeBoundary, hrun, if_true, State.begun_routes]
    rfl
  have hstage : s.begun.schedulerBoundary.1 = s.begun.advanceStage := by
    rw [State.schedulerBoundary_of_idle h.slot, hrun]
    rfl
  have hengine : s.begun.engineBoundary.1.path = s.begun.path := by
    rw [State.engineBoundary_of_running (State.begun_engine.trans hr)]
  obtain ⟨timing, sfs, latch, hbegun⟩ := State.begun_at_end hend hslot
  rw [State.boundary_of_calm order hs h, hpool, hlinks, hroutes, hstage, hengine, State.advanceStage_eq,
    State.begun_sched, ← hw]
  exact hbegun.symm ▸ rfl

/-- QUIESCING, with nothing due: of the blocks only the ages, the boundary count and the quiesce count move (R40, R105,
R162, R190). -/
theorem State.boundary_of_quiescing_calm {m : ResetMode} {c : Nat} (h : s.begun.Calm)
    (he : s.path.engine = .quiescing m c) (hw : s.work = []) (hend : s.superframeEnd ≤ s.timing.timebase)
    (hslot : ∀ a d, s.path.slot ≠ .deciding a d 0) : s.boundary order = { s with
      pins := { s.pins with sfs := s.begun.pins.sfs }
      path := { s.path with engine := .quiescing m (min 64 (c + 1)) }
      pool := { s.pool with entries := s.raisePoolAges.pool.entries }
      routes := { s.routes with boundaryCount := s.routes.boundaryCount + 1 }
      timing := s.begun.timing
      reports := { s.reports with timingLatch := s.begun.reports.timingLatch } } := by
  have hrun : s.begun.isRunning = false := State.begun_isRunning.trans (by simp [State.isRunning, he])
  have hpool : s.begun.poolBoundary.1.pool = { s.pool with entries := s.raisePoolAges.pool.entries } := by
    simp only [State.poolBoundary, State.raisePoolAges, State.begun_pool]
  have hlinks : s.begun.linkBoundary.1 = s.begun := by simp [State.linkBoundary, hrun]
  have hroutes : s.begun.routeBoundary.1.routes =
      { s.routes with boundaryCount := s.routes.boundaryCount + 1 } := by
    simp only [State.routeBoundary, hrun, Bool.false_eq_true, if_false, State.begun_routes]
    rfl
  have hstage : s.begun.schedulerBoundary.1 = s.begun := by
    rw [State.schedulerBoundary_of_idle h.slot, hrun]
    rfl
  have hengine : s.begun.engineBoundary.1.path =
      { s.begun.path with engine := .quiescing m (min 64 (c + 1)) } := by
    rw [State.engineBoundary_of_quiescing (State.begun_engine.trans he)]
  obtain ⟨timing, sfs, latch, hbegun⟩ := State.begun_at_end hend hslot
  rw [State.boundary_of_calm order (State.silenceDue_of_not_running hrun) h, hpool, hlinks, hroutes, hstage, hengine,
    ← hw, hbegun]

end Boundary

end Sys2Proof.Machine
end

section
/-!
PROOF. The statement about the superframe boundary (R151), clause by clause.
-/

namespace Sys2Proof.Machine

section Clauses
variable {s : State} {order rest : List Block}

/-! ### The Timing Unit -/

theorem State.boundary_timing (order : List Block) : (s.boundary order).timing = s.begun.timing :=
  (State.BlockFrame.advance _).timing

theorem State.boundary_timingLatch (order : List Block) :
    (s.boundary order).reports.timingLatch = s.begun.reports.timingLatch :=
  (State.BlockFrame.advance _).timingLatch

/-- R152: SFS is high and then shows the number's low 8 bits. -/
theorem State.boundary_sfs (order : List Block) : (s.boundary order).pins.sfs = sfsLevels s.begun.timing.number := by
  have hpins : (s.boundary order).pins = s.begun.pins := (State.BlockFrame.advance _).pins
  rw [hpins, State.begun_eq]

/-! ### The blocks that come first -/

theorem State.frames_due (hr : s.path.engine = .running) (hs : s.begun.silenceDue = []) {g : Tag} {f : Frame}
    (hf : s.frame g = some f) (ha : f.age < 255) :
    ((∃ n, f.place = .queued n) → s.pool.maxAge f.cls ≤ f.age →
      .due (.agedRelease g) ∈ (s.boundary (.framePool :: rest)).work) ∧
    (f.place = .held → s.pool.holdTimeout ≤ f.age + 1 →
      .due (.holdTimeout g) ∈ (s.boundary (.framePool :: rest)).work) ∧
    (f.place = .held → f.age + 1 < s.pool.holdTimeout → s.pool.maxAge f.cls ≤ f.age →
      .due (.agedRelease g) ∈ (s.boundary (.framePool :: rest)).work) := by
  have hdue {c : Consequence} (hd : s.pool.dueOf g { f with age := f.age + 1 } = some c) :
      Work.due c ∈ (s.boundary (.framePool :: rest)).work :=
    State.poolDue_mem_boundary hr hs hf (by rwa [raiseAge_of_lt ha])
  exact ⟨fun ⟨n, hp⟩ hm => hdue (Pool.dueOf_queued hp (Nat.lt_succ_of_le hm)),
    fun hp ht => hdue (Pool.dueOf_held hp ht),
    fun hp ht hm => hdue (Pool.dueOf_held_aged hp ht (Nat.lt_succ_of_le hm))⟩

theorem State.links_due (hr : s.path.engine = .running) (hs : s.begun.silenceDue = []) (n : LinkIx) :
    ((s.link n).state = .probing 1 → .due (.openTimeout n) ∈ (s.boundary (.linkTable :: rest)).work) ∧
    ((s.link n).state = .blocked 1 → .due (.blockHoldExpiry n) ∈ (s.boundary (.linkTable :: rest)).work) ∧
    (((s.link n).state = .active ∨ (s.link n).state = .draining ∨ ∃ k, (s.link n).state = .blocked (k + 2)) →
      (s.link n).heard = false → s.linkTable.missLimit ≤ (s.link n).missCount + 1 →
      .due (.beaconLoss n) ∈ (s.boundary (.linkTable :: rest)).work) := by
  have hrec := (s.link n).atBoundary_eq
  have hdue {c : Consequence} := State.linkDue_mem_boundary (rest := rest) (c := c) (n := n) hr hs
  refine ⟨fun h => hdue (LinkRec.dueOf_probing ?_), fun h => hdue (LinkRec.dueOf_blocked ?_),
    fun h hh hm => hdue (LinkRec.dueOf_lost ?_ ?_)⟩
  · simp [hrec, h]
  · simp [hrec, h]
  · rw [hrec]
    obtain h | h | ⟨k, h⟩ := h <;> simp [h]
  · have hcarry : (s.link n).carrying = true := by
      rw [LinkRec.carrying_iff]
      obtain h | h | ⟨k, h⟩ := h <;> simp [h]
    simpa [hrec, hcarry, hh] using hm

theorem State.routes_due (hr : s.path.engine = .running) (hs : s.begun.silenceDue = []) {p : RoutePos} {d : NodeId}
    {st : Bool} {h : Hop} {q : Option Hop} {x : BitVec 16} {age : Nat}
    (he : s.routes.entry p = some ⟨d, .live st h q x age⟩) (ha : age < 255) :
    (128 ≤ age + 1 → .due (.routeAgePoison p) ∈ (s.boundary (.routeTable :: rest)).work) ∧
    (st = false → 32 ≤ age + 1 → age + 1 < 128 →
      .due (.routeStale p) ∈ (s.boundary (.routeTable :: rest)).work) := by
  have hdue {c : Consequence} (hd : RouteBody.dueOf (.live st h q x age) p = some c) :
      Work.due c ∈ (s.boundary (.routeTable :: rest)).work :=
    State.routeDue_mem_boundary hr hs (.inl ⟨p, _, he, hd⟩)
  exact ⟨fun hp => hdue (if_pos ⟨ha, hp⟩),
    fun hst hle hlt => hdue ((if_neg (by omega)).trans (if_pos ⟨ha, hst, hle⟩))⟩

/-- R190: the quiesce limit is due when this boundary brings the count to 64 with descriptors in flight. -/
theorem State.quiesceLimit_due {m : ResetMode} (he : s.path.engine = .quiescing m 63) (hf : s.sched.inFlight ≠ []) :
    (s.boundary (.engine :: rest)).path.engine = .quiescing m 64 ∧
      .due .quiesceLimit ∈ (s.boundary (.engine :: rest)).work := by
  have hrun : s.begun.isRunning = false := State.begun_isRunning.trans (by simp [State.isRunning, he])
  have hstep : s.begun.takeBoundary .engine =
      ({ s.begun with path := { s.begun.path with engine := .quiescing m 64 } }, [.quiesceLimit]) :=
    (State.engineBoundary_of_quiescing (State.begun_engine.trans he)).trans
      (congrArg (Prod.mk _) (if_pos ⟨by decide, by decide, by rwa [State.begun_sched]⟩))
  obtain ⟨more, hmore⟩ := boundaryOrder_cons .engine rest
  rw [State.boundary_eq, State.silenceDue_of_not_running hrun, hmore, List.map_nil, List.nil_append, List.map_cons,
    State.advance, hstep]
  exact ⟨rfl, List.mem_cons_self⟩

/-! ### What each block leaves -/

theorem RouteTable.raiseAges_entry (rt : RouteTable) (p : RoutePos) :
    rt.raiseAges.entry p = (rt.entry p).map fun e => ⟨e.dest, e.body.older⟩ := bankGet_bankMap ..

end Clauses

/-- Settles O40: the blocks' frame leaves the Timing Unit as `State.begun` has it, the block that comes first makes due
what its thresholds say, and with nothing due every block has done its own work whatever the order. -/
theorem boundaryBeginsASuperframe : Obligations.BoundaryBeginsASuperframe := by
  intro s order hq he
  have hw : s.work = [] := (State.quiet_iff.mp hq).1
  have hsfs := s.boundary_sfs order
  obtain ⟨htimebase, hadjust, hend, hnumber, hsightings, hpropagation, houtliers⟩ := s.begun_new
  refine ⟨_, exec_superframeBoundary_of_quiet hq he, s.boundary_frame order, ?_⟩
  rw [s.boundary_timing, s.boundary_timingLatch]
  refine ⟨htimebase, hadjust, hend, hnumber, fun n => ?sightings, congrArg (·.headD false) hsfs, hsfs,
    State.begun_of_pending, State.begun_of_none, hpropagation, houtliers, fun p node depth h => ?locked,
    fun p node depth h => ?holdover, State.begun_other, fun hr ⟨hlocked, hholdover⟩ => ?due,
    fun hr hend hslot ⟨hlocked, hholdover, hframes, hlinks, hroutes, hcount, hann, hactive⟩ => ?running,
    fun m c hm hend hslot => ⟨fun hcount hlimit => ?quiescing, fun rest horder hc hf => ?limit⟩⟩
  case sightings => rw [hsightings, bankGet_replicate]
  case locked =>
    obtain ⟨hheard, hkept, hsilence⟩ := State.begun_locked h
    exact ⟨hheard, hkept, hsilence, fun hr hh hl => State.boundary_head (State.begun_silenceLimit hr h hh hl)⟩
  case holdover =>
    obtain ⟨hheard, hkept, hcount⟩ := State.begun_holdover h
    exact ⟨hheard, hkept, hcount, fun hr hl => State.boundary_head (State.begun_holdoverTimeout hr h hl)⟩
  case due =>
    have hs := State.begun_silenceDue_nil hr hlocked hholdover
    refine ⟨fun rest horder g f hf ha => ?_, fun rest horder n => ?_, fun rest horder => ⟨?_, fun hcount => ?_⟩⟩ <;>
      subst horder
    · exact State.frames_due hr hs hf ha
    · exact State.links_due hr hs n
    · exact fun p d st h q x age he ha => State.routes_due hr hs he ha
    · exact State.routeDue_mem_boundary hr hs (.inr ⟨hcount, rfl⟩)
  case running =>
    have heq := State.boundary_of_running_calm (order := order) (State.begun_silenceDue_nil hr hlocked hholdover)
      (State.calm_of_running hr hframes hlinks hroutes hcount (State.advanceStage_slot hann hactive)).begun hr hw hend
      hslot
    exact ⟨heq.symm ▸ rfl, fun g => (congrArg (·.frame g) heq).trans (s.frame_raisePoolAges g),
      fun n => (congrArg (·.link n) heq).trans ((bankGet_bankMap ..).trans (LinkRec.atBoundary_eq _)),
      fun p => (congrArg (·.routes.entry p) heq).trans (RouteTable.raiseAges_entry ..)⟩
  case quiescing =>
    have heq := State.boundary_of_quiescing_calm (order := order) (State.calm_of_quiescing hm hcount hlimit).begun hm hw
      hend hslot
    exact ⟨heq.symm ▸ rfl, fun g => (congrArg (·.frame g) heq).trans (s.frame_raisePoolAges g)⟩
  case limit =>
    subst horder hc
    exact State.quiesceLimit_due hm hf

end Sys2Proof.Machine
end

section
/-!
PROOF. What the operations of the part do to packet memory and to the injection queue (R171): they store bytes, they give
the queue and the tails new contents, of which the queue takes the first 16, and they abandon a decision's reads (R115).
`Traffic` says so once of every operation, so that an invariant of the memory or of the queue has those three to answer for.
-/

namespace Sys2Proof.Machine

/-- `s` comes from `r` by stores, refills of the injection queue and abandonments; whatever else happens leaves packet
memory, the queue and the tails as they are. -/
inductive Traffic (r : State) : State → Prop where
  | refl : Traffic r r
  | still {s t : State} (h : Traffic r s) (mem : t.mem = s.mem) (queue : t.path.queue = s.path.queue)
      (tails : t.path.tails = s.path.tails) : Traffic r t
  | store {s : State} (a : Nat) (d : List Byte) (h : Traffic r s) : Traffic r (s.store a d)
  | fill {s : State} (xs : List Injected) (h : Traffic r s) : Traffic r { s with path := s.path.fill xs }
  | abandon {s : State} (h : Traffic r s) : Traffic r s.abandon

section Blocks
variable {r s t : State} {n : LinkIx} {p : BurstPlan}

theorem Traffic.issue (xs : List Injected) (h : Traffic r s) : Traffic r (s.issue xs) := h.fill _

theorem Traffic.dropHead (h : Traffic r s) : Traffic r s.dropHead := h.fill _

theorem Traffic.setCommand (c : CommandUnit) (h : Traffic r s) : Traffic r { s with command := c } :=
  h.still rfl rfl rfl

theorem Traffic.setWork (ws : List Work) (h : Traffic r s) : Traffic r { s with work := ws } :=
  h.still rfl rfl rfl

theorem Traffic.setSched (d : Scheduler) (h : Traffic r s) : Traffic r { s with sched := d } :=
  h.still rfl rfl rfl

theorem Traffic.setMark (q : Nat) (m : Mark) (h : Traffic r s) : Traffic r (s.setMark q m) :=
  h.still (by simp) (by simp) (by simp)

/-- Neither the moves of the pool nor a link's changes of state touch the port. -/
theorem Traffic.inner (h : Traffic r s) (k : Inner s t) : Traffic r t :=
  h.still k.mem (by rw [k.path]) (by rw [k.path])

theorem Traffic.reevaluate (h : Traffic r s) : Traffic r s.reevaluate := h.inner (Inner.reevaluate s)

theorem Traffic.foldl {α : Type} {f : State → α → State}
    (hf : ∀ (s : State) (a : α), Traffic r s → Traffic r (f s a)) (l : List α) (h : Traffic r s) :
    Traffic r (l.foldl f s) := by
  induction l generalizing s with
  | nil => exact h
  | cons a l ih => exact ih (hf s a h)

/-! ### Slots (R11, R135 to R140) -/

theorem Traffic.writeDescriptor (j budget rate attempts b l : Nat) (dest : NodeId) (c : Carried) (h : Traffic r s) :
    Traffic r (s.writeDescriptor j budget rate attempts b l dest c) :=
  (h.setSched _).issue _

theorem Traffic.sendOwn (j rate attempts : Nat) (b : BufIx) (frame : List Byte) (dest : NodeId) (c : Carried)
    (h : Traffic r s) : Traffic r (s.sendOwn j rate attempts b frame dest c) :=
  ((h.issue _).writeDescriptor ..).setSched _

theorem Traffic.sendProbe (j : Nat) (n : LinkIx) (h : Traffic r s) : Traffic r (s.sendProbe j n) := h.sendOwn ..

theorem Traffic.beaconSlot (j : Nat) (h : Traffic r s) : Traffic r (s.beaconSlot j).1 := by
  have hsent := (h.still (t := { s with routes := s.routes.afterBeacon }) rfl rfl rfl).sendOwn
  unfold State.beaconSlot
  dsimp only
  split
  · exact (hsent ..).setSched _
  · exact h

theorem Traffic.serveReply (j : Nat) (h : Traffic r s) : Traffic r (s.serveReply j).1 := by
  unfold State.serveReply
  split
  · exact h
  · split
    · exact h.still rfl rfl rfl
    · split
      · exact h
      · split
        · exact (h.sendOwn ..).still rfl rfl rfl
        · exact h

theorem Traffic.sharedSlot (j : Nat) (h : Traffic r s) : Traffic r (s.sharedSlot j) := by
  have hr := h.serveReply j
  unfold State.sharedSlot
  dsimp only
  split
  · exact hr
  · split
    · exact hr
    · exact (hr.sendProbe j _).still rfl rfl rfl

theorem Traffic.takeFrame (g : Tag) (f : Frame) (h : Traffic r s) : Traffic r (s.takeFrame p g f) :=
  (h.writeDescriptor ..).inner (Inner.takeToRing ..)

theorem Traffic.takeClass (ts : List Tag) (left : Nat) (h : Traffic r s) :
    Traffic r (State.takeClass p ts (s, left)).1 := by
  induction ts generalizing s left with
  | nil => exact h
  | cons g ts ih =>
    unfold State.takeClass
    split
    · exact h
    · split
      · exact ih _ (h.takeFrame _ _)
      · exact h

theorem Traffic.takeShared (fuel left : Nat) (h : Traffic r s) : Traffic r (State.takeShared p fuel s left) := by
  induction fuel generalizing s left with
  | zero => exact h
  | succ fuel ih =>
    unfold State.takeShared
    dsimp only
    split
    · exact ih _ ((h.takeFrame _ _).inner (Inner.setLink ..))
    · exact h

theorem Traffic.txSlot (j : Nat) (h : Traffic r s) : Traffic r (s.txSlot j n) := by
  have hburst : Traffic r (s.burst j n) := ((h.takeClass _ _).takeClass _ _).takeShared _ _
  unfold State.txSlot
  split
  · exact hburst
  · exact hburst
  · split
    · exact h.sendProbe j n
    · exact h
  · exact h

theorem Traffic.slotAction (j : SlotIx) (h : Traffic r s) : Traffic r (s.slotAction j).1 := by
  unfold State.slotAction
  split
  · split
    · exact h.beaconSlot _
    · exact h.sharedSlot _
    · exact h.txSlot _
    · exact h
  · exact h

/-! ### The passing of time (R115, R151) -/

/-- R115: a hold budget that runs out abandons the decision; until then it only falls. -/
theorem Traffic.elapse (d : Nat) (h : Traffic r s) : Traffic r (s.elapse d) := by
  cases hs : s.path.slot with
  | deciding a x u =>
    by_cases hd : u ≤ d
    · have hp := (MemoryPath.pass_of_le hs hd).1
      exact h.abandon.still rfl (by rw [State.elapse_path, hp]; rfl) (by rw [State.elapse_path, hp]; rfl)
    · have hp := (MemoryPath.pass_of_lt hs (Nat.lt_of_not_le hd)).1
      exact h.still rfl (by rw [State.elapse_path, hp]) (by rw [State.elapse_path, hp])
  | _ =>
    have hp := (MemoryPath.pass_of_not (p := s.path) (d := d) (by simp [hs])).1
    exact h.still rfl (by rw [State.elapse_path, hp]) (by rw [State.elapse_path, hp])

theorem Traffic.startSlot (h : Traffic r s) : Traffic r s.startSlot := by
  unfold State.startSlot
  split
  · exact h
  · split
    · exact h
    · rename_i j _ _
      have he : Traffic r (s.enterSlot j) := (h.elapse _).still rfl rfl rfl
      exact (he.slotAction j).setWork _

theorem Traffic.expireBudget (h : Traffic r s) : Traffic r s.expireBudget := by
  unfold State.expireBudget
  split
  · exact h.elapse _
  · exact h

/-! ### Records that leave the in-flight table or change in it (R143 to R146) -/

theorem Traffic.retire (x : InFlight) (h : Traffic r s) : Traffic r (s.retire x) :=
  Traffic.setMark _ _ (h.still rfl rfl rfl)

theorem Traffic.takeCompletion (h : Traffic r s) : Traffic r s.takeCompletion := by
  unfold State.takeCompletion
  split
  · exact h
  · rename_i c cs _
    have hs : Traffic r { s with completion := { s.completion with queue := cs } } := h.still rfl rfl rfl
    dsimp only
    split
    · exact hs
    · exact ((hs.inner (Inner.handleOutcome _ _ _ _)).retire _).inner (Inner.drainAfter _ _)

theorem Traffic.giveUp (h : Traffic r s) : Traffic r s.giveUp := by
  have hreleased := h.foldl (fun _ g h => h.inner (Inner.releaseInFlight _ g .abandoned)) s.tagsInFlight
  exact (hreleased.foldl (fun _ x h => h.setMark x.pos .none) s.sched.inFlight).still rfl rfl rfl

theorem Traffic.recall (which : InFlight → Bool) (h : Traffic r s) : Traffic r (s.recall which) :=
  (h.setSched _).issue _

theorem Traffic.reportFetch (q : Nat) (h : Traffic r s) : Traffic r (s.reportFetch q) := by
  unfold State.reportFetch
  split
  · exact h
  · split
    · exact h
    · dsimp only
      split
      · exact (h.setSched _).inner (Inner.markFetched _ _)
      · exact h.setSched _

theorem Traffic.writeTaken (what : Writer) (a : Nat) (d : List Byte) (h : Traffic r s) :
    Traffic r (s.writeTaken what a d) := by
  unfold State.writeTaken
  split
  · exact (h.store a d).setMark _ _
  · unfold State.skipTaken
    split
    · exact h.setSched _
    · exact h.store a d
  · exact (h.store a d).still rfl rfl rfl
  · exact h.store a d

/-! ### Boundaries and consequences (R132, R151) -/

theorem Traffic.advanceStage (h : Traffic r s) : Traffic r s.advanceStage := by
  unfold State.advanceStage
  split <;> exact h.still rfl rfl rfl

theorem Traffic.takeBoundary (b : Block) (h : Traffic r s) : Traffic r (s.takeBoundary b).1 := by
  cases b with
  | framePool =>
    have hages : Traffic r s.raisePoolAges := by
      rw [State.raisePoolAges]
      exact h.still rfl rfl rfl
    exact hages
  | linkTable =>
    unfold State.takeBoundary State.linkBoundary
    dsimp only
    split <;> exact h.still rfl rfl rfl
  | routeTable =>
    unfold State.takeBoundary State.routeBoundary
    dsimp only
    split <;> exact h.still rfl rfl rfl
  | slotScheduler =>
    unfold State.takeBoundary State.schedulerBoundary
    dsimp only
    split
    · exact h.advanceStage.slotAction 0
    · exact h
  | engine =>
    unfold State.takeBoundary State.engineBoundary
    dsimp only
    split <;> exact h.still rfl rfl rfl

theorem Traffic.perform (c : Consequence) (h : Traffic r s) : Traffic r (s.perform c) := by
  cases c with
  | agedRelease g => exact h.inner (Inner.releaseAged s g)
  | holdTimeout g => exact h.inner (Inner.releaseTimedOut s g)
  | beaconLoss n => exact h.inner (Inner.loseBeacons s n)
  | openTimeout n => exact h.inner (Inner.expireOpen s n)
  | blockHoldExpiry n => exact h.inner (Inner.expireBlock s n)
  | quiesceLimit => exact h.giveUp
  | routeStale p => exact h.still rfl rfl rfl
  | routeAgePoison p => exact h.still rfl rfl rfl
  | poisonCountExpiry p => exact h.still rfl rfl rfl
  | ownSequenceAdvance => exact h.still rfl rfl rfl
  | silenceLimit =>
    unfold State.perform State.enterHoldover
    dsimp only
    split <;> exact h.still rfl rfl rfl
  | holdoverTimeout =>
    unfold State.perform State.endHoldover
    dsimp only
    split <;> exact h.still rfl rfl rfl
  | outlierLimit =>
    unfold State.perform State.giveUpParent
    dsimp only
    split <;> exact h.still rfl rfl rfl

theorem Traffic.advance (ws : List Work) (h : Traffic r s) : Traffic r (State.advance ws s) := by
  induction ws generalizing s with
  | nil => exact h.setWork _
  | cons w ws ih =>
    cases w with
    | due c => exact h.setWork _
    | take b =>
      have hb := h.takeBoundary b
      unfold State.advance
      split
      · rename_i hr; exact ih (by rwa [hr] at hb)
      · rename_i hr; rw [hr] at hb; exact hb.setWork _

theorem Traffic.finish (ws : List Work) (h : Traffic r s) : Traffic r (State.finish ws s) := by
  induction ws generalizing s with
  | nil => exact h.setWork _
  | cons w ws ih =>
    cases w with
    | due c => exact ih (h.perform c)
    | take b => exact ih ((h.takeBoundary b).foldl (fun _ c h => h.perform c) _)

theorem Traffic.resolve (kind : Consequence → Bool) (h : Traffic r s) : Traffic r (s.resolve kind) := by
  unfold State.resolve
  split
  · split
    · exact (h.perform _).advance _
    · exact h
  · exact h

theorem Traffic.applyPendingRoot (h : Traffic r s) : Traffic r s.applyPendingRoot := by
  unfold State.applyPendingRoot
  split <;> exact h.still rfl rfl rfl

theorem Traffic.countSilence (h : Traffic r s) : Traffic r s.countSilence := by
  unfold State.countSilence
  split
  · split
    · exact h.still rfl rfl rfl
    · split <;> exact h.still rfl rfl rfl
  · split <;> exact h.still rfl rfl rfl
  · exact h

theorem Traffic.newSuperframe (u : Nat) (h : Traffic r s) : Traffic r (s.newSuperframe u) :=
  (h.elapse (u - s.timing.timebase)).still rfl rfl rfl

theorem Traffic.boundary (order : List Block) (h : Traffic r s) : Traffic r (s.boundary order) :=
  (h.newSuperframe _).applyPendingRoot.countSilence.advance _

end Blocks

end Sys2Proof.Machine
end

section
/-!
PROOF. The blocks around the Memory Path: the Receive Classifier, the Local Intake and the software commands, and what they
do to packet memory and to the injection queue.
-/

namespace Sys2Proof.Machine

section Blocks
variable {r s t : State}

/-! ### The Receive Classifier (R112 to R121) -/

theorem Traffic.beginDecision (b l : Nat) (h : Traffic r s) : Traffic r (s.beginDecision b l) := by
  have hc (c : Classifier) : Traffic r (s.setClassifier c) := h.still rfl rfl rfl
  unfold State.beginDecision
  split
  · exact (hc _).issue _
  · exact hc _

theorem Traffic.headerAnswered (bs : List Byte) (last : Bool) (h : Traffic r s) :
    Traffic r (s.headerAnswered bs last) := by
  have hc (c : Classifier) : Traffic r (s.setClassifier c) := h.still rfl rfl rfl
  unfold State.headerAnswered State.headerGathered
  split
  · split
    · split
      · split
        · split
          · exact (hc _).issue _
          · exact hc _
        · exact hc _
      · exact hc _
    · exact hc _
  · exact h

theorem Traffic.bodyAnswered (bs : List Byte) (last : Bool) (h : Traffic r s) :
    Traffic r (s.bodyAnswered bs last) := by
  unfold State.bodyAnswered
  split
  · split
    · split <;> exact h.still rfl rfl rfl
    · exact h.still rfl rfl rfl
  · exact h

theorem Traffic.linkBeacon (source : NodeId) (x : TimingPair) (y : PlanPair) (h : Traffic r s) :
    Traffic r (s.linkBeacon source x y) := by
  unfold State.linkBeacon
  split
  · exact h
  · split <;> exact h.still rfl rfl rfl

theorem Traffic.learnBeacon (source : NodeId) (es : List Advert) (h : Traffic r s) :
    Traffic r (s.learnBeacon source es) := by
  unfold State.learnBeacon
  split
  · exact h
  · dsimp only
    split
    · exact Traffic.reevaluate (h.still rfl rfl rfl)
    · exact h.still rfl rfl rfl

theorem Traffic.timingBeacon (source : NodeId) (x : Sighting) (h : Traffic r s) :
    Traffic r (s.timingBeacon source x) := by
  cases hn : s.usableLinkOf source with
  | none => simpa only [State.timingBeacon, hn] using h
  | some n =>
    obtain ⟨T, L, F, ht, -⟩ := State.timingBeacon_frame (x := x) hn
    rw [ht]
    exact h.still rfl rfl rfl

theorem Traffic.takeBeacon (record hd b : List Byte) (h : Traffic r s) : Traffic r (s.takeBeacon record hd b) := by
  unfold State.takeBeacon
  dsimp only
  split
  · exact ((h.linkBeacon _ _ _).learnBeacon _ _).timingBeacon _ _
  · exact h

theorem Traffic.probeReceived (source : NodeId) (h : Traffic r s) : Traffic r (s.probeReceived source) := by
  unfold State.probeReceived
  split
  · split
    · exact (h.inner (Inner.enterActive s _ _)).still rfl rfl rfl
    all_goals exact h.still rfl rfl rfl
  · split
    · split
      · exact ((h.inner (Inner.setLink ..)).inner (Inner.enterActive _ _ _)).still rfl rfl rfl
      · exact h
    · exact h

theorem Traffic.replyReceived (source : NodeId) (h : Traffic r s) : Traffic r (s.replyReceived source) := by
  unfold State.replyReceived
  split
  · split
    · exact h.inner (Inner.enterActive s _ _)
    · exact h
  · exact h

theorem Traffic.admitQueue {q : Request} {g : Tag} (h : Traffic r s) (ha : s.admitQueue q n = some (t, g)) :
    Traffic r t := by
  unfold State.admitQueue at ha
  split at ha
  · obtain ⟨u, -, e⟩ := Option.map_eq_some_iff.mp ha
    cases e
    exact h.still rfl rfl rfl
  · cases ha

theorem Traffic.admitHeld {q : Request} {g : Tag} (h : Traffic r s) (ha : s.admitHeld q = some (t, g)) :
    Traffic r t := by
  unfold State.admitHeld at ha
  split at ha
  · obtain ⟨u, -, e⟩ := Option.map_eq_some_iff.mp ha
    cases e
    exact h.still rfl rfl rfl
  · cases ha

/-- R114, R119: a grant issues the header patch; a refusal changes nothing. -/
theorem Traffic.admitForward (b l : Nat) (hd : List Byte) (h : Traffic r s) :
    Traffic r (s.admitForward b l hd).1 := by
  unfold State.admitForward
  dsimp only
  split
  · exact h
  · split
    · rename_i ha; exact (h.admitHeld ha).issue _
    · exact h
  · split
    · rename_i ha; exact (h.admitQueue ha).issue _
    · exact h

theorem Traffic.judgeData (b l : Nat) (hd : List Byte) (h : Traffic r s) : Traffic r (s.judgeData b l hd).1 := by
  unfold State.judgeData
  split
  · exact h
  · split
    · exact h
    · split
      · exact h
      · split
        · exact h
        · split
          · exact h
          · exact h.admitForward _ _ _

theorem Traffic.judge (record : List Byte) (b l : Nat) (hd bd : List Byte) (h : Traffic r s) :
    Traffic r (s.judge record b l hd bd).1 := by
  unfold State.judge
  split
  · exact h.takeBeacon _ _ _
  · split
    · dsimp only
      split
      · exact h.probeReceived _
      · exact h
    · split
      · dsimp only
        split
        · exact h.replyReceived _
        · exact h
      · exact h.judgeData _ _ _

theorem Traffic.nameRelease (a : Nat) (record : List Byte) (v : Verdict) (h : Traffic r s) :
    Traffic r (s.nameRelease a record v) := by
  have hslot (x : HeldSlot) : Traffic r ((s.setClassifier .idle).setSlot x) := h.still rfl rfl rfl
  unfold State.nameRelease
  split
  · exact hslot _
  · exact (hslot _).issue _

theorem Traffic.claim (h : Traffic r s) : Traffic r s.claim := by
  unfold State.claim
  split
  · split
    · split
      · exact h.nameRelease _ _ _
      · exact ((h.judge _ _ _ _ _).nameRelease _ _ _).setWork _
      · exact h
    · exact h
  · exact h

/-! ### The Local Intake (R122 to R127) -/

theorem Traffic.setStage (g : IntakeStage) (h : Traffic r s) : Traffic r (s.setStage g) := h.still rfl rfl rfl

theorem Traffic.entryDone (h : Traffic r s) : Traffic r s.entryDone := h.still rfl rfl rfl

theorem Traffic.releaseTagless (e : LocalEntry) (hd : List Byte) (st : ReleaseStatus) (h : Traffic r s) :
    Traffic r (s.releaseTagless e hd st) := by
  unfold State.releaseTagless
  split <;> exact h.still rfl rfl rfl

theorem Traffic.entryAnswered (bs : List Byte) (h : Traffic r s) : Traffic r (s.entryAnswered bs) := by
  unfold State.entryAnswered
  dsimp only
  split
  · exact h.releaseTagless _ _ _
  · split
    · exact (h.setStage _).issue _
    · exact h.releaseTagless _ _ _

theorem Traffic.localHeaderAnswered (bs : List Byte) (last : Bool) (h : Traffic r s) :
    Traffic r (s.localHeaderAnswered bs last) := by
  unfold State.localHeaderAnswered
  split
  · split
    · exact h.setStage _
    · split
      · exact h.releaseTagless _ _ _
      · split
        · exact h.setStage _
        · exact h.releaseTagless _ _ _
  · exact h

theorem Traffic.admitLocal (e : LocalEntry) (hd : List Byte) (h : Traffic r s) : Traffic r (s.admitLocal e hd) := by
  unfold State.admitLocal
  dsimp only
  split
  · exact h.releaseTagless _ _ _
  · split
    · rename_i ha; exact ((h.admitHeld ha).issue _).entryDone
    · exact h.releaseTagless _ _ _
  · split
    · rename_i ha; exact ((h.admitQueue ha).issue _).entryDone
    · exact h.setStage _

theorem Traffic.intakeQuiesce (h : Traffic r s) : Traffic r s.intakeQuiesce := by
  unfold State.intakeQuiesce
  split
  · exact h.releaseTagless _ _ _
  · exact h.releaseTagless _ _ _
  · exact h

theorem Traffic.localAdmission (h : Traffic r s) : Traffic r s.localAdmission := by
  unfold State.localAdmission
  split
  · split
    · exact h.admitLocal _ _
    · exact h
  · exact h

theorem Traffic.intakeRetry (h : Traffic r s) : Traffic r s.intakeRetry := by
  unfold State.intakeRetry
  split
  · split
    · exact h.admitLocal _ _
    · exact h
  · exact h

theorem Traffic.handOver (h : Traffic r s) : Traffic r s.handOver := by
  unfold State.handOver
  split
  · split <;> exact h.still rfl rfl rfl
  · exact h

theorem Traffic.fetchEntry (h : Traffic r s) : Traffic r s.fetchEntry := by
  unfold State.fetchEntry
  split
  · split
    · exact (h.setStage _).issue _
    · exact h
  · exact h

/-! ### Software commands -/

theorem Traffic.commandLinkOpen (seq : BitVec 16) (link : Byte) (node : NodeId) (fl ce at' : Byte)
    (h : Traffic r s) : Traffic r (s.commandLinkOpen seq link node fl ce at') := by
  unfold State.commandLinkOpen
  split
  · exact h.setCommand _
  · split
    · exact h.setCommand _
    · split <;> exact h.still rfl rfl rfl

theorem Traffic.commandLinkTune (seq : BitVec 16) (link : Byte) (sel : BitVec 16) (v : TuneValues)
    (h : Traffic r s) : Traffic r (s.commandLinkTune seq link sel v) := by
  unfold State.commandLinkTune
  split
  · exact h.setCommand _
  · split <;> exact h.still rfl rfl rfl

theorem Traffic.commandLinkDrain (seq : BitVec 16) (link : Byte) (h : Traffic r s) :
    Traffic r (s.commandLinkDrain seq link) := by
  unfold State.commandLinkDrain
  split
  · exact h.setCommand _
  · split
    · exact ((h.inner (Inner.enterDraining s _)).inner (Inner.drainTest _ _)).setCommand _
    · exact h.setCommand _

theorem Traffic.commandLinkCut (seq : BitVec 16) (link : Byte) (h : Traffic r s) :
    Traffic r (s.commandLinkCut seq link) := by
  unfold State.commandLinkCut
  split
  · exact h.setCommand _
  · split
    · exact h.setCommand _
    · exact h.setCommand _
    · exact ((h.inner (Inner.enterSilent s _)).recall _).setCommand _

theorem Traffic.commandLinkClear (seq : BitVec 16) (link : Byte) (h : Traffic r s) :
    Traffic r (s.commandLinkClear seq link) := by
  unfold State.commandLinkClear
  split
  · exact h.setCommand _
  · dsimp only
    split
    · exact h.setCommand _
    · split <;> exact h.still rfl rfl rfl

theorem Traffic.commandLinkQuery (seq : BitVec 16) (link : Byte) (h : Traffic r s) :
    Traffic r (s.commandLinkQuery seq link) := by
  unfold State.commandLinkQuery
  split <;> exact h.still rfl rfl rfl

theorem Traffic.commandLinkClimb (seq : BitVec 16) (link act : Byte) (h : Traffic r s) :
    Traffic r (s.commandLinkClimb seq link act) := by
  unfold State.commandLinkClimb
  split
  · exact h.setCommand _
  · exact h.setCommand _
  · dsimp only
    split
    · exact h.setCommand _
    · split <;> exact h.still rfl rfl rfl

theorem Traffic.commandRoutePin (seq : BitVec 16) (dest : NodeId) (link : Byte) (metric : BitVec 16)
    (h : Traffic r s) : Traffic r (s.commandRoutePin seq dest link metric) := by
  unfold State.commandRoutePin
  split
  · exact h.setCommand _
  · split
    · exact h.setCommand _
    · split
      · exact h.setCommand _
      · rename_i rt _
        exact (Traffic.reevaluate (s := { s with routes := rt }) (h.still rfl rfl rfl)).setCommand _

theorem Traffic.commandRouteUnpin (seq : BitVec 16) (dest : NodeId) (h : Traffic r s) :
    Traffic r (s.commandRouteUnpin seq dest) := by
  unfold State.commandRouteUnpin
  split
  · exact h.setCommand _
  · split <;> exact h.still rfl rfl rfl

theorem Traffic.commandRouteQuery (seq : BitVec 16) (sel : Byte) (v : BitVec 16) (h : Traffic r s) :
    Traffic r (s.commandRouteQuery seq sel v) := by
  unfold State.commandRouteQuery
  split
  · exact h.setCommand _
  · split
    · exact h.setCommand _
    · split <;> exact h.setCommand _
  · exact h.setCommand _

theorem Traffic.commandPlanWrite (seq : BitVec 16) (c first count : Byte) (es : List Byte) (h : Traffic r s) :
    Traffic r (s.commandPlanWrite seq c first count es) := by
  unfold State.commandPlanWrite
  dsimp only
  split
  · exact h.setCommand _
  · exact h.setCommand _
  · split <;> exact h.still rfl rfl rfl

theorem Traffic.commandPlanSwitch (seq : BitVec 16) (c : Byte) (h : Traffic r s) :
    Traffic r (s.commandPlanSwitch seq c) := by
  unfold State.commandPlanSwitch
  split
  · exact h.setCommand _
  · split
    · exact h.setCommand _
    · split
      · exact h.setCommand _
      · split <;> exact h.still rfl rfl rfl

theorem Traffic.commandPlanCancel (seq : BitVec 16) (h : Traffic r s) : Traffic r (s.commandPlanCancel seq) := by
  unfold State.commandPlanCancel
  split <;> exact h.still rfl rfl rfl

theorem Traffic.commandTimingSet (seq : BitVec 16) (role prop : Byte) (h : Traffic r s) :
    Traffic r (s.commandTimingSet seq role prop) := by
  unfold State.commandTimingSet State.askRole
  split
  · exact h.setCommand _
  · split <;> exact h.still rfl rfl rfl

/-- R121: at the entry to QUIESCING a decision in progress is abandoned. -/
theorem Traffic.releaseHeld (h : Traffic r s) : Traffic r s.releaseHeld := by
  unfold State.releaseHeld
  split
  · exact Traffic.abandon (h.still rfl rfl rfl)
  · exact h

theorem Traffic.enterQuiescing (m : ResetMode) (h : Traffic r s) : Traffic r (s.enterQuiescing m) := by
  have hs : Traffic r { s with path := { s.path with engine := .quiescing m 0 } } := h.still rfl rfl rfl
  exact (hs.releaseHeld.intakeQuiesce.inner (Inner.quiesceRelease _)).recall _

theorem Traffic.commandEngineReset (seq : BitVec 16) (mode : Byte) (h : Traffic r s) :
    Traffic r (s.commandEngineReset seq mode) := by
  unfold State.commandEngineReset
  split
  · exact h.setCommand _
  · exact (h.enterQuiescing _).setCommand _

theorem Traffic.apply (c : Instr) (h : Traffic r s) : Traffic r (s.apply c) := by
  cases c
  case nop => exact h.setCommand _
  case unknownCommand => exact h.setCommand _
  case linkOpen => exact h.commandLinkOpen _ _ _ _ _ _
  case linkTune => exact h.commandLinkTune _ _ _ _
  case linkDrain => exact h.commandLinkDrain _ _
  case linkCut => exact h.commandLinkCut _ _
  case linkClear => exact h.commandLinkClear _ _
  case linkQuery => exact h.commandLinkQuery _ _
  case linkClimb => exact h.commandLinkClimb _ _ _
  case routePin => exact h.commandRoutePin _ _ _ _
  case routeUnpin => exact h.commandRouteUnpin _ _
  case routeQuery => exact h.commandRouteQuery _ _ _
  case planWrite => exact h.commandPlanWrite _ _ _ _ _
  case planSwitch => exact h.commandPlanSwitch _ _
  case planCancel => exact h.commandPlanCancel _
  case timingSet => exact h.commandTimingSet _ _ _
  case engineReset => exact h.commandEngineReset _ _
  all_goals exact h

end Blocks

end Sys2Proof.Machine
end

section
/-!
PROOF. The rows of the port, of the system side and of the engine, and what they do to packet memory and to the injection
queue. From it: every step keeps at most 16 accesses in the queue, and tails only while it is full (R171).
-/

namespace Sys2Proof.Machine

section Steps
variable {r s t : State}

/-! ### The anchor commit, the reports and the post words -/

/-- R165: a commit empties the queue; the status write is issued in any case. -/
theorem Traffic.validateAnchor (sel : BitVec 2) (h : Traffic r s) : Traffic r (s.validateAnchor sel) := by
  have hcommit : Traffic r s.commit := (h.fill []).still rfl rfl rfl
  unfold State.validateAnchor
  dsimp only
  split
  · exact hcommit.issue _
  · exact h.issue _

theorem Traffic.captureAnchor (o : Nat) (d : List Byte) (h : Traffic r s) : Traffic r (s.captureAnchor o d) := by
  unfold State.captureAnchor
  split
  · exact h
  · dsimp only
    split
    · exact Traffic.validateAnchor _ (h.still rfl rfl rfl)
    · exact h.still rfl rfl rfl

theorem Traffic.signalFreed (h : Traffic r s) : Traffic r s.signalFreed := by
  unfold State.signalFreed
  split <;> exact h.still rfl rfl rfl

theorem Traffic.leaveQuiesce (h : Traffic r s) : Traffic r s.leaveQuiesce := by
  unfold State.leaveQuiesce
  split <;> exact h.still rfl rfl rfl

theorem Traffic.reported (w : Waiting) (h : Traffic r s) : Traffic r (s.reported w) := by
  cases w with
  | response code seq st p => exact (h.setCommand _).leaveQuiesce
  | release i =>
    cases i with
    | tagless a b => exact h.still rfl rfl rfl
    | entry g => exact Traffic.signalFreed (h.still rfl rfl rfl)
  | attention n => exact h.still rfl rfl rfl
  | planActive p => exact h.still rfl rfl rfl
  | timing t => exact h.still rfl rfl rfl

theorem Traffic.writeReport (h : Traffic r s) : Traffic r s.writeReport := by
  unfold State.writeReport
  split
  · split
    · split
      · exact Traffic.reported _ ((h.issue _).still rfl rfl rfl)
      · exact h.still rfl rfl rfl
    · exact h
  · exact h

theorem Traffic.capture (w : PostWord) (v : Nat) (h : Traffic r s) : Traffic r (s.capture w v) := by
  unfold State.capture
  split
  · exact h
  · split
    · split <;> exact h.still rfl rfl rfl
    · split <;> exact h.still rfl rfl rfl
    · split <;> exact h.still rfl rfl rfl

/-! ### The port (R170 to R172) -/

theorem Traffic.takeRecord (bs : List Byte) (h : Traffic r s) : Traffic r (s.takeRecord bs) := h.still rfl rfl rfl

theorem Traffic.answered (who : Reader) (bs : List Byte) (last : Bool) (h : Traffic r s) :
    Traffic r (s.answered who bs last) := by
  cases who with
  | classifierHeader => exact h.headerAnswered bs last
  | classifierBody => exact h.bodyAnswered bs last
  | intakeEntry => exact h.entryAnswered bs
  | intakeHeader => exact h.localHeaderAnswered bs last
  | command => exact (h.takeRecord bs).apply _

theorem Traffic.takeHead (h : Traffic r s) : Traffic r s.takeHead := by
  unfold State.takeHead
  split
  · exact h
  · split
    · exact h.dropHead.answered _ _ _
    · exact h.dropHead
  · exact h.dropHead.writeTaken _ _ _

theorem Traffic.yieldFor (fuel : Nat) (h : Traffic r s) : Traffic r (State.yieldFor fuel s) := by
  induction fuel generalizing s with
  | zero => exact h
  | succ fuel ih =>
    unfold State.yieldFor
    split
    · exact ih h.takeHead
    · exact h

theorem Traffic.yieldPort (h : Traffic r s) : Traffic r s.yieldPort := h.yieldFor _

theorem Traffic.takeRun (who : Reader) (fuel : Nat) (h : Traffic r s) : Traffic r (State.takeRun who fuel s) := by
  induction fuel generalizing s with
  | zero => exact h
  | succ fuel ih =>
    unfold State.takeRun
    split
    · split
      · split
        · exact h.takeHead
        · exact ih h.takeHead
      · exact h
    · exact h

theorem Traffic.answerRun (who : Reader) (h : Traffic r s) : Traffic r (s.answerRun who) := h.takeRun _ _

/-! ### System-side accesses (R164, R166 to R168) -/

theorem Traffic.setSlot (x : HeldSlot) (h : Traffic r s) : Traffic r (s.setSlot x) := h.still rfl rfl rfl

/-- A write that takes the port: the heads of a full queue first, and then its own bytes (R172). -/
theorem Traffic.passing (a : Nat) (d : List Byte) (h : Traffic r s) : Traffic r (s.yieldPort.store a d) :=
  h.yieldPort.store a d

theorem Traffic.copyWrite (a : Nat) (d : List Byte) (q : Nat) (h : Traffic r s) : Traffic r (s.copyWrite a d q) := by
  unfold State.copyWrite
  split
  · exact (h.passing a d).still rfl rfl rfl
  · exact h.setSlot _

theorem Traffic.takeWrite (a : Nat) (d : List Byte) (h : Traffic r s) : Traffic r (s.takeWrite a d) := by
  unfold State.takeWrite
  split
  · exact h.passing a d
  · exact h
  · exact (h.setSlot _).beginDecision _ _
  · exact h.copyWrite _ _ _
  · exact (h.passing a d).capture _ _
  · exact (h.passing a d).captureAnchor _ _

theorem Traffic.fetchPosition (q : Nat) (h : Traffic r s) : Traffic r (s.fetchPosition q) := by
  unfold State.fetchPosition
  split
  · exact (h.setMark _ _).reportFetch _
  · exact h

theorem Traffic.takeAccess (x : Access) (h : Traffic r s) : Traffic r (s.takeAccess x) := by
  cases x with
  | write a d => exact h.takeWrite _ _
  | read a n => exact h.yieldPort.foldl (fun _ q h => h.fetchPosition q) _

theorem Traffic.proceedFor (fuel : Nat) (h : Traffic r s) : Traffic r (State.proceedFor fuel s) := by
  induction fuel generalizing s with
  | zero => exact h
  | succ fuel ih =>
    unfold State.proceedFor
    split
    · exact h
    · exact ih (Traffic.takeAccess _ (h.still rfl rfl rfl))

theorem Traffic.proceed (h : Traffic r s) : Traffic r s.proceed := h.proceedFor _

theorem Traffic.access (x : Access) (h : Traffic r s) : Traffic r (s.access x) := by
  unfold State.access
  split
  · exact h.still rfl rfl rfl
  · exact (h.takeAccess x).proceed

theorem Traffic.takeHeld (h : Traffic r s) : Traffic r s.takeHeld := by
  unfold State.takeHeld
  split
  · exact ((h.passing _ _).setSlot _).proceed
  · exact ((h.passing _ _).setSlot _).proceed
  · exact h

theorem Traffic.refillCompletion (h : Traffic r s) : Traffic r s.refillCompletion := by
  unfold State.refillCompletion
  split
  · split
    · exact Traffic.proceed (((h.setSlot _).passing _ _).still rfl rfl rfl)
    · exact h
  · exact h

theorem Traffic.processCompletion (h : Traffic r s) : Traffic r s.processCompletion := by
  unfold State.processCompletion
  split
  · exact h
  · exact h.takeCompletion.refillCompletion

theorem Traffic.fetchCommand (h : Traffic r s) : Traffic r s.fetchCommand := by
  unfold State.fetchCommand
  split
  · split
    · exact (h.setCommand _).issue _
    · exact h
  · exact h

/-! ### The end of a quiesce, the settling of an event and the pin reset -/

theorem Traffic.releaseWaiting (m : ResetMode) (h : Traffic r s) : Traffic r (s.releaseWaiting m) := by
  unfold State.releaseWaiting
  split
  · have hp := (h.setSlot .empty).passing
    split
    · exact (hp _ _).still rfl rfl rfl
    · exact hp _ _
  · exact h

theorem Traffic.readyReset (h : Traffic r s) : Traffic r s.readyReset := by
  unfold State.readyReset
  split
  · exact h.setCommand _
  · exact h

theorem Traffic.endQuiesce (h : Traffic r s) : Traffic r s.endQuiesce :=
  have hs : Traffic r (s.clearBlocks s.quiesceMode) := h.still rfl rfl rfl
  (hs.releaseWaiting _).readyReset.proceed

theorem Traffic.letPass (h : Traffic r s) : Traffic r s.letPass :=
  have hs : Traffic r { s with completion := { s.completion with queue := [] } } := h.still rfl rfl rfl
  (hs.releaseWaiting .unanchor).proceed

theorem Traffic.reportWrite (h : Traffic r s) : Traffic r s.reportWrite := by
  unfold State.reportWrite
  dsimp only
  split
  · exact h.writeReport.letPass
  · exact h.writeReport

theorem Traffic.finishWork (h : Traffic r s) : Traffic r s.finishWork := h.finish _

theorem Traffic.settle (h : Traffic r s) : Traffic r s.settle := by
  unfold State.settle
  dsimp only
  split
  · exact h.finishWork.endQuiesce
  · exact h.finishWork

theorem Traffic.idle (h : Traffic r s) : Traffic r s.idle := by
  have hs := h.settle
  unfold State.idle
  dsimp only
  split
  · exact hs
  · split
    · exact hs.still rfl rfl rfl
    · exact hs.elapse 1

/-- R188: what the slot holds and the writes behind it are stored. -/
theorem Traffic.flushHeld (h : Traffic r s) : Traffic r s.flushHeld := by
  unfold State.flushHeld
  refine Traffic.foldl (fun _ x h => ?_) _ ?_
  · cases x with
    | write a d => exact h.store a d
    | read a n => exact h
  · split
    · exact h
    all_goals exact h.store _ _

theorem Traffic.pinReset (h : Traffic r s) : Traffic r s.pinReset := (h.flushHeld.fill []).still rfl rfl rfl

/-! ### The rows -/

/-- The next state, if there is one, comes from `r` by `Traffic`. -/
def OutcomeTraffic (r : State) (o : Host.Outcome State Fault Refusal) : Prop := ∀ t, o = .next t → Traffic r t

theorem OutcomeTraffic.next (h : Traffic r s) : OutcomeTraffic r (.next s) := by
  rintro _ ⟨⟩
  exact h

theorem OutcomeTraffic.fault (e : Fault) : OutcomeTraffic r (.fault e) := fun _ h => nomatch h

/-- A software command's row has the command's effect, or none. -/
theorem Traffic.onCommand {effect : State → State} (c : Instr)
    (he : ∀ s : State, Traffic r s → Traffic r (effect s)) (h : Traffic r s) :
    OutcomeTraffic r (.next (s.settle.onCommand c effect)) := by
  refine .next ?_
  unfold State.onCommand
  split
  · exact he _ (h.settle.dropHead.takeRecord _)
  · exact h.settle

theorem Traffic.systemSideWrite (a : BitVec 32) (d : List Byte) (h : Traffic r s) :
    OutcomeTraffic r (systemSideWrite a d s) := by
  unfold Sys2Proof.Machine.systemSideWrite
  split
  · exact .next (h.settle.access _)
  · exact .fault _

/-- A row that takes the head of the injection queue in some cases, and otherwise changes nothing. -/
theorem Traffic.takeHead_or (h : Traffic r s) (ht : t = s ∨ t = s.takeHead ∨ t = s.takeHead.proceed) :
    OutcomeTraffic r (.next t) := by
  obtain rfl | rfl | rfl := ht
  exacts [.next h, .next h.takeHead, .next h.takeHead.proceed]

theorem Traffic.exec (i : Instr) (h : Traffic r s) : OutcomeTraffic r (exec i s) := by
  have hs := h.settle
  cases i
  case pinReset => exact .next h.pinReset
  case resetNRelease sel =>
    refine .next ?_
    split
    · exact h.still rfl rfl rfl
    · exact h
  -- The system-side accesses.
  case anchorWrite a d => exact h.systemSideWrite a d
  case anchorCommit a d => exact h.systemSideWrite a d
  case systemWrite a d => exact h.systemSideWrite a d
  case droppedWrite a d => exact h.systemSideWrite a d
  case receiveCompletionWrite a d => exact h.systemSideWrite a d
  case transmitCompletionWrite a d => exact h.systemSideWrite a d
  case commandPostWord a d => exact h.systemSideWrite a d
  case localPostWord a d => exact h.systemSideWrite a d
  case reportConsumedWord a d => exact h.systemSideWrite a d
  case descriptorFetch a n =>
    unfold Machine.exec execDescriptorFetch
    dsimp only
    split
    · exact .next (hs.access _)
    · exact .fault _
  -- The port.
  case heldWriteTaken => exact .next hs.takeHeld
  case rewriteTaken => exact hs.takeHead_or (by split <;> simp)
  case descriptorWriteTaken => exact hs.takeHead_or (by split <;> simp)
  case skipWriteTaken => exact hs.takeHead_or (by split <;> simp)
  case injectedWriteTaken => exact hs.takeHead_or (by split <;> simp)
  -- Reception and the Local Intake.
  case headerReadDone => exact .next (hs.answerRun _)
  case beaconBodyReadDone => exact .next (hs.answerRun _)
  case claim => exact .next hs.claim
  case holdBudgetExpiry => exact .next hs.expireBudget
  case localEntryFetch => exact .next hs.fetchEntry
  case localEntryReadDone => exact .next (hs.answerRun _)
  case localHeaderReadDone => exact .next (hs.answerRun _)
  case localAdmission => exact .next hs.localAdmission
  case localIntakeRetry => exact .next hs.intakeRetry
  case taglessHandover => exact .next hs.handOver
  -- The software commands.
  case commandFetch => exact .next hs.fetchCommand
  case nop => exact h.onCommand _ fun _ h => h.setCommand _
  case unknownCommand => exact h.onCommand _ fun _ h => h.setCommand _
  case linkOpen => exact h.onCommand _ fun _ h => h.commandLinkOpen _ _ _ _ _ _
  case linkTune => exact h.onCommand _ fun _ h => h.commandLinkTune _ _ _ _
  case linkDrain => exact h.onCommand _ fun _ h => h.commandLinkDrain _ _
  case linkCut => exact h.onCommand _ fun _ h => h.commandLinkCut _ _
  case linkClear => exact h.onCommand _ fun _ h => h.commandLinkClear _ _
  case linkQuery => exact h.onCommand _ fun _ h => h.commandLinkQuery _ _
  case linkClimb => exact h.onCommand _ fun _ h => h.commandLinkClimb _ _ _
  case routePin => exact h.onCommand _ fun _ h => h.commandRoutePin _ _ _ _
  case routeUnpin => exact h.onCommand _ fun _ h => h.commandRouteUnpin _ _
  case routeQuery => exact h.onCommand _ fun _ h => h.commandRouteQuery _ _ _
  case planWrite => exact h.onCommand _ fun _ h => h.commandPlanWrite _ _ _ _ _
  case planSwitch => exact h.onCommand _ fun _ h => h.commandPlanSwitch _ _
  case planCancel => exact h.onCommand _ fun _ h => h.commandPlanCancel _
  case timingSet => exact h.onCommand _ fun _ h => h.commandTimingSet _ _ _
  case engineReset => exact h.onCommand _ fun _ h => h.commandEngineReset _ _
  -- The rows that follow the timebase, and the completions and reports.
  case completionProcess => exact .next hs.processCompletion
  case reportWrite => exact .next hs.reportWrite
  case slotStart => exact .next hs.startSlot
  case superframeBoundary order =>
    unfold Machine.exec execSuperframeBoundary
    refine .next ?_
    split
    · exact hs
    · exact hs.boundary order
  case quiesceEnd =>
    unfold Machine.exec execQuiesceEnd
    refine .next ?_
    split
    · exact h.finishWork.endQuiesce
    · exact h.finishWork
  -- The consequences.
  all_goals exact .next (h.resolve _)

/-- What a step can do to packet memory and to the injection queue. -/
theorem Traffic.step (s : State) : OutcomeTraffic s (step s) := by
  unfold Machine.step
  split
  · exact .next Traffic.refl.idle
  · exact Traffic.exec (r := s) _ (Traffic.refl.still rfl rfl rfl)

end Steps

/-! ### The obligation -/

/-- R115, log entry 33: the reads a decision abandons stay in the queue, and those among the tails are dropped. -/
theorem MemoryPath.queueOk_abandon {p : MemoryPath} (h : p.queueOk = true) : p.abandon.queueOk = true := by
  obtain ⟨hlen, htails⟩ := MemoryPath.queueOk_iff.mp h
  refine MemoryPath.queueOk_iff.mpr ⟨by simpa using hlen, ?_⟩
  rcases htails with hnone | hfull
  · exact .inl (by simp [hnone])
  · exact .inr (by simpa using hfull)

theorem Traffic.queueOk {r s : State} (h : Traffic r s) (hr : r.path.queueOk = true) : s.path.queueOk = true := by
  induction h with
  | refl => exact hr
  | still _ _ hqueue htails ih => rwa [MemoryPath.queueOk, hqueue, htails]
  | store _ _ _ ih => exact ih
  | fill xs _ _ => exact MemoryPath.fill_queueOk _ xs
  | abandon _ ih => exact MemoryPath.queueOk_abandon ih

/-- Settles O10: of all that a step can do to the injection queue (`Traffic.step`), a refill gives it the first 16 of what
is to be injected, and an abandonment takes from the tails alone. -/
theorem stepKeepsInjectionQueue : Obligations.StepKeepsInjectionQueue := by
  intro s t hs ht
  have hq := (Traffic.step s t ht).queueOk hs
  exact ⟨hq, MemoryPath.queueOk_iff.mp hq⟩

end Sys2Proof.Machine
end

section
/-!
PROOF. Runs of writes (R163): each access is as long as its address and its 64-byte block allow, so a run cuts the bytes
into consecutive pieces of the form every access has.
-/

namespace Sys2Proof.Machine

section Runs
variable {a rest fuel : Nat} {d : List Byte}

/-! ### The length of one access -/

theorem writeSize_cases (a rest : Nat) :
    writeSize a rest = 1 ∨
      writeSize a rest ∈ [64, 32, 16, 8, 4, 2] ∧ writeSize a rest ≤ rest ∧ a % writeSize a rest = 0 := by
  unfold writeSize
  cases hfind : [64, 32, 16, 8, 4, 2].find? fun p => decide (p ≤ rest) && a % p == 0 with
  | none => exact .inl rfl
  | some p =>
    have hp : p ≤ rest ∧ a % p = 0 := by simpa using List.find?_some hfind
    exact .inr ⟨List.mem_of_find?_eq_some hfind, hp⟩

/-- The length of the first access of the run that writes `d` at `a`. -/
def firstSize (a : Nat) (d : List Byte) : Nat := writeSize a (min d.length (blockRest a))

theorem firstSize_mem (a : Nat) (d : List Byte) : firstSize a d ∈ accessSizes := by
  obtain h | ⟨h, -⟩ := writeSize_cases a (min d.length (blockRest a))
  · simp [firstSize, h, accessSizes]
  · have hsizes : [64, 32, 16, 8, 4, 2] ⊆ accessSizes := by decide
    exact hsizes h

theorem firstSize_pos (a : Nat) (d : List Byte) : 1 ≤ firstSize a d := by
  have h := firstSize_mem a d
  simp only [accessSizes, List.mem_cons, List.not_mem_nil, or_false] at h
  omega

theorem firstSize_aligned (a : Nat) (d : List Byte) : a % firstSize a d = 0 := by
  obtain h | ⟨-, -, h⟩ := writeSize_cases a (min d.length (blockRest a))
  · rw [firstSize, h, Nat.mod_one]
  · exact h

/-- The first access takes no more bytes than there are, and none past its block. -/
theorem firstSize_le (a : Nat) (hd : d ≠ []) : firstSize a d ≤ d.length ∧ firstSize a d ≤ 64 - a % 64 := by
  have hlen : 0 < d.length := List.length_pos_iff.mpr hd
  have hle : firstSize a d ≤ min d.length (64 - a % 64) := by
    obtain h | ⟨-, h, -⟩ := writeSize_cases a (min d.length (blockRest a))
    · rw [firstSize, h]
      omega
    · exact h
  exact Nat.le_min.mp hle

theorem firstSize_take (a : Nat) (hd : d ≠ []) : (d.take (firstSize a d)).length = firstSize a d := by
  rw [List.length_take, Nat.min_eq_left (firstSize_le a hd).1]

/-! ### The run -/

theorem writeRunAux_nil (fuel a : Nat) : writeRunAux fuel a [] = [] := by
  cases fuel <;> rfl

theorem writeRunAux_cons (fuel a : Nat) (hd : d ≠ []) :
    writeRunAux (fuel + 1) a d =
      (a, d.take (firstSize a d)) :: writeRunAux fuel (a + firstSize a d) (d.drop (firstSize a d)) := by
  rw [writeRunAux, if_neg (by simpa using hd)]
  rfl

theorem writeRunAux_join (h : d.length ≤ fuel) : (writeRunAux fuel a d).flatMap Prod.snd = d := by
  induction fuel generalizing a d with
  | zero => exact (List.length_eq_zero_iff.mp (Nat.le_zero.mp h)).symm
  | succ fuel ih =>
    by_cases hd : d = []
    · rw [hd, writeRunAux_nil]
      rfl
    · have hpos := firstSize_pos a d
      rw [writeRunAux_cons fuel a hd, List.flatMap_cons, ih (by rw [List.length_drop]; omega)]
      exact List.take_append_drop _ _

/-- The form of one access: naturally aligned, inside the address space and within one 64-byte block. -/
theorem firstSize_form (h : a + d.length ≤ 4294967296) (hd : d ≠ []) :
    accessOk a (firstSize a d) = true ∧ a / 64 = (a + firstSize a d - 1) / 64 := by
  obtain ⟨hlen, hblock⟩ := firstSize_le a hd
  have hpos := firstSize_pos a d
  have hspace : a + firstSize a d ≤ 4294967296 := by omega
  exact ⟨by simp [accessOk, firstSize_mem a d, firstSize_aligned a d, hspace], by omega⟩

theorem writeRunAux_form (h : a + d.length ≤ 4294967296) :
    ∀ w ∈ writeRunAux fuel a d, accessOk w.1 w.2.length = true ∧ w.1 / 64 = (w.1 + w.2.length - 1) / 64 := by
  induction fuel generalizing a d with
  | zero => exact fun w hw => nomatch hw
  | succ fuel ih =>
    by_cases hd : d = []
    · rw [hd, writeRunAux_nil]
      exact fun w hw => nomatch hw
    · have hlen := (firstSize_le a hd).1
      rw [writeRunAux_cons fuel a hd, List.forall_mem_cons, firstSize_take a hd]
      exact ⟨firstSize_form h hd, ih (by rw [List.length_drop]; omega)⟩

/-- Each access starts where those before it end. -/
theorem writeRunAux_start (i : Nat) (w : Nat × List Byte) (hw : (writeRunAux fuel a d)[i]? = some w) :
    w.1 = a + (((writeRunAux fuel a d).take i).flatMap Prod.snd).length := by
  induction fuel generalizing a d i with
  | zero => cases hw
  | succ fuel ih =>
    by_cases hd : d = []
    · rw [hd, writeRunAux_nil] at hw
      cases hw
    · rw [writeRunAux_cons fuel a hd] at hw ⊢
      cases i with
      | zero =>
        cases hw
        rfl
      | succ i =>
        rw [ih i (by simpa using hw), List.take_succ_cons, List.flatMap_cons, List.length_append,
          firstSize_take a hd, Nat.add_assoc]

end Runs

/-- Settles O13: by the fuel of the run, an access at a time. -/
theorem writeRunsCoverTheirBytes : Obligations.WriteRunsCoverTheirBytes :=
  fun _ _ h => ⟨writeRunAux_join le_rfl, writeRunAux_form h, writeRunAux_start⟩

end Sys2Proof.Machine
end

section
/-!
PROOF. System-side writes on a free path (R163 to R169, R174): the action of each window, and the row of a write that has
its turn at once.
-/

namespace Sys2Proof.Machine

section Windows
variable {s : State} {w : Windows} {a n b m : Nat} {d : List Byte} {running : Bool}

/-! ### The action of a window (R166, Table 9-1) -/

theorem overlaps_of_inside (hn : 0 < n) (h : inside a n b m = true) : overlaps a n b m = true := by
  simp only [inside, overlaps, Bool.and_eq_true, decide_eq_true_eq] at h ⊢
  omega

/-- R166: while RUNNING or QUIESCING the window table sorts a write. -/
theorem State.writeAction_of_windows (he : s.path.engine ≠ .unanchored) (hw : s.path.windows = some w) :
    s.writeAction a d = w.action s.isRunning a d := by
  unfold State.writeAction State.isRunning
  split
  · rename_i h
    exact absurd h he
  · rename_i h
    rw [hw, h]
    rfl
  · rename_i h
    rw [hw, h]
    rfl

/-- R166, R174: while UNANCHORED only the anchor window has an action of its own. -/
theorem State.writeAction_of_unanchored {sel : BitVec 2} (he : s.path.engine = .unanchored)
    (hsel : s.pins.anchorSel = some sel) :
    s.writeAction a d =
      if inside a d.length (anchorBase sel) 256 then .anchor (a - anchorBase sel) else .passes := by
  simp only [State.writeAction, he, hsel]

theorem Windows.action_of_owned (h : w.owns a d.length = true) : w.action running a d = .dropped := by
  simp [Windows.action, h]

/-- A write that shares no byte with any window is of none of them. -/
theorem Windows.action_of_untouched (hn : 0 < d.length)
    (h : ∀ r ∈ w.ranges, overlaps a d.length r.1 r.2 = false) : w.action running a d = .passes := by
  have hin {b m : Nat} (hr : (b, m) ∈ w.ranges) : inside a d.length b m = false :=
    Bool.eq_false_iff.mpr fun hi => nomatch (h _ hr).symm.trans (overlaps_of_inside hn hi)
  have hword {b : Nat} (hr : (b, 4) ∈ w.ranges) : ¬ (d.length = 4 ∧ a = b) := by
    rintro ⟨h4, rfl⟩
    have := hin hr
    simp [inside, h4] at this
  have hown : w.owns a d.length = false := by
    simp [Windows.owns, h (w.txBase, 16 * w.txSize) (by simp [Windows.ranges]),
      h (w.repBase, 32 * w.repSize) (by simp [Windows.ranges]), h (w.frameBase, 4096) (by simp [Windows.ranges])]
  simp [Windows.action, hown, hin (b := w.rxBase) (m := 16 * w.rxSize) (by simp [Windows.ranges]),
    hin (b := w.txcBase) (m := 16 * w.txSize) (by simp [Windows.ranges]),
    hword (b := w.cmdPost) (by simp [Windows.ranges]), hword (b := w.localPost) (by simp [Windows.ranges]),
    hword (b := w.repConsumed) (by simp [Windows.ranges])]

/-- R167: a record at the receive completion ring is held while RUNNING when its status is RX_OK, and passes else. -/
theorem Windows.action_of_received (hn : d.length = 16) (hown : w.owns a 16 = false)
    (hin : inside a 16 w.rxBase (16 * w.rxSize) = true) :
    w.action running a d = if running = true ∧ rxStatus d = statusRxOk then .held else .passes := by
  simp [Windows.action, hn, hown, hin]

/-- R168: a record at the transmit completion ring is copied. -/
theorem Windows.action_of_completed (hn : d.length = 16) (hown : w.owns a 16 = false)
    (hrx : inside a 16 w.rxBase (16 * w.rxSize) = false) (hin : inside a 16 w.txcBase (16 * w.txSize) = true) :
    w.action running a d = .copied ((a - w.txcBase) / 16) := by
  simp [Windows.action, hn, hown, hrx, hin]

/-- R169: a whole word at a post word's address is captured. -/
theorem Windows.action_of_word (hn : d.length = 4) (hown : w.owns a 4 = false) :
    w.action running a d =
      if a = w.cmdPost then .captured .command
      else if a = w.localPost then .captured .localSend
      else if a = w.repConsumed then .captured .consumed
      else .passes := by
  simp [Windows.action, hn, hown]

end Windows

/-! ### The turn of a write -/

section Turn
variable {s t : State} {a : Nat} {d : List Byte}

theorem accessOk_pos {a n : Nat} (h : accessOk a n = true) : 0 < n := by
  cases n with
  | zero => simp [accessOk, accessSizes] at h
  | succ n => exact Nat.succ_pos n

theorem State.takeWrite_of_passes (h : s.writeAction a d = .passes) : s.takeWrite a d = s.yieldPort.store a d := by
  simp only [State.takeWrite, h]

theorem State.takeWrite_of_dropped (h : s.writeAction a d = .dropped) : s.takeWrite a d = s := by
  simp only [State.takeWrite, h]

theorem State.takeWrite_of_held (h : s.writeAction a d = .held) : s.takeWrite a d = s.holdRecord a d := by
  simp only [State.takeWrite, h]

theorem State.takeWrite_of_copied {q : Nat} (h : s.writeAction a d = .copied q) :
    s.takeWrite a d = s.copyWrite a d q := by
  simp only [State.takeWrite, h]

theorem State.takeWrite_of_captured {x : PostWord} (h : s.writeAction a d = .captured x)
    (hfull : s.queueFull = false) : s.takeWrite a d = (s.store a d).capture x (word d 0).toNat := by
  simp only [State.takeWrite, h, State.yieldPort_of_room hfull]

theorem State.takeWrite_of_anchor {o : Nat} (h : s.writeAction a d = .anchor o) (hfull : s.queueFull = false) :
    s.takeWrite a d = (s.store a d).captureAnchor o d := by
  simp only [State.takeWrite, h, State.yieldPort_of_room hfull]

/-- R168: with room in the completion queue the record is copied and passes; without, it waits in the slot. -/
theorem State.copyWrite_of_room {q : Nat} (h : s.completion.queue.length < 32) (hfull : s.queueFull = false) :
    s.copyWrite a d q = (s.store a d).copyRecord q d := by
  have hroom : s.completion.queue.length < Config.completionEntries := h
  rw [State.copyWrite, if_pos hroom, State.yieldPort_of_room hfull]

theorem State.copyWrite_of_full {q : Nat} (h : 32 ≤ s.completion.queue.length) :
    s.copyWrite a d q = s.setSlot (.waiting a d q) :=
  if_neg (Nat.not_lt.mpr h)

/-- R167: the record is held with the hold budget, and its frame's length begins the decision. -/
theorem State.holdRecord_of_ok (h : lengthOk (rxLength d) = true) :
    s.holdRecord a d = State.issue { s with
      path := { s.path with slot := .deciding a d s.path.holdBudget }
      classifier := .deciding (rxBuffer d) (rxLength d) (.header []) }
      (readAccesses .classifierHeader (rxBuffer d) 20) := by
  rw [State.holdRecord, State.beginDecision, if_pos h]
  rfl

theorem State.holdRecord_of_malformed (h : lengthOk (rxLength d) = false) :
    s.holdRecord a d = { s with
      path := { s.path with slot := .deciding a d s.path.holdBudget }
      classifier := .deciding (rxBuffer d) (rxLength d) (.malformed [] []) } := by
  rw [State.holdRecord, State.beginDecision, if_neg (by simp [h])]
  rfl

end Turn

/-! ### The rows of the system side -/

section Rows
variable {s t : State} {a : BitVec 32} {d : List Byte}

/-- Log entry 3: what no port carries is a fault. -/
theorem systemSideWrite_of_malformed (h : accessOk a.toNat d.length = false) :
    systemSideWrite a d s = .fault .malformedAccess :=
  if_neg (by simp [h])

theorem execDescriptorFetch_of_malformed {n : Nat} (h : accessOk a.toNat n = false) :
    execDescriptorFetch a n s = .fault .malformedAccess :=
  if_neg (by simp [h])

variable (hq : s.quiet = true) (hf : s.pathFree = true) (hok : accessOk a.toNat d.length = true)
include hq hf hok

/-- On a quiet state with a free path a write has its turn, and what came to wait meanwhile proceeds. -/
theorem systemSideWrite_of_free : systemSideWrite a d s = .next (s.takeWrite a.toNat d).proceed := by
  rw [systemSideWrite, if_pos hok, State.settle_of_quiet hq, State.access_of_free _ hf]
  rfl

theorem systemSideWrite_eq (ht : s.takeWrite a.toNat d = t) (hw : t.path.waiting = []) :
    systemSideWrite a d s = .next t := by
  rw [systemSideWrite_of_free hq hf hok, ht, State.proceed_nil hw]

/-- R166: with an entry of the injection queue free, a write that passes is stored and nothing else happens. -/
theorem systemSideWrite_of_passes (hact : s.writeAction a.toNat d = .passes) (hfull : s.queueFull = false) :
    systemSideWrite a d s = .next (s.store a.toNat d) := by
  refine systemSideWrite_eq hq hf hok ?_ (State.pathFree_iff.mp hf).2
  rw [State.takeWrite_of_passes hact, State.yieldPort_of_room hfull]

end Rows

/-! ### The obligations -/

/-- Settles O12: every row that is a system-side access tests the form first. -/
theorem malformedAccessesFault : Obligations.MalformedAccessesFault := by
  refine fun s a d n => ⟨fun h => ?write, fun h => ?read⟩
  case write =>
    have hfault : systemSideWrite a d s = .fault .malformedAccess := systemSideWrite_of_malformed h
    exact ⟨hfault, hfault, hfault, hfault, hfault, hfault, hfault, hfault, hfault⟩
  case read => exact execDescriptorFetch_of_malformed h

/-- Settles O14: the window's action gives the write's effect, with the heads of a full queue taken before it
(`State.yieldPort_iterate`). -/
theorem systemWritesPassOrAreDropped : Obligations.SystemWritesPassOrAreDropped := by
  refine fun s a d hq hf hok => ⟨fun hact hfull => ?passes, fun k hact hk hfull hfree => ?full,
    fun w he hw h => ?untouched, fun sel he hsel hout => ?outside, fun w he hw h => ?dropped⟩
  case passes => exact systemSideWrite_of_passes hq hf hok hact hfull
  case full =>
    refine (systemSideWrite_of_free hq hf hok).trans ?_
    rw [State.takeWrite_of_passes hact, State.yieldPort_iterate hk hfull hfree]
  case untouched =>
    exact (State.writeAction_of_windows he hw).trans (Windows.action_of_untouched (accessOk_pos hok) h)
  case outside => exact (State.writeAction_of_unanchored he hsel).trans (if_neg (by simp [hout]))
  case dropped =>
    have hown : w.owns a.toNat d.length = true := by simpa [Windows.owns, or_assoc] using h
    exact systemSideWrite_eq hq hf hok
      (State.takeWrite_of_dropped ((State.writeAction_of_windows he hw).trans (Windows.action_of_owned hown)))
      (State.pathFree_iff.mp hf).2

/-- Settles O17: in the receive completion ring the status and the engine state tell a record that is held from one that
passes; the length of a held one begins the decision. -/
theorem receiveCompletionsAreHeld : Obligations.ReceiveCompletionsAreHeld := by
  intro s w a d hq hf hok hn hw hown hin
  have hwait := (State.pathFree_iff.mp hf).2
  have haction (he : s.path.engine ≠ .unanchored) : s.writeAction a.toNat d =
      if s.isRunning = true ∧ rxStatus d = 1 then .held else .passes :=
    (State.writeAction_of_windows he hw).trans (Windows.action_of_received hn hown hin)
  have hheld (he : s.path.engine = .running) (hst : rxStatus d = 1) : s.takeWrite a.toNat d = s.holdRecord a.toNat d :=
    State.takeWrite_of_held ((haction (by simp [he])).trans (if_pos ⟨State.isRunning_of_running he, hst⟩))
  refine ⟨fun he hst hlen => ?ok, fun he hst hlen => ?malformed, fun he hother hfull => ?passes⟩
  case ok => exact systemSideWrite_eq hq hf hok ((hheld he hst).trans (State.holdRecord_of_ok hlen)) hwait
  case malformed => exact systemSideWrite_eq hq hf hok ((hheld he hst).trans (State.holdRecord_of_malformed hlen)) hwait
  case passes =>
    refine systemSideWrite_of_passes hq hf hok ((haction he).trans (if_neg ?_)) hfull
    rintro ⟨hrun, hst⟩
    exact hother.elim (· hst) (· (beq_iff_eq.mp hrun))

/-- Settles O18: the completion queue's room tells a record that is copied from one that waits. -/
theorem transmitCompletionsAreCopied : Obligations.TransmitCompletionsAreCopied := by
  intro s w a d hq hf hok hn he hw hown hrx hin
  have hwait := (State.pathFree_iff.mp hf).2
  have hturn : s.takeWrite a.toNat d = s.copyWrite a.toNat d ((a.toNat - w.txcBase) / 16) :=
    State.takeWrite_of_copied ((State.writeAction_of_windows he hw).trans
      (Windows.action_of_completed hn hown hrx hin))
  refine ⟨fun hroom hfull => ?copied, fun hmany => ?waits⟩
  case copied => exact systemSideWrite_eq hq hf hok (hturn.trans (State.copyWrite_of_room hroom hfull)) hwait
  case waits => exact systemSideWrite_eq hq hf hok (hturn.trans (State.copyWrite_of_full hmany)) hwait

/-! ### The post words (R169) -/

section Words
variable {s : State} {w : Windows} (v : Nat) (hw : s.path.windows = some w)
include hw

theorem State.capture_command :
    s.capture .command v =
      { s with command := { s.command with post := if v < w.cmdSize then v else s.command.post } } := by
  simp only [State.capture, hw]
  split <;> rfl

theorem State.capture_localSend :
    s.capture .localSend v =
      { s with intake := { s.intake with post := if v < w.localSize then v else s.intake.post } } := by
  simp only [State.capture, hw]
  split <;> rfl

theorem State.consumedOk_iff :
    s.consumedOk v = true ↔ v < w.repSize ∧ (v + w.repSize - s.reports.consumed) % w.repSize ≤
      (s.reports.producer + w.repSize - s.reports.consumed) % w.repSize := by
  simp [State.consumedOk, State.unconsumed, State.reportSize, hw]

theorem State.capture_consumed :
    s.capture .consumed v = { s with reports := { s.reports with consumed :=
      if v < w.repSize ∧ (v + w.repSize - s.reports.consumed) % w.repSize ≤
        (s.reports.producer + w.repSize - s.reports.consumed) % w.repSize
      then v else s.reports.consumed } } := by
  simp only [State.capture, hw, State.consumedOk_iff v hw]
  split <;> rfl

end Words

/-- R186: outside UNANCHORED, INT shows the enable while reports are unconsumed. -/
theorem State.int_iff {s : State} (he : s.path.engine ≠ .unanchored) :
    s.int = true ↔ s.reports.intEnable = true ∧ s.reports.producer ≠ s.reports.consumed := by
  simp [State.int, State.isUnanchored, he]

/-- Settles O19: each post word's address selects its block, which takes the value within its bounds. -/
theorem postWordsAreCaptured : Obligations.PostWordsAreCaptured := by
  intro s w a d v hq hf hfull hok hn he hw hown hv
  subst hv
  have hwait := (State.pathFree_iff.mp hf).2
  have haction := (State.writeAction_of_windows (a := a.toNat) (d := d) he hw).trans (Windows.action_of_word hn hown)
  have hturn {x : PostWord} (h : s.writeAction a.toNat d = .captured x) :=
    State.takeWrite_of_captured h hfull
  refine ⟨fun ha => ?command, fun ha hc => ?localSend, fun ha hc hl => ⟨_, ?consumed, rfl, ?int⟩⟩
  case command =>
    rw [if_pos ha] at haction
    exact systemSideWrite_eq hq hf hok ((hturn haction).trans (State.capture_command (s := s.store ..) _ hw)) hwait
  case localSend =>
    rw [if_neg hc, if_pos ha] at haction
    exact systemSideWrite_eq hq hf hok ((hturn haction).trans (State.capture_localSend (s := s.store ..) _ hw)) hwait
  case consumed =>
    rw [if_neg hc, if_neg hl, if_pos ha] at haction
    exact systemSideWrite_eq hq hf hok ((hturn haction).trans (State.capture_consumed (s := s.store ..) _ hw)) hwait
  case int => exact State.int_iff he

end Sys2Proof.Machine
end

section
/-!
PROOF. The anchor window (R174, R175): what is captured into the staging, and the commit values of every block.
-/

namespace Sys2Proof.Machine

/-! ### The capture into the staging (R174) -/

section Capture
variable {s : State} {sel : BitVec 2} {o : Nat} {d : List Byte} {c : CommitStatus}

/-- R174: the state once bytes written into the anchor window have been captured, with the staging `st`. -/
def State.withStaging (s : State) (st : List Byte) : State := { s with path := { s.path with staging := st } }

theorem State.captureAnchor_of_other (hsel : s.pins.anchorSel = some sel) (h : overlaps o d.length 0xFC 4 = false) :
    s.captureAnchor o d = s.withStaging (overlay s.path.staging o d) := by
  simp only [State.captureAnchor, hsel, coversCommit, h]
  rfl

theorem State.captureAnchor_of_commit (hsel : s.pins.anchorSel = some sel)
    (h : overlaps o d.length 0xFC 4 = true) :
    s.captureAnchor o d = (s.withStaging (overlay s.path.staging o d)).validateAnchor sel := by
  simp only [State.captureAnchor, hsel, coversCommit, h]
  rfl

/-- R175: a failing validation only writes its status. -/
theorem State.validateAnchor_of_failed (h : validate sel s.path.staging = c) (hc : c ≠ .ok) :
    s.validateAnchor sel = s.issue [statusWrite sel c] := by
  simp only [State.validateAnchor, h, if_neg hc]

theorem State.validateAnchor_of_ok (h : validate sel s.path.staging = .ok) :
    s.validateAnchor sel = s.commit.issue [statusWrite sel .ok] := by
  simp only [State.validateAnchor, h, if_true]

/-- R174: while UNANCHORED a write into the anchor window is stored and captured. -/
theorem State.takeWrite_anchor {a : Nat} (hfull : s.queueFull = false) (he : s.path.engine = .unanchored)
    (hsel : s.pins.anchorSel = some sel) (hin : inside a d.length (anchorBase sel) 256 = true) :
    s.takeWrite a d = (s.store a d).captureAnchor (a - anchorBase sel) d :=
  State.takeWrite_of_anchor ((State.writeAction_of_unanchored he hsel).trans (if_pos hin)) hfull

end Capture

/-- Settles O15: off the commit field the capture ends with the staging. -/
theorem anchorWritesAreStaged : Obligations.AnchorWritesAreStaged := by
  intro s sel a d hq hf hfull hok he hsel hin hoff
  refine systemSideWrite_eq hq hf hok ?_ (State.pathFree_iff.mp hf).2
  rw [State.takeWrite_anchor hfull he hsel hin, State.captureAnchor_of_other (s := s.store ..) hsel hoff]
  rfl

/-! ### The commit (R175) -/

theorem clamp_zero (hi n : Nat) : clamp 0 hi n = min hi n := by
  rw [clamp, Nat.zero_max]

/-- A byte never exceeds the upper end 255 of a parameter's range. -/
theorem clamp_byte (lo : Nat) (b : Byte) : clamp lo 255 b.toNat = max lo b.toNat := by
  rw [clamp, Nat.min_eq_right (Nat.le_of_lt_succ b.isLt)]

/-- R192: the role byte 1 is ROOT. -/
theorem stagedRole_eq (st : List Byte) : stagedRole st = if byteAt st 0x4E = 1 then .root else .follower := by
  have hbyte : stagedByte st 0x4E = 1 ↔ byteAt st 0x4E = 1 := by
    rw [stagedByte, ← BitVec.toNat_inj]
    rfl
  simp only [stagedRole, hbyte]

/-- R153: the timing state follows the role. -/
theorem stagedRole_start (st : List Byte) :
    (stagedRole st).start = if byteAt st 0x4E = 1 then .root else .seeking := by
  rw [stagedRole_eq]
  split <;> rfl

/-- R170: no position is marked after a commit. -/
theorem State.mark_commit (s : State) (xs : List Injected) (p : Nat) : (s.commit.issue xs).mark p = .none := by
  unfold State.mark
  split
  · exact bankGet_replicate ..
  · rfl

theorem State.queuedCount_commit (s : State) (xs : List Injected) (n : LinkIx) :
    (s.commit.issue xs).queuedCount n = 0 := by
  have hq : (s.commit.issue xs).queuesOf n = ClassQueues.reset := bankGet_replicate ..
  rw [State.queuedCount, hq]
  rfl

theorem State.bufferFree_commit (s : State) (xs : List Injected) (b : BufIx) :
    (s.commit.issue xs).bufferFree b = true := by
  have hb : bankGet (s.commit.issue xs).sched.buffers b = none := bankGet_replicate ..
  rw [State.bufferFree, hb]
  rfl

/-- Settles O16: a failing validation leaves the capture and its status; a successful one is the commit, block by block. -/
theorem commitValidatesTheAnchor : Obligations.CommitValidatesTheAnchor := by
  intro s sel a d st hq hf hfull hok he hsel hin hcommit hst
  subst hst
  have ⟨hslot, hwait⟩ := State.pathFree_iff.mp hf
  have hturn := (State.takeWrite_anchor hfull he hsel hin).trans
    (State.captureAnchor_of_commit (s := s.store ..) hsel hcommit)
  have hexec {t : State} (ht : State.validateAnchor _ sel = t) (hw : t.path.waiting = []) :
      exec (.anchorCommit a d) s = .next t := systemSideWrite_eq hq hf hok (hturn.trans ht) hw
  refine ⟨fun c hc hne => hexec (State.validateAnchor_of_failed hc hne) hwait,
    fun hvalid => ⟨_, hexec (State.validateAnchor_of_ok hvalid) hwait, ?_⟩⟩
  refine ⟨rfl, rfl, (State.quiet_iff.mp hq).1, rfl, rfl,
    -- The Memory Path.
    rfl, rfl, rfl, hslot, hwait, rfl, State.mark_commit _ _, rfl, rfl, rfl,
    -- The Frame Pool.
    clamp_zero .., clamp_zero .., clamp_byte .., clamp_byte .., clamp_byte .., clamp_byte .., rfl,
    fun g => bankGet_replicate .., rfl, rfl, State.queuedCount_commit _ _,
    -- The Link Table and the Route Table.
    clamp_byte .., rfl, rfl, rfl, fun n => bankGet_replicate ..,
    (clamp_byte ..).trans (Nat.zero_max _), (clamp_byte ..).trans (Nat.zero_max _), rfl, rfl, rfl, rfl,
    fun p => bankGet_replicate ..,
    -- The Slot Scheduler.
    rfl, rfl, rfl, rfl, rfl, rfl, rfl, rfl, rfl, rfl, State.bufferFree_commit _ _, rfl,
    -- The Completion Unit and the Timing Unit.
    rfl, rfl, rfl, rfl, rfl, rfl, rfl, rfl, rfl, rfl, fun n => bankGet_replicate .., clamp_zero ..,
    stagedRole_eq _, stagedRole_start _,
    -- The Report Writer, the Command Unit, the Local Intake and the Receive Classifier.
    rfl, rfl, rfl, rfl, rfl, rfl, rfl, rfl, rfl, rfl⟩

end Sys2Proof.Machine
end

section
/-!
PROOF. System-side reads (R164, R170): the fetch of one descriptor, and what waits behind a held write.
-/

namespace Sys2Proof.Machine

/-! ### The positions a read covers (R166, R170) -/

section Positions
variable {s : State} {w : Windows} {p n : Nat}

/-- Descriptors lie 16 bytes apart, so 8 or 16 bytes from the start of one cover the first half of no other. -/
theorem inside_descriptor (b q : Nat) (hn : n = 8 ∨ n = 16) :
    inside (b + 16 * q) 8 (b + 16 * p) n = (q == p) := by
  rw [Bool.eq_iff_iff]
  simp only [inside, Bool.and_eq_true, decide_eq_true_eq, beq_iff_eq]
  omega

theorem filter_range_eq (h : p < n) : (List.range n).filter (· == p) = [p] := by
  rw [List.filter_beq, List.count_eq_one_of_mem List.nodup_range (List.mem_range.mpr h)]
  rfl

/-- The read of one descriptor covers that position alone. -/
theorem State.fetchedPositions_descriptor (he : s.path.engine ≠ .unanchored) (hw : s.path.windows = some w)
    (hp : p < w.txSize) (hn : n = 8 ∨ n = 16) : s.fetchedPositions (w.txBase + 16 * p) n = [p] := by
  have hring : inside (w.txBase + 16 * p) n w.txBase (16 * w.txSize) = true := by
    simp only [inside, Bool.and_eq_true, decide_eq_true_eq]
    omega
  have hfilter : s.fetchedPositions (w.txBase + 16 * p) n =
      (List.range w.txSize).filter fun q => inside (w.txBase + 16 * q) 8 (w.txBase + 16 * p) n := by
    simp [State.fetchedPositions, hw, hring]
  simp only [hfilter, inside_descriptor _ _ hn, filter_range_eq hp]

end Positions

/-! ### The fetch of a position (R170, R143) -/

section Fetch
variable {s : State} {p q : Nat} {r : InFlight} {g : Tag} {n m : LinkIx} {f : Frame}

theorem State.fetchPosition_of_written (h : s.mark p = .written) :
    s.fetchPosition p = (s.setMark p .fetched).reportFetch p := if_pos h

theorem State.fetchPosition_of_other (h : s.mark p ≠ .written) : s.fetchPosition p = s := if_neg h

/-- R142: the in-flight table once the record at a position is marked fetched. -/
def State.tableFetched (s : State) (p : Nat) : List InFlight :=
  s.sched.inFlight.map fun x => if x.pos = p then { x with fetched := true } else x

/-- R143: the state with that table. -/
def State.recordFetched (s : State) (p : Nat) : State :=
  { s with sched := { s.sched with inFlight := s.tableFetched p } }

/-- R143: a fetch that finds no record, or one already marked, is not reported. -/
theorem State.reportFetch_of_known (h : s.inFlightAt p = none ∨ ∃ r, s.inFlightAt p = some r ∧ r.fetched = true) :
    s.reportFetch p = s := by
  obtain h | ⟨r, h, hr⟩ := h
  · simp only [State.reportFetch, h]
  · simp only [State.reportFetch, h, hr, if_true]

theorem State.reportFetch_of_data (h : s.inFlightAt p = some r) (hr : r.fetched = false)
    (hc : r.carried = .data g m) :
    s.reportFetch p = (s.recordFetched p).markFetched g := by
  simp [State.reportFetch, h, hr, hc, State.recordFetched, State.tableFetched]

theorem State.reportFetch_of_own (h : s.inFlightAt p = some r) (hr : r.fetched = false)
    (hc : ∀ g m, r.carried ≠ .data g m) :
    s.reportFetch p = s.recordFetched p := by
  cases hcar : r.carried with
  | data g m => exact absurd hcar (hc g m)
  | _ => simp [State.reportFetch, h, hr, hcar, State.recordFetched, State.tableFetched]

/-- R25: the entry of an IN_RING frame turns FETCHED. -/
theorem State.markFetched_of_inRing (hf : s.frame g = some f) (hp : f.place = .inRing n q) :
    s.markFetched g = s.setFrame g (some { f with place := .fetched n q }) := by
  simp only [State.markFetched, hf, hp]

theorem State.markFetched_of_other (h : ∀ f k q, s.frame g = some f → f.place ≠ .inRing k q) :
    s.markFetched g = s := by
  unfold State.markFetched
  split
  · rename_i f hf
    split
    · rename_i k q hp
      exact absurd hp (h f k q hf)
    · rfl
  · rfl

/-- R143, R25: the report of a fetch touches the in-flight table and the frame entries. -/
theorem State.reportFetch_frame (s : State) (p : Nat) :
    ∃ table entries, s.reportFetch p = { s with
      sched := { s.sched with inFlight := table }
      pool := { s.pool with entries := entries } } := by
  unfold State.reportFetch
  split
  · exact ⟨_, _, rfl⟩
  · split
    · exact ⟨_, _, rfl⟩
    · dsimp only
      split
      · unfold State.markFetched
        split
        · split <;> exact ⟨_, _, rfl⟩
        · exact ⟨_, _, rfl⟩
      · exact ⟨_, _, rfl⟩

theorem State.reportFetch_path (s : State) (p : Nat) : (s.reportFetch p).path = s.path := by
  obtain ⟨table, entries, h⟩ := s.reportFetch_frame p
  rw [h]

/-- R170: a fetch touches the marks beside them. -/
theorem State.fetched_frame (s : State) (p : Nat) :
    ∃ marks table entries, (s.setMark p .fetched).reportFetch p = { s with
      path := { s.path with marks := marks }
      sched := { s.sched with inFlight := table }
      pool := { s.pool with entries := entries } } := by
  obtain ⟨marks, hm⟩ := s.setMark_state p .fetched
  obtain ⟨table, entries, h⟩ := (s.setMark p .fetched).reportFetch_frame p
  exact ⟨marks, table, entries, h.trans (by rw [hm])⟩

theorem State.mark_reportFetch (s : State) (p q : Nat) : (s.reportFetch p).mark q = s.mark q := by
  unfold State.mark
  rw [State.reportFetch_path]

theorem State.inFlightAt_setMark (s : State) (p q : Nat) (k : Mark) :
    (s.setMark p k).inFlightAt q = s.inFlightAt q := by
  rw [State.inFlightAt, State.setMark_sched]
  rfl

theorem State.tableFetched_setMark (s : State) (p q : Nat) (k : Mark) :
    (s.setMark p k).tableFetched q = s.tableFetched q := by
  rw [State.tableFetched, State.setMark_sched]
  rfl

theorem State.frame_setMark (s : State) (p : Nat) (k : Mark) (g : Tag) : (s.setMark p k).frame g = s.frame g := by
  rw [State.frame, State.setMark_pool]
  rfl

/-- R143: the record found at the position is marked fetched. -/
theorem State.reportFetch_inFlight (h : s.inFlightAt p = some r) (hr : r.fetched = false) :
    (s.reportFetch p).sched.inFlight = s.tableFetched p := by
  cases hc : r.carried with
  | data g m =>
    rw [State.reportFetch_of_data h hr hc, (Inner.markFetched _ _).sched]
    rfl
  | _ =>
    rw [State.reportFetch_of_own h hr (by simp [hc])]
    rfl

/-- R25: the entry of the data frame it carries follows. -/
theorem State.reportFetch_entries (h : s.inFlightAt p = some r) (hr : r.fetched = false)
    (hc : r.carried = .data g m) (hf : s.frame g = some f) (hp : f.place = .inRing n q) :
    (s.reportFetch p).pool.entries = bankPut s.pool.entries g (some { f with place := .fetched n q }) := by
  rw [State.reportFetch_of_data h hr hc, State.markFetched_of_inRing (s := s.recordFetched p) hf hp]
  rfl

/-- R25: with an own frame, or an entry that is not IN_RING, the pool is as it was. -/
theorem State.reportFetch_pool (h : s.inFlightAt p = some r) (hr : r.fetched = false)
    (hc : (∀ g m, r.carried ≠ .data g m) ∨
      ∃ g m, r.carried = .data g m ∧ ∀ f k q, s.frame g = some f → f.place ≠ .inRing k q) :
    (s.reportFetch p).pool = s.pool := by
  obtain hc | ⟨g, m, hc, hf⟩ := hc
  · rw [State.reportFetch_of_own h hr hc]
    rfl
  · rw [State.reportFetch_of_data h hr hc, State.markFetched_of_other (s := s.recordFetched p) hf]
    rfl

end Fetch

/-! ### The row of a read -/

theorem exec_descriptorFetch {s : State} {a : BitVec 32} {n : Nat} (hq : s.quiet = true)
    (hok : accessOk a.toNat n = true) :
    exec (.descriptorFetch a n) s = .next (s.access (.read a.toNat n)) := by
  refine (if_pos hok).trans ?_
  rw [State.settle_of_quiet hq]

/-- With an entry of the injection queue free, the read of one descriptor has its turn at once. -/
theorem State.takeRead_descriptor {s : State} {w : Windows} {p n : Nat} (hfull : s.queueFull = false)
    (he : s.path.engine ≠ .unanchored) (hw : s.path.windows = some w) (hp : p < w.txSize) (hn : n = 8 ∨ n = 16) :
    s.takeRead (w.txBase + 16 * p) n = s.fetchPosition p := by
  simp only [State.takeRead, State.yieldPort_of_room hfull, State.fetchedPositions_descriptor he hw hp hn]
  rfl

/-- Settles O20: the read covers its own position alone, and only a WRITTEN mark makes it a fetch; the record found in
flight there and its frame's entry give the rest. -/
theorem descriptorFetchesAreMarked : Obligations.DescriptorFetchesAreMarked := by
  intro s w a n p hq hf hfull he hw hp h256 ha hn hok
  have hwait := (State.pathFree_iff.mp hf).2
  have hexec {t : State} (ht : s.fetchPosition p = t) (hw' : t.path.waiting = []) :
      exec (.descriptorFetch a n) s = .next t := by
    rw [exec_descriptorFetch hq hok, State.access_of_free _ hf, State.takeAccess, ha,
      State.takeRead_descriptor hfull he hw hp hn, ht, State.proceed_nil hw']
  refine ⟨fun hm => hexec (State.fetchPosition_of_other hm) hwait,
    fun hm => ⟨_, hexec (State.fetchPosition_of_written hm) ?waiting, ?frame, ?mark, fun q hne => ?others,
      fun hr => ?known, fun r hr hnew => ⟨?table, fun g m f k q hc hf hpl => ?entry, fun hc => ?pool⟩⟩⟩
  case waiting => rw [State.reportFetch_path, State.setMark_path_waiting, hwait]
  case frame =>
    obtain ⟨marks, table, entries, h⟩ := s.fetched_frame p
    rw [h]
  case mark => rw [State.mark_reportFetch, State.mark_setMark_same s .fetched (by omega)]
  case others => rw [State.mark_reportFetch, State.mark_setMark_other s .fetched hne.symm]
  case known =>
    rw [← State.inFlightAt_setMark s p p .fetched] at hr
    rw [State.reportFetch_of_known hr]
    exact ⟨State.setMark_sched .., State.setMark_pool ..⟩
  all_goals rw [← State.inFlightAt_setMark s p p .fetched] at hr
  case table => exact (State.reportFetch_inFlight hr hnew).trans (State.tableFetched_setMark ..)
  case entry =>
    rw [← State.frame_setMark s p .fetched] at hf
    rw [State.reportFetch_entries hr hnew hc hf hpl, State.setMark_pool]
  case pool =>
    simp only [← State.frame_setMark s p .fetched] at hc
    exact (State.reportFetch_pool hr hnew hc).trans (State.setMark_pool ..)

/-! ### Behind a held write (R164) -/

section Held
variable {s : State} {a n : Nat} {before xs : List Access}

/-- R164: a read must wait for the held write and for every write before it that it overlaps. -/
theorem State.mustWait_read :
    s.mustWait before (.read a n) = true ↔
      overlaps a n s.path.slot.range.1 s.path.slot.range.2 = true ∨
        ∃ b d, .write b d ∈ before ∧ overlaps a n b d.length = true := by
  rw [State.mustWait, Bool.or_eq_true, List.any_eq_true]
  refine or_congr_right ⟨?_, fun ⟨b, d, hmem, hov⟩ => ⟨_, hmem, hov⟩⟩
  rintro ⟨x, hmem, hov⟩
  cases x with
  | write b d => exact ⟨b, d, hmem, hov⟩
  | read b m => cases hov

/-- An access that must wait joins those that wait. -/
theorem State.access_of_mustWait {x : Access} (h : s.mustWait s.path.waiting x = true) :
    s.access x = { s with path := { s.path with waiting := s.path.waiting ++ [x] } } := if_pos h

/-- Nothing proceeds while each access must wait for the held write or for those before it. -/
theorem State.nextWaiting_none (h : ∀ i x, xs[i]? = some x → s.mustWait (before ++ xs.take i) x = true) :
    s.nextWaiting before xs = none := by
  induction xs generalizing before with
  | nil => rfl
  | cons x xs ih =>
    have hx : s.mustWait before x = true := by simpa using h 0 x rfl
    rw [State.nextWaiting, if_pos hx]
    refine ih fun i y hy => ?_
    simpa using h (i + 1) y (by simpa using hy)

/-- What waits behind a held write waits on, when each read among it overlaps the held write or a write before it. -/
theorem State.proceed_of_held (hslot : s.path.slot ≠ .empty)
    (h : ∀ (i : Nat) b m, s.path.waiting[i]? = some (.read b m) →
      overlaps b m s.path.slot.range.1 s.path.slot.range.2 = true ∨
        ∃ (j : Nat) (c : Nat) (d : List Byte), j < i ∧ s.path.waiting[j]? = some (.write c d) ∧
          overlaps b m c d.length = true) : s.proceed = s := by
  refine State.proceedFor_of_none (State.nextWaiting_none fun i x hx => ?_)
  cases x with
  | write b d => simp [State.mustWait, hslot]
  | read b m =>
    refine State.mustWait_read.mpr ((h i b m hx).imp_right ?_)
    rintro ⟨j, c, d, hj, hc, hov⟩
    exact ⟨c, d, List.mem_of_getElem? (i := j) (by simpa [hj] using hc), hov⟩

end Held

/-- Settles O21: by `State.mustWait`; a read that passes leaves the held write and what waits as they are. -/
theorem heldWriteDelaysAccesses : Obligations.HeldWriteDelaysAccesses := by
  refine fun s a hq hslot => ⟨fun d hok => ?write, fun n hok hov => ?waits,
    fun n hok hfull hslotov hov hwait hpos => ?passes⟩
  case write =>
    refine (if_pos hok).trans ?_
    rw [State.settle_of_quiet hq, State.access_write_of_held _ _ hslot]
  case waits => rw [exec_descriptorFetch hq hok, State.access_of_mustWait (State.mustWait_read.mpr hov)]
  case passes =>
    have hgo : ¬ s.mustWait s.path.waiting (.read a.toNat n) = true := by
      rw [State.mustWait_read]
      rintro (h | ⟨b, d, hmem, h⟩)
      · exact nomatch hslotov.symm.trans h
      · exact nomatch (hov b d hmem).symm.trans h
    have hturn : s.takeAccess (.read a.toNat n) = s := State.takeAccess_of_passes hfull hpos
    rw [exec_descriptorFetch hq hok, State.access, if_neg hgo, hturn, State.proceed_of_held hslot hwait]

end Sys2Proof.Machine
end

section
/-!
PROOF. The writes the port takes (R167, R170 to R172): the head of the injection queue at its turn, and a held write that is
released, with what then proceeds.
-/

namespace Sys2Proof.Machine

/-! ### What proceeds when the slot is EMPTY (R164) -/

section Proceed
variable {s : State} {b : Nat} {e : List Byte} {rest : List Access}

/-- Accesses that only pass all do, in their order. -/
theorem State.proceed_of_passes (hslot : s.path.slot = .empty) (hfull : s.queueFull = false)
    (h : ∀ x ∈ s.path.waiting, s.onlyPasses x) :
    s.proceed = { s with mem := memAfter s.mem s.path.waiting, path := { s.path with waiting := [] } } :=
  State.proceedFor_passes hslot hfull rfl h

/-- A receive completion record in front takes the slot, and the writes behind it wait on. -/
theorem State.proceed_of_record (hslot : s.path.slot = .empty) (hw : s.path.waiting = .write b e :: rest)
    (hact : s.writeAction b e = .held) (hrest : ∀ x ∈ rest, x.isWrite = true)
    (hlen : lengthOk (rxLength e) = true) :
    s.proceed = State.issue { s with
      path := { s.path with slot := .deciding b e s.path.holdBudget, waiting := rest }
      classifier := .deciding (rxBuffer e) (rxLength e) (.header []) }
      (readAccesses .classifierHeader (rxBuffer e) 20) := by
  have hact' : State.writeAction { s with path := { s.path with waiting := rest } } b e = .held :=
    (State.writeAction_congr (s := s) rfl rfl rfl b e).trans hact
  rw [State.proceed, hw, List.length_cons, State.proceedFor_head hslot hw, State.takeAccess,
    State.takeWrite_of_held hact', State.holdRecord_of_ok hlen]
  exact State.proceedFor_of_none (State.nextWaiting_of_held (by simp) hrest [])

end Proceed

/-! ### The head of the injection queue (R171, R172) -/

section Head
variable {s : State} {what : Writer} {a : Nat} {d : List Byte} {rest : List Injected}

/-- R172: the port takes the head while no held write asks for it. -/
theorem State.headTurn_of_claimed {r : List Byte} (h : s.path.slot = .claimed a r true) : s.headTurn = true := by
  simp [State.headTurn, State.passingHeld, h]

theorem State.headWrite_of_turn (h : s.path.queue = .write what a d :: rest) (ht : s.headTurn = true) :
    s.headWrite = some what := by
  simp [State.headWrite, h, ht]

theorem State.headWrite_of_not (h : s.path.queue = .write what a d :: rest) (ht : s.headTurn = false) :
    s.headWrite = none := by
  simp [State.headWrite, h, ht]

/-- R171: what INJECTED_WRITE_TAKEN takes. -/
def Writer.plain : Writer → Bool
  | .patch => true
  | .ownFrame => true
  | .report => true
  | .anchorStatus => true
  | _ => false

theorem Writer.plain_iff :
    what.plain = true ↔ what = .patch ∨ what = .ownFrame ∨ what = .report ∨ what = .anchorStatus := by
  cases what <;> simp [Writer.plain]

theorem State.writeTaken_of_plain (h : what.plain = true) : s.writeTaken what a d = s.store a d := by
  cases what with
  | rewrite => cases h
  | descriptor p => cases h
  | skip p => cases h
  | _ => rfl

variable (hq : s.quiet = true)
include hq

theorem exec_injectedWriteTaken (hw : s.headWrite = some what) (h : what.plain = true) :
    exec .injectedWriteTaken s = .next s.takeHead := by
  change execInjectedWriteTaken s = _
  rw [execInjectedWriteTaken, State.settle_of_quiet hq, hw]
  cases what with
  | rewrite => cases h
  | descriptor p => cases h
  | skip p => cases h
  | _ => rfl

theorem exec_injectedWriteTaken_of_none (hw : s.headWrite = none) : exec .injectedWriteTaken s = .next s := by
  change execInjectedWriteTaken s = _
  rw [execInjectedWriteTaken, State.settle_of_quiet hq, hw]

theorem exec_descriptorWriteTaken {p : Nat} (hw : s.headWrite = some (.descriptor p)) :
    exec .descriptorWriteTaken s = .next s.takeHead := by
  change execDescriptorWriteTaken s = _
  rw [execDescriptorWriteTaken, State.settle_of_quiet hq, hw]

theorem exec_skipWriteTaken {p : Nat} (hw : s.headWrite = some (.skip p)) :
    exec .skipWriteTaken s = .next s.takeHead := by
  change execSkipWriteTaken s = _
  rw [execSkipWriteTaken, State.settle_of_quiet hq, hw]

theorem exec_rewriteTaken (hw : s.headWrite = some .rewrite) :
    exec .rewriteTaken s = .next s.takeHead.proceed := by
  change execRewriteTaken s = _
  rw [execRewriteTaken, State.settle_of_quiet hq, if_pos hw]

end Head

/-- Settles O23: the port takes the head at its turn (`State.headWrite`), and each writer has its own effect. -/
theorem injectedWritesReachMemory : Obligations.InjectedWritesReachMemory := by
  refine fun s a d rest hq => ⟨fun what hwhat hqueue => ⟨fun ht => ?taken, fun ht => ?waits⟩,
    fun p hqueue ht => ?descriptor, fun p hqueue ht => ⟨fun hm => ?skip, fun hm => ?discarded⟩⟩
  case taken =>
    have hplain := Writer.plain_iff.mpr hwhat
    rw [exec_injectedWriteTaken hq (State.headWrite_of_turn hqueue ht) hplain, State.takeHead_write hqueue,
      State.writeTaken_of_plain hplain]
    rfl
  case waits => exact exec_injectedWriteTaken_of_none hq (State.headWrite_of_not hqueue ht)
  case descriptor =>
    rw [exec_descriptorWriteTaken hq (State.headWrite_of_turn hqueue ht), State.takeHead_write hqueue]
    rfl
  all_goals
    rw [exec_skipWriteTaken hq (State.headWrite_of_turn hqueue ht), State.takeHead_write hqueue, State.writeTaken,
      State.skipTaken]
  case skip =>
    have hmark : s.dropHead.mark p ≠ .fetched := hm
    rw [if_neg hmark]
    rfl
  case discarded =>
    have hmark : s.dropHead.mark p = .fetched := hm
    rw [if_pos hmark]
    rfl

/-! ### The release of a held write (R167) -/

section Release
variable {s : State} {a : Nat} {d : List Byte}

/-- R167: a write that was held, or its rewrite, has been stored, and the slot is EMPTY. -/
def State.heldStored (s : State) (a : Nat) (d : List Byte) : State := (s.store a d).setSlot .empty

/-- A held write released unchanged takes the port. -/
theorem State.takeHeld_of_released (h : s.path.slot = .released a d ∨ s.path.slot = .claimed a d false)
    (hfull : s.queueFull = false) : s.takeHeld = (s.heldStored a d).proceed := by
  obtain h | h := h <;> simp only [State.takeHeld, h, State.yieldPort_of_room hfull, State.heldStored]

theorem State.heldStored_proceed_of_none (hw : s.path.waiting = []) :
    (s.heldStored a d).proceed = { s with mem := memWrite s.mem a d, path := { s.path with slot := .empty } } :=
  State.proceed_nil hw

theorem State.heldStored_proceed_of_passes (hfull : s.queueFull = false)
    (h : ∀ x ∈ s.path.waiting, s.onlyPasses x) :
    (s.heldStored a d).proceed = { s with
      mem := memAfter (memWrite s.mem a d) s.path.waiting
      path := { s.path with slot := .empty, waiting := [] } } :=
  State.proceed_of_passes (s := s.heldStored a d) rfl hfull fun x hx =>
    (State.onlyPasses_congr (s := s) rfl rfl rfl x).mpr (h x hx)

theorem State.heldStored_proceed_of_record {b : Nat} {e : List Byte} {rest : List Access}
    (hw : s.path.waiting = .write b e :: rest) (hact : s.writeAction b e = .held)
    (hrest : ∀ x ∈ rest, x.isWrite = true) (hlen : lengthOk (rxLength e) = true) :
    (s.heldStored a d).proceed = State.issue { s with
      mem := memWrite s.mem a d
      path := { s.path with slot := .deciding b e s.path.holdBudget, waiting := rest }
      classifier := .deciding (rxBuffer e) (rxLength e) (.header []) }
      (readAccesses .classifierHeader (rxBuffer e) 20) :=
  State.proceed_of_record (s := s.heldStored a d) rfl hw
    ((State.writeAction_congr (s := s) rfl rfl rfl b e).trans hact) hrest hlen

end Release

/-- Settles O22: a release stores and empties the slot, and so does the taking of the rewrite, which comes off the head of
the injection queue; what waited then proceeds (`State.heldStored`). -/
theorem heldWritesAreReleased : Obligations.HeldWritesAreReleased := by
  refine fun s a d hq => ⟨fun hslot hfull => ?unchanged, fun r rest hslot hqueue => ?rewritten⟩
  case unchanged =>
    have hexec {t : State} (ht : (s.heldStored a d).proceed = t) : exec .heldWriteTaken s = .next t := by
      change Host.Outcome.next s.settle.takeHeld = _
      rw [State.settle_of_quiet hq, State.takeHeld_of_released hslot hfull, ht]
    exact ⟨fun hw => hexec (State.heldStored_proceed_of_none hw),
      fun hpass => hexec (State.heldStored_proceed_of_passes hfull hpass),
      fun b e rest hw hact hrest hlen => hexec (State.heldStored_proceed_of_record hw hact hrest hlen)⟩
  case rewritten =>
    have hexec {t : State} (ht : (s.dropHead.heldStored a d).proceed = t) : exec .rewriteTaken s = .next t := by
      rw [exec_rewriteTaken hq (State.headWrite_of_turn hqueue (State.headTurn_of_claimed hslot)),
        State.takeHead_write hqueue]
      exact congrArg Host.Outcome.next ht
    exact ⟨fun hw => hexec (State.heldStored_proceed_of_none hw),
      fun hfull hpass => hexec (State.heldStored_proceed_of_passes hfull hpass)⟩

end Sys2Proof.Machine
end
